-- ==== Sys2Proof/Word.lean ====
section
/-! DEFINITION. The plain types every other file uses: bytes, the bit patterns the manual compares or masks,
and site times taken as one number of TU (00_scope.md, sections 5.1 to 5.3). -/

namespace Sys2Proof

/-- One byte of a cell, a message or a record. -/
abbrev Byte := BitVec 8

/-- A zone code, a zone mask or a CRC-16: compared and masked as bits. -/
abbrev Word16 := BitVec 16

/-- A digest or a CRC-32: compared as bits. -/
abbrev Word32 := BitVec 32

/-- A site time, a zone emission time or a difference of two, in TU of 100 ns, taken as one number
(00_scope.md, section 5.3). Instants computed from site time are kept exact, so they may lie before
(0, 0) or past the largest site time (log entry 8). -/
abbrev Time := Int

/-- A distribution cell of 240 bytes: an 8-byte header and a 232-byte body. -/
abbrev Cell := List Byte

end Sys2Proof
end

