-- ==== Sys2Proof/Syntax.lean ====
section
/-! DEFINITION. The commands of the block: one constructor for each row of spec/opcode_table.json. The table gives
its rows no operands and no bits; an operand here is what the row's rule says comes in with the event (log entry 4). -/

namespace Sys2Proof

/-- The two reference ports (section 1.3). -/
inductive Ref where
  | a
  | b
  deriving DecidableEq, Repr

/-- The commands: the events and operations the part takes, one row of spec/opcode_table.json each. -/
inductive Instr where
  /-- POWER_ON_RESET (R21). -/
  | powerOnReset
  /-- RESTART (R186): the debounced RESTART line is taken active. -/
  | restart
  /-- LOAD_START (R179): the RESTART line is taken inactive. -/
  | loadStart
  /-- CONFIG_READ_COMPLETE (R181): the 78 bytes of the record, in order. -/
  | configReadComplete (record : List Byte)
  /-- NO_RECORD (R180): `firstByte` says whether a first byte came within 20 ms of the request. -/
  | noRecord (firstByte : Bool)
  /-- INHIBIT_CHANGE (R187): the new debounced level. -/
  | inhibitChange (active : Bool)
  /-- OVERRIDE_CHANGE (R187): the new debounced level. -/
  | overrideChange (active : Bool)
  /-- LATCH_CLEAR (R189): the active level is taken. -/
  | latchClear
  /-- LABEL_RECORD (R3): the 6 bytes of a label record, on one reference port. -/
  | labelRecord (r : Ref) (record : List Byte)
  /-- MARK_ARRIVAL (R5): a mark on one reference port, at the present site time. -/
  | markArrival (r : Ref)
  /-- MISSING_VERDICT (R6): the expected mark of one reference has not come. -/
  | missingVerdict (r : Ref)
  /-- SECOND_BOUNDARY (R2). -/
  | secondBoundary
  /-- REPORT_SPAN_EXPIRY (R193). -/
  | reportSpanExpiry
  /-- RUNT_CELL (R23). -/
  | runtCell
  /-- CELL_TAKEN (R23): the 240 bytes of the cell. -/
  | cellTaken (cell : Cell)
  /-- FEED_LOSS (R25). -/
  | feedLoss
  /-- ASSEMBLING_LATE (R43). -/
  | assemblingLate
  /-- FRAME_RELEASE (R49). -/
  | frameRelease
  /-- CELL_INSTANT (R50). -/
  | cellInstant
  /-- FILLER_INSTANT (R52). -/
  | fillerInstant
  /-- STARVE_EXPIRY (R61). -/
  | starveExpiry
  /-- CHECK_COMPLETE (R80). -/
  | checkComplete
  /-- DECISION_INSTANT (R143): the oldest OPEN record whose decision instant is due (R145 gives the order). -/
  | decisionInstant
  /-- LOCK_INSTANT (R151) of the named break. -/
  | lockInstant (id : Nat)
  /-- END_INSTANT (R95) of the named break. -/
  | endInstant (id : Nat)
  /-- REMOVAL_INSTANT (R96) of the named break. -/
  | removalInstant (id : Nat)
  /-- WATCH_OPEN (R154) of the named break. -/
  | watchOpen (id : Nat)
  /-- WATCH_CLOSE (R154) of the named break. -/
  | watchClose (id : Nat)
  /-- ATTEMPT_START (R110). -/
  | attemptStart
  /-- DEFERRAL (R111): a transition of the receive line to `level` during the site's own guard. -/
  | deferral (level : Bool)
  /-- ECHO_WINDOW_CLOSE (R112). -/
  | echoWindowClose
  /-- ATTEMPT_END (R113). -/
  | attemptEnd
  /-- RETRY_START (R114). -/
  | retryStart
  /-- LINE_IDLE (R104). -/
  | lineIdle
  /-- PERIODIC_DUE (R116). -/
  | periodicDue
  /-- ZONE_MESSAGE (R106): the bytes of the message in reception, up to its end. -/
  | zoneMessage (bytes : List Byte)
  /-- MESSAGE_BROKEN (R107). -/
  | messageBroken
  /-- SILENCE_TIMER_EXPIRY (R130) of the named peer. -/
  | silenceTimerExpiry (site : Nat)
  /-- MONITOR_RECORD_END (R191). -/
  | monitorRecordEnd
  /-- LINE_BUSY (R104): a transition of the receive line to `level`. -/
  | lineBusy (level : Bool)
  /-- OPENING_MARK (R105): the falling edge of a high level that lasted `high` TU. -/
  | openingMark (high : Nat)
  /-- ECHO_WINDOW_OPEN (R112). -/
  | echoWindowOpen
  /-- TRANSFER_END (R57). -/
  | transferEnd
  /-- LATCH_CLEAR_RELEASE (R186). -/
  | latchClearRelease
  deriving DecidableEq, Repr

end Sys2Proof
end

