-- ==== Sys2Proof/Config.lean ====
section
/-! DEFINITION. What the manual fixes once for the part, and the free values: constants WITHOUT A BODY for what
the manual leaves open, so that no proof can see which value they have. -/

namespace Sys2Proof.Config

/-- One second in TU (00_scope.md, section 5.2). -/
abbrev second : Int := 10000000

/-- The number of site seconds before S returns to 0 (R1). -/
abbrev secondsWrap : Int := 4294967296

/-- The wrap of site time taken as one number (R1). -/
abbrev timeWrap : Int := 42949672960000000

/-- The wrap of a feed stamp, 1,024 s (section 5.4, R38). -/
abbrev stampWrap : Int := 10240000000

/-- The half-wrap of a feed stamp (section 5.4, R38). -/
abbrev halfWrap : Int := 5120000000

/-- The window half-width around a second boundary, and the mark-to-mark tolerance (R4, R5). -/
abbrev markWindow : Int := 10000

/-- The greatest value of the uncertainty U (R18). -/
abbrev uMax : Nat := 10000000

/-- The limit of the trim, in units of 10^-11 (R11, R13). -/
abbrev trimMax : Int := 1000000

/-- One part of the trim carry, in units of 10^-11 TU (R1). -/
abbrev carryPart : Nat := 100000000000

/-- The maximum of a saturating counter (section 5.7). -/
abbrev counterMax : Nat := 4294967295

/-- The emission queue's cell slots (R46). -/
abbrev queueSlots : Nat := 65536

/-- The frame table's capacity (R48). -/
abbrev frameTableMax : Nat := 64

/-- One cell time at the emission port, in TU (section 3.4 of Chapter 3). -/
abbrev cellTime : Int := 100

/-- The oscillator TU one cell transfer takes (section 3.4 of Chapter 3; log entry 10). -/
abbrev transferSpan : Nat := 100

/-- The spot store's pages (section 4.1). -/
abbrev storePages : Nat := 8192

/-- The slots of one page of the spot store (section 4.1). -/
abbrev pageSlots : Nat := 256

/-- The spot directory's capacity (R69). -/
abbrev directoryMax : Nat := 48

/-- The break table's capacity (R90). -/
abbrev breakTableMax : Nat := 8

/-- The event queue's capacity (R192). -/
abbrev eventQueueMax : Nat := 32

/-- One bit time of the zone line, in TU (section 6.2). -/
abbrev bitTime : Int := 40

/-- The oscillator TU for which a new level of a site line holds before it is taken: 10 ms (R186). -/
abbrev debounceSpan : Nat := 100000

/-- The oscillator TU of one bit of the monitor port, at 2,000,000 bit/s (R191). -/
abbrev monitorBit : Nat := 5

/-- The oscillator span after which a site report falls due, in TU (R193). -/
abbrev reportSpan : Nat := 10020000

/-- The emission limit until a VALID record has been loaded since power-on (R60). -/
abbrev emissionLimitPreload : Nat := 200

/-- The holdover growth until a VALID record has been loaded since power-on (R3). -/
abbrev growthPreload : Nat := 2

/-- The sync value of a cell (section 10.8.2). -/
abbrev syncValue : Byte := 0xB8

/-- FREE VALUE (log entry 1). The slot check code of a 232-byte body: the manual says the controller computes
one over the body and compares it at each read (R70, R78, R80), and does not say how. A slot of 256 bytes
leaves 24 bytes for it. -/
opaque slotCheck : List Byte → BitVec 192

/-- FREE VALUE (log entry 2). What a slot of the spot store that nothing has written holds, by its address:
a body and a check code. The manual calls the contents after power-on undefined (section 4.1). -/
opaque unwrittenSlot : Nat → List Byte × BitVec 192

/-- FREE VALUE (log entry 2). What a slot of the emission queue that nothing has written holds, by its
position. The manual does not say. -/
opaque unwrittenCell : Nat → List Byte

/-- FREE VALUE (log entry 3). Which of the events that are due at one instant is taken next, when the manual
gives them no order; applied to a count of the choices made. -/
opaque dueChoice : Nat → Nat

end Sys2Proof.Config
end

