-- ==== Sys2Proof/Machine/State.lean ====
section
/-! DEFINITION. The state of the FL-416, block by block, as plain data, and the state after power-on reset. Each field
cites the section of spec/ that names it; fields of the model's own say so. -/

namespace Sys2Proof.Machine

open Sys2Proof

/-! ### Named values -/

/-- Discipline states (section 1.5). -/
inductive Discipline where
  | unset | acquire | track | holdover
  deriving DecidableEq, Repr

/-- Grades (R19). -/
inductive Grade where
  | a | b | c | d
  deriving DecidableEq, Repr

/-- Verdicts on a mark (R5, R6). -/
inductive Verdict where
  | good | bad | start | missing
  deriving DecidableEq, Repr

/-- Feed states (R24). -/
inductive FeedState where
  | running | lost
  deriving DecidableEq, Repr

/-- Frame discard causes (R40, R34, R42, R43). -/
inductive DiscardCause where
  | noTime | tableFull | late | early | order | queueFull | short
  deriving DecidableEq, Repr

/-- States of a frame record (R48). -/
inductive FrameState where
  | assembling | scheduled | emitting | passed
  | discarded (cause : DiscardCause)
  deriving DecidableEq, Repr

/-- Status of a frame's service counts (R36). -/
inductive CountStatus where
  | pending | known | unknown
  deriving DecidableEq, Repr

/-- Emission states (section 3.6). -/
inductive EmissionState where
  | standby | onAir | muted | fault
  deriving DecidableEq, Repr

/-- Mute causes (section 3.7). -/
inductive MuteCause where
  | time | inhibit | starve | discardRun
  deriving DecidableEq, Repr

/-- The mute cause set: any subset of the four causes (section 3.1). -/
structure MuteSet where
  time : Bool
  inhibit : Bool
  starve : Bool
  discardRun : Bool
  deriving DecidableEq, Repr

/-- Disposition carried by a frame pass (R55). -/
inductive Disposition where
  | emitted | consumed
  | discarded (cause : DiscardCause)
  deriving DecidableEq, Repr

/-- States of a directory entry (section 4.4). -/
inductive EntryState where
  | filling | complete | checking | verified
  deriving DecidableEq, Repr

/-- Source of a SPOT_DAMAGED (section 4.10). -/
inductive DamageSource where
  | check | playout
  deriving DecidableEq, Repr

/-- Cause of a SPOT_REMOVED (R74). -/
inductive RemovalCause where
  | replaced | expired
  deriving DecidableEq, Repr

/-- States of a break record (section 5.6). -/
inductive BreakState where
  | openState | decidedGo | decidedHold | lockedGo | lockedHold | airing | ended | abandoned
  deriving DecidableEq, Repr

/-- Cue refusal causes (R89, R87, R88, R92). -/
inductive RefusalCause where
  | noTime | badInterval | lateCue | notRouted | overlap | tableFull | changedLate | cancelLate
  deriving DecidableEq, Repr

/-- Reasons of a NOT_READY stance (R122). -/
inductive NotReadyReason where
  | spotMissing | spotMismatch | time | offAir | override | duplicate | noChannel
  deriving DecidableEq, Repr

/-- Reasons of a HOLD stance (R122). -/
inductive HoldReason where
  | quorum | peer | self | heardHold | pending
  deriving DecidableEq, Repr

/-- Stances, each with its reason where it carries one (R121, R122). -/
inductive Stance where
  | notReady (reason : NotReadyReason)
  | pending
  | ready
  | go
  | hold (reason : HoldReason)
  | airing
  | ended
  | abandoned
  deriving DecidableEq, Repr

/-- Abandon causes (R98). -/
inductive AbandonCause where
  | lostStep | override
  deriving DecidableEq, Repr

/-- Split watch of a record (R154). -/
inductive SplitWatch where
  | waiting | watching | closed
  deriving DecidableEq, Repr

/-- Line states of the zone line interface (R108). -/
inductive LineState where
  | idle | receiving | transmitting | backoff
  deriving DecidableEq, Repr

/-- Kinds of announcement (R109). -/
inductive AnnouncementKind where
  | periodic | urgent
  deriving DecidableEq, Repr

/-- States of a peer record (R129). -/
inductive PeerState where
  | unheard | present | absent
  deriving DecidableEq, Repr

/-- States of an insertion channel (section 9.1). -/
inductive ChannelState where
  | idle | reserved | armed | playing | padding
  deriving DecidableEq, Repr

/-- Configuration states (section 10.1). -/
inductive ConfigState where
  | loading | valid | fault
  deriving DecidableEq, Repr

/-- Fault causes of a configuration load (R181, R180). -/
inductive LoadFault where
  | noRecord | badCheck | badFormat | tagConflict
  deriving DecidableEq, Repr

/-- Causes of a load (R184). -/
inductive LoadCause where
  | powerOn | restart
  deriving DecidableEq, Repr

/-- Alarm latches (R188). -/
inductive Latch where
  | air | time | split | fault
  deriving DecidableEq, Repr

/-- Site lines (section 10.3). -/
inductive SiteLine where
  | inhibit | override | latchClear | restart
  deriving DecidableEq, Repr

/-! ### Time base (Chapter 1) -/

/-- The validity record of one reference (sections 1.1 and 1.3). -/
structure RefRecord where
  /-- VALID or INVALID (R7). -/
  valid : Bool
  /-- Good run, 0 to 4 (R7). -/
  goodRun : Nat
  /-- Bad run, 0 to 2 (R7). -/
  badRun : Nat
  /-- Last mark of the mark-to-mark test: arrival time and label (R5). -/
  lastMark : Option (Time × Nat)
  /-- Last label taken and not yet used by a mark (R3). -/
  lastLabel : Option Nat
  /-- Expected instant and expected label of the mark-to-mark test (R4). -/
  expected : Option (Time × Nat)
  goodMarks : Nat
  badMarks : Nat
  missingMarks : Nat
  badLabels : Nat
  /-- Model's bookkeeping of R5 and R6: the boundary, as a number of seconds, of the last window in which a mark of
  this reference fell. -/
  windowMark : Option Int
  /-- Model's bookkeeping of R6: the last boundary whose window has closed and been judged. -/
  windowClosed : Int
  deriving DecidableEq, Repr

/-- A slew in progress (R17). The slew remainder of section 1.1 is what is left of `amount`. -/
structure Slew where
  /-- k, in TU, signed. -/
  amount : Int
  /-- How many of the |k| parts have been made. -/
  made : Nat
  /-- Site time counted since the mark without the slew's own parts, in TU. -/
  advanced : Nat
  deriving DecidableEq, Repr

/-- The time base (section 1.1). -/
structure TimeBase where
  /-- Site time (S, F) as one number of TU. -/
  now : Time
  /-- Trim T, in units of 10^-11. -/
  trim : Int
  /-- Trim carry, in units of 10^-11 TU. -/
  carry : Nat
  disc : Discipline
  /-- Tracked-since-power-on flag. -/
  tracked : Bool
  /-- Selected reference. -/
  selected : Option Ref
  refA : RefRecord
  refB : RefRecord
  acquireRun : Nat
  excessRun : Nat
  /-- Error history, oldest first. -/
  history : List Nat
  /-- Uncertainty U, in TU. -/
  u : Nat
  grade : Grade
  slew : Slew
  lastTaken : Option Time
  /-- Highest announced second. -/
  announced : Option Int
  stepCount : Nat
  /-- U_entry of the HOLDOVER in progress or last left (R14). -/
  uEntry : Nat
  /-- Count of second-boundary events since entry to HOLDOVER (R14). -/
  holdSeconds : Nat
  deriving DecidableEq, Repr

/-! ### Feed intake (Chapter 2) -/

/-- One entry for each stream tag: the continuity expectation and the discontinuity counter (R27). -/
structure Continuity where
  expect : Option Nat
  breaks : Nat
  deriving DecidableEq, Repr

/-- Counters of section 2.7, but for the continuity figures. -/
structure IntakeCounters where
  framing : Nat
  outside : Nat
  extra : Nat
  misfits : Nat
  malformed : Nat
  short : Nat
  gaps : Nat
  losses : Nat
  noTime : Nat
  tableFull : Nat
  late : Nat
  early : Nat
  order : Nat
  queueFull : Nat
  deriving DecidableEq, Repr

/-- The frame in assembly: the frame number of its record, absent for a frame without one, and the cells that
remain (section 2.1). -/
structure Assembly where
  record : Option Nat
  remaining : Nat
  deriving DecidableEq, Repr

/-- Feed intake (section 2.1). -/
structure Intake where
  /-- Bytes taken of the cell in reception. -/
  reception : Option Nat
  feed : FeedState
  /-- Expiry of the feed-loss timer; none while it is stopped. -/
  lossTimer : Option Time
  /-- Site time of the last good cell taken while RUNNING, carried by FEED_LOSS (R25). -/
  lastGood : Option Time
  /-- One entry per stream tag 0 to 63. -/
  continuity : List Continuity
  assembly : Option Assembly
  /-- Last complete frame number. -/
  lastComplete : Option Nat
  /-- Last accepted release time. -/
  lastAccepted : Option Time
  counters : IntakeCounters
  deriving DecidableEq, Repr

/-! ### Emission controller (Chapter 3) -/

/-- A frame record (R41, R48). -/
structure FrameRecord where
  number : Nat
  c : Time
  e : Time
  q : Time
  lead : Int
  declared : Nat
  /-- Cells taken after the head. -/
  taken : Nat
  /-- Service counts: one (tag, count) pair per routed tag. -/
  counts : List (Nat × Nat)
  status : CountStatus
  state : FrameState
  /-- First-cell position. -/
  firstSlot : Option Nat
  slotsHeld : Nat
  sent : Nat
  consumed : Nat
  cut : Nat
  deriving DecidableEq, Repr

/-- The emission queue: a ring of 65,536 cell slots (R46). `slots` lists the slots that have been written, by
position, in rising order. -/
structure CellQueue where
  slots : List (Nat × Cell)
  oldest : Nat
  nextFree : Nat
  occupancy : Nat
  /-- High flag (R47). -/
  high : Bool
  deriving DecidableEq, Repr

/-- A cell transfer at the emission port: the cell, the carrier it goes out with, and its end (R50, R52). -/
structure Transfer where
  cell : Cell
  carrier : Bool
  /-- The oscillator count at which the transfer ends (log entry 10). -/
  endsAt : Nat
  deriving DecidableEq, Repr

/-- Counters of section 3.9. -/
structure EmissionCounters where
  toAir : Nat
  consumedReleases : Nat
  passes : Nat
  cutFrames : Nat
  cutCells : Nat
  fillers : Nat
  starves : Nat
  deriving DecidableEq, Repr

/-- The emission controller (section 3.1). -/
structure Emission where
  queue : CellQueue
  /-- Frame table, oldest first. -/
  table : List FrameRecord
  /-- The frame number of the current frame. -/
  current : Option Nat
  nextCell : Option Time
  /-- A cell of the current frame has been held back at its instant (R50). -/
  heldBack : Bool
  state : EmissionState
  causes : MuteSet
  /-- Expiry of the starve timer. -/
  starve : Option Time
  discardRun : Nat
  releaseRun : Nat
  /-- The transfer in progress at the emission port. -/
  transfer : Option Transfer
  /-- The carrier-on output (R52, R57). -/
  carrier : Bool
  /-- Model's bookkeeping of R53: the site time that the last step, if it was forward, has reached. -/
  stepRun : Option Time
  counters : EmissionCounters
  deriving DecidableEq, Repr

/-! ### Spot store controller (Chapter 4) -/

/-- A spot named by its id and digest. -/
structure Spot where
  id : Nat
  digest : Word32
  deriving DecidableEq, Repr

/-- One slot of the spot store: a cell body and its slot check code (section 4.1). -/
structure Slot where
  body : List Byte
  check : BitVec 192
  deriving DecidableEq, Repr

/-- A directory entry (R69). The held count, the total cells and the frozen flag are computed from it. -/
structure Entry where
  spot : Spot
  segCount : Nat
  /-- Cells in the last segment; absent until a head of it is taken. -/
  lastCells : Option Nat
  expiry : Nat
  state : EntryState
  /-- Segment list: the page of each held segment. -/
  segs : List (Option Nat)
  prot : Nat
  freeze : Nat
  /-- Pending-failure list. -/
  pending : List Nat
  expirePending : Bool
  deriving DecidableEq, Repr

/-- The segment in assembly (section 4.3). -/
structure SegmentInFlight where
  spot : Spot
  segment : Nat
  expected : Nat
  received : Nat
  deriving DecidableEq, Repr

/-- The segment assembler (section 4.3). -/
inductive Assembler where
  | idle
  /-- The page taken, the running CRC over the bodies received and the head's segment check. -/
  | capture (seg : SegmentInFlight) (page : Nat) (running : Word32) (check : Word32)
  | skip (seg : SegmentInFlight)
  deriving DecidableEq, Repr

/-- The check in flight (R79). Its list of bad segments is formed at the completion (R80). -/
structure CheckInFlight where
  spotId : Nat
  completes : Time
  deriving DecidableEq, Repr

/-- Counters of section 4.10. -/
structure StoreCounters where
  malformed : Nat
  otherZone : Nat
  stale : Nat
  skipped : Nat
  dropped : Nat
  checkFailures : Nat
  stray : Nat
  checksRun : Nat
  badSlots : Nat
  readFailures : Nat
  deriving DecidableEq, Repr

/-- The spot store controller (section 4.1). `memory` lists the slots that have been written, by address
(page × 256 + slot), in rising order. -/
structure SpotStore where
  memory : List (Nat × Slot)
  freePages : List Nat
  /-- The spot directory, kept in ascending spot id. -/
  directory : List Entry
  assembler : Assembler
  /-- The check queue, by spot id, oldest first. -/
  checkQueue : List Nat
  check : Option CheckInFlight
  counters : StoreCounters
  deriving DecidableEq, Repr

/-! ### Cue decoder and break table (Chapter 5), with the agreement unit's items per record (Chapter 8) -/

/-- A break record (R90, section 8.1). -/
structure BreakRecord where
  id : Nat
  version : Nat
  check : Word32
  tag : Nat
  cOut : Time
  cIn : Time
  spots : List Spot
  pad : Option Spot
  state : BreakState
  /-- Stance and reason. -/
  stance : Stance
  decisionAt : Time
  lockAt : Time
  endAt : Option Time
  removalAt : Option Time
  /-- Bound channel. -/
  channel : Option Nat
  abandonCause : Option AbandonCause
  /-- Split-reported set. -/
  splitReported : List Nat
  /-- Late-hold-reported set. -/
  lateReported : List Nat
  /-- Split watch; absent before the decision (R146, R154; log entry 19). -/
  watch : Option SplitWatch
  deriving DecidableEq, Repr

/-- Counters of section 5.10. -/
structure CueCounters where
  taken : Nat
  malformed : Nat
  otherZone : Nat
  zeroId : Nat
  repeats : Nat
  accepted : Nat
  updates : Nat
  cancels : Nat
  unknownCancels : Nat
  /-- One refusal counter per cause, in the order of the causes' codes. -/
  refusals : List Nat
  deriving DecidableEq, Repr

/-- The cue decoder (section 5.1). -/
structure CueDecoder where
  /-- Break table, in order of acceptance. -/
  table : List BreakRecord
  counters : CueCounters
  deriving DecidableEq, Repr

/-! ### Zone line interface (Chapter 6) -/

/-- A message in reception (R105): its arrival time, whether it is this site's echo (R112), the bits received, first
first, and the expected middle of the next bit cell. The bytes received and the expected length of section 6.1 are
computed from the bits. -/
structure Reception where
  arrival : Time
  echo : Bool
  bits : List Bool
  middle : Time
  deriving DecidableEq, Repr

/-- The receiver (R105). -/
inductive Receiver where
  | off
  | hunt
  | message (m : Reception)
  deriving DecidableEq, Repr

/-- Which attempt the message in flight is at (R110, R114). -/
inductive Attempt where
  | first | retry
  deriving DecidableEq, Repr

/-- The message in flight (R109, R110). -/
structure InFlight where
  kind : AnnouncementKind
  attempt : Attempt
  /-- The bytes formed at the guard; empty while the message waits in BACKOFF. -/
  bytes : List Byte
  /-- Site time at which the attempt's guard began. -/
  guardAt : Time
  /-- The guard has not ended yet. -/
  inGuard : Bool
  /-- The verdict of the attempt: delivered or failed (R113). -/
  verdict : Option Bool
  deriving DecidableEq, Repr

/-- The echo window (R112). -/
inductive EchoWindow where
  | closed
  | opened (opens closes : Time) (found : Bool)
  deriving DecidableEq, Repr

/-- Counters of section 6.8. -/
structure LineCounters where
  attempts : Nat
  delivered : Nat
  urgentDelivered : Nat
  collisions : Nat
  retries : Nat
  lost : Nat
  deferrals : Nat
  merges : Nat
  intact : Nat
  checkFailures : Nat
  overCount : Nat
  broken : Nat
  deriving DecidableEq, Repr

/-- The zone line interface (section 6.1). -/
structure ZoneLine where
  line : LineState
  /-- Line activity: the site time of the last transition while the line is busy, none while it is idle. -/
  busySince : Option Time
  /-- The level of the receive line. -/
  rxLevel : Bool
  idleSince : Option Time
  receiver : Receiver
  /-- Waiting slot. -/
  slot : Option AnnouncementKind
  flight : Option InFlight
  echo : EchoWindow
  /-- Schedule: the next due instant once it is started. -/
  schedule : Option Time
  /-- The instant a back-off wait is counted from (R114); none while the line has to fall idle first. -/
  waitFrom : Option Time
  counters : LineCounters
  deriving DecidableEq, Repr

/-! ### Peer roster (Chapter 7) -/

/-- One break entry of an announcement (R121). -/
structure BreakEntry where
  id : Nat
  version : Nat
  stance : Stance
  check : Word32
  deriving DecidableEq, Repr

/-- The content of an announcement (R120). -/
structure Announcement where
  kind : AnnouncementKind
  override : Bool
  duplicate : Bool
  emission : EmissionState
  grade : Grade
  zoneCode : Word16
  site : Nat
  entries : List BreakEntry
  deriving DecidableEq, Repr

/-- A peer record (R129). -/
structure Peer where
  site : Nat
  state : PeerState
  last : Option Announcement
  lastHeard : Option Time
  /-- Expiry of the silence timer. -/
  timer : Option Time
  periodicTaken : Nat
  urgentTaken : Nat
  absences : Nat
  deriving DecidableEq, Repr

/-- The peer roster (section 7.1) with the counters of section 7.8. -/
structure PeerRoster where
  /-- The roster's site numbers, ascending. -/
  roster : List Nat
  quorum : Option Nat
  peers : List Peer
  /-- Duplicate latch. -/
  duplicate : Bool
  malformed : Nat
  otherZone : Nat
  strangers : Nat
  ownEchoes : Nat
  duplicates : Nat
  deriving DecidableEq, Repr

/-! ### Agreement unit (Chapter 8) -/

/-- Counters of section 8.7. -/
structure AgreementCounters where
  stanceChanges : Nat
  goDecisions : Nat
  holdPending : Nat
  holdQuorum : Nat
  holdPeer : Nat
  holdSelf : Nat
  reservationFailures : Nat
  reconcileHeard : Nat
  reconcileSelf : Nat
  lateHolds : Nat
  zoneSplits : Nat
  deriving DecidableEq, Repr

/-! ### Insertion channels (Chapter 9) -/

/-- One spot of a play sequence; its segment count and cells in last segment are known from the arming on. -/
structure PlayItem where
  spot : Spot
  segCount : Nat
  lastCells : Nat
  deriving DecidableEq, Repr

/-- The cursor's spot index (R162). -/
inductive SpotIndex where
  | listed (n : Nat)
  | pad
  | fill
  deriving DecidableEq, Repr

/-- A cursor into a play sequence (R162). -/
structure Cursor where
  position : Nat
  index : SpotIndex
  segment : Nat
  left : Nat
  loops : Nat
  deriving DecidableEq, Repr

/-- A frame plan (R166). It keeps a copy of the play sequence and of the break id, which a kept plan of R177 still
needs after the channel has unbound. -/
structure FramePlan where
  frame : Nat
  tag : Nat
  first : Nat
  count : Nat
  substituted : Nat
  read : Cursor
  breakId : Nat
  items : List PlayItem
  padItem : Option PlayItem
  deriving DecidableEq, Repr

/-- A channel's bound break (section 9.1). -/
structure BoundBreak where
  id : Nat
  cOut : Time
  cIn : Time
  deriving DecidableEq, Repr

/-- Counters of a channel (section 9.9). -/
structure ChannelCounters where
  binds : Nat
  ended : Nat
  lostSteps : Nat
  overrides : Nat
  framesPlanned : Nat
  positionsPlanned : Nat
  substituted : Nat
  padCells : Nat
  fillers : Nat
  readFailures : Nat
  deriving DecidableEq, Repr

/-- A channel record (section 9.1). -/
structure Channel where
  state : ChannelState
  bound : Option BoundBreak
  tag : Option Nat
  /-- Spot list in cue order; empty while absent. -/
  items : List PlayItem
  padItem : Option PlayItem
  listedLength : Nat
  padLength : Nat
  cursor : Cursor
  plan : Option FramePlan
  /-- Last failed segment: spot id and segment number. -/
  lastFailed : Option (Nat × Nat)
  counters : ChannelCounters
  deriving DecidableEq, Repr

/-- The four insertion channels and the block's own items (section 9.1). -/
structure Channels where
  chan : List Channel
  lastPass : Option Time
  lastGap : Option Time
  passCount : Nat
  deriving DecidableEq, Repr

/-! ### Site control (Chapter 10) -/

/-- The values of a VALID site configuration record, after clamping (R182, R183), with its record check. -/
structure SiteConfig where
  site : Nat
  fittedA : Bool
  fittedB : Bool
  zoneCode : Word16
  roster : List Nat
  quorum : Nat
  liveness : Nat
  offset : Int
  latency : Int
  lmin : Int
  lmax : Int
  interval : Int
  emissionLimit : Nat
  growth : Nat
  /-- Announcement period in 10 ms steps. -/
  period : Int
  starveMs : Int
  feedLossMs : Int
  almostFull : Nat
  almostEmpty : Nat
  /-- Recovery gap in bit times. -/
  gap : Int
  /-- Loop delay in bit times. -/
  loopDelay : Int
  decisionMs : Int
  lockMs : Int
  marginMs : Int
  controlTag : Nat
  assetTag : Nat
  routing : List Nat
  gateAir : Bool
  gateTime : Bool
  gateSplit : Bool
  gateFault : Bool
  check : Word32
  deriving DecidableEq, Repr

/-- The loader (R179). While READING it keeps the oscillator count of its request (R180). -/
inductive Loader where
  | waiting
  | reading (since : Nat)
  deriving DecidableEq, Repr

/-- The events of the monitor port, with what each carries (sections 1.8 to 9.9 and 10.8.8). -/
inductive Event where
  | refState (r : Ref) (valid : Bool)
  | refSwitch (old new : Option Ref)
  | timeState (old new : Discipline)
  | timeStep (amount : Int) (newSecond : Int)
  | gradeChange (old new : Grade) (u : Nat)
  | feedLoss (lastGood : Option Time)
  | feedResume (frame : Nat)
  | frameDiscard (frame : Nat) (cause : DiscardCause)
  | frameGap (last expected received : Nat)
  | emissionState (old new : EmissionState) (causes : MuteSet)
  | muteCause (cause : MuteCause) (added : Bool) (after : MuteSet)
  | frameCut (frame sent cut : Nat)
  | queueHigh (occupancy : Nat)
  | queueLow (occupancy : Nat)
  | storeFullDirectory (spot : Nat)
  | storeFullPages (spot segment : Nat)
  | versionDeferred (spot : Nat) (held offered : Word32)
  | segmentMismatch (spot segment : Nat)
  | spotVerified (spot : Spot)
  | spotDamaged (spot : Spot) (segments : Nat) (source : DamageSource)
  | spotRemoved (spot : Spot) (cause : RemovalCause)
  | breakAccepted (id version tag : Nat) (cOut cIn : Time)
  | breakUpdated (id oldVersion newVersion : Nat)
  | breakCancelled (id : Nat) (state : BreakState)
  | cueRefused (id version : Nat) (cause : RefusalCause)
  | breakState (id : Nat) (old new : BreakState)
  | breakRemoved (id : Nat) (last : BreakState)
  | announcementLost (kind : AnnouncementKind) (entries : Nat)
  | peerPresent (site : Nat)
  | peerAbsent (site : Nat) (lastHeard : Option Time)
  | duplicateSite (arrival : Time)
  | configClamp (field : Nat) (given : Int) (used : Option Int)
  | stanceChange (id : Nat) (old : Option Stance) (new : Stance)
  | decision (id : Nat) (reason : Option HoldReason) (present quorum : Nat) (peer : Option Nat)
  | lateHold (id site : Nat) (stance : Stance)
  | zoneSplit (id site : Nat) (own : BreakState) (entry : Option BreakEntry)
  | channelState (channel id : Nat) (old new : ChannelState) (position : Nat)
  | playAbandoned (channel id : Nat) (cause : AbandonCause) (held : ChannelState) (position : Nat)
  | playReadFail (channel id spot segment position : Nat)
  | configLoaded (cause : LoadCause) (check : Word32)
  | configFault (cause : LoadFault)
  | siteLine (line : SiteLine) (level : Bool)
  | alarmLatch (latch : Latch) (value : Bool)
  deriving DecidableEq, Repr

/-- An event record waiting in the queue: its sequence number, the site time of raising and the event (R192). -/
structure EventRecord where
  seq : Nat
  time : Time
  event : Event
  deriving DecidableEq, Repr

/-- A monitor record in transmission: its bytes and the oscillator count at which its last byte ends (R191). -/
structure MonitorSend where
  bytes : List Byte
  endsAt : Nat
  deriving DecidableEq, Repr

/-- The monitor port (sections 10.1, 10.5 and 10.6). -/
structure Monitor where
  /-- Event queue, front first. -/
  queue : List EventRecord
  /-- Held site report. -/
  held : Option (List Byte)
  /-- The record in transmission. -/
  sending : Option MonitorSend
  eventSeq : Nat
  reportSeq : Nat
  lostSince : Nat
  lostTotal : Nat
  eventsSent : Nat
  reportsSent : Nat
  reportsReplaced : Nat
  /-- Oscillator count at which the last report fell due (R193). -/
  lastReport : Nat
  deriving DecidableEq, Repr

/-- Site control but for the monitor port (sections 10.1 and 10.6). -/
structure SiteControl where
  config : ConfigState
  loader : Loader
  faultCause : Option LoadFault
  /-- The record in use. -/
  inUse : Option SiteConfig
  /-- What the load in progress, or last ended, was started by (R184). -/
  loadCause : LoadCause
  inhibitLine : Bool
  overrideLine : Bool
  latchClearLine : Bool
  restartLine : Bool
  /-- The RESTART line's first level has been taken since power-on (R186). -/
  restartTaken : Bool
  /-- Oscillator count at which the INHIBIT line's last change of level was taken (R186; log entry 28). -/
  inhibitSince : Nat
  /-- The same of OVERRIDE. -/
  overrideSince : Nat
  /-- The same of LATCH CLEAR. -/
  latchClearSince : Nat
  /-- The same of RESTART. -/
  restartSince : Nat
  latchAir : Bool
  latchTime : Bool
  latchSplit : Bool
  latchFault : Bool
  loads : Nat
  faults : Nat
  deriving DecidableEq, Repr

/-! ### The whole machine -/

/-- The state of the FL-416, with the queue of commands that wait. -/
structure State where
  /-- Oscillator TU since power-on (R1, R186, R193): the model's own count of the local oscillator. -/
  osc : Nat
  tb : TimeBase
  intake : Intake
  em : Emission
  store : SpotStore
  cues : CueDecoder
  zone : ZoneLine
  ros : PeerRoster
  agree : AgreementCounters
  chans : Channels
  mon : Monitor
  sc : SiteControl
  /-- The model's own field: how many free choices have been made (log entry 3). -/
  choices : Nat
  /-- The commands that wait, first in, first out. -/
  pending : List Instr
  deriving DecidableEq, Repr

/-- Why the machine stops with a fault. -/
inductive Fault where
  /-- A command's operand list does not have the length the manual gives (Instr.wellFormed): it is no event of the
  part. Raised by the meanings of CONFIG_READ_COMPLETE, LABEL_RECORD, CELL_TAKEN and ZONE_MESSAGE. Safe: the model
  stops where the part has no such event. -/
  | illFormed
  deriving DecidableEq, Repr

/-- Why the machine has no meaning for a command. -/
inductive Refusal where
  /-- The row has no meaning in the model yet; raised by `exec`'s arms alone. Safe. -/
  | notModelled (mnemonic : String)
  deriving DecidableEq, Repr

/-! ### Power-on reset -/

/-- A reference's validity record after power-on (R21). -/
def RefRecord.reset : RefRecord :=
  ⟨false, 0, 0, none, none, none, 0, 0, 0, 0, none, 0⟩

/-- The slew after power-on: no remainder (R21). -/
def Slew.none : Slew := ⟨0, 0, 0⟩

/-- The time base after power-on (R21). -/
def TimeBase.reset : TimeBase where
  now := 0
  trim := 0
  carry := 0
  disc := .unset
  tracked := false
  selected := .none
  refA := RefRecord.reset
  refB := RefRecord.reset
  acquireRun := 0
  excessRun := 0
  history := []
  u := Config.uMax
  grade := .d
  slew := Slew.none
  lastTaken := .none
  announced := .none
  stepCount := 0
  uEntry := 0
  holdSeconds := 0

/-- Feed intake after either reset (R45). -/
def Intake.reset : Intake where
  reception := none
  feed := .lost
  lossTimer := none
  lastGood := none
  continuity := List.replicate 64 ⟨none, 0⟩
  assembly := none
  lastComplete := none
  lastAccepted := none
  counters := ⟨0, 0, 0, 0, 0, 0, 0, 0, 0, 0, 0, 0, 0, 0⟩

/-- The emission queue after either reset (R63). -/
def CellQueue.reset : CellQueue := ⟨[], 0, 0, 0, false⟩

/-- The emission controller after either reset, with the mute cause set that R63 forms (R63). -/
def Emission.resetWith (causes : MuteSet) : Emission where
  queue := CellQueue.reset
  table := []
  current := none
  nextCell := none
  heldBack := false
  state := .standby
  causes := causes
  starve := none
  discardRun := 0
  releaseRun := 0
  transfer := none
  carrier := false
  stepRun := none
  counters := ⟨0, 0, 0, 0, 0, 0, 0⟩

/-- The spot store controller's counters at 0. -/
def StoreCounters.zero : StoreCounters := ⟨0, 0, 0, 0, 0, 0, 0, 0, 0, 0⟩

/-- The spot store controller after power-on (R83). -/
def SpotStore.reset : SpotStore where
  memory := []
  freePages := List.range Config.storePages
  directory := []
  assembler := .idle
  checkQueue := []
  check := none
  counters := StoreCounters.zero

/-- The cue decoder after either reset (R101, R102). -/
def CueDecoder.reset : CueDecoder := ⟨[], ⟨0, 0, 0, 0, 0, 0, 0, 0, 0, List.replicate 8 0⟩⟩

/-- The zone line interface after either reset (R118, R119), its receive line at the level it has. -/
def ZoneLine.resetAt (rxLevel : Bool) : ZoneLine where
  line := .idle
  busySince := none
  rxLevel := rxLevel
  idleSince := none
  receiver := .off
  slot := none
  flight := none
  echo := .closed
  schedule := none
  waitFrom := none
  counters := ⟨0, 0, 0, 0, 0, 0, 0, 0, 0, 0, 0, 0⟩

/-- The peer roster after a reset that leaves the duplicate latch at the value given (R135, R136). -/
def PeerRoster.resetAt (duplicate : Bool) : PeerRoster := ⟨[], none, [], duplicate, 0, 0, 0, 0, 0⟩

/-- The agreement unit's counters at 0 (R157). -/
def AgreementCounters.zero : AgreementCounters := ⟨0, 0, 0, 0, 0, 0, 0, 0, 0, 0, 0⟩

/-- The cursor of a channel after reset (section 9.1). -/
def Cursor.reset : Cursor := ⟨0, .listed 1, 0, 0, 0⟩

/-- A channel after either reset (R178). -/
def Channel.reset : Channel where
  state := .idle
  bound := none
  tag := none
  items := []
  padItem := none
  listedLength := 0
  padLength := 0
  cursor := Cursor.reset
  plan := none
  lastFailed := none
  counters := ⟨0, 0, 0, 0, 0, 0, 0, 0, 0, 0⟩

/-- The insertion channels after either reset (R178). -/
def Channels.reset : Channels := ⟨List.replicate 4 Channel.reset, none, none, 0⟩

/-- The monitor port after power-on (section 10.1). -/
def Monitor.reset : Monitor where
  queue := []
  held := none
  sending := none
  eventSeq := 0
  reportSeq := 0
  lostSince := 0
  lostTotal := 0
  eventsSent := 0
  reportsSent := 0
  reportsReplaced := 0
  lastReport := 0

/-- Site control after power-on (section 10.1, R186, R188). -/
def SiteControl.reset : SiteControl where
  config := .loading
  loader := .waiting
  faultCause := none
  inUse := none
  loadCause := .powerOn
  inhibitLine := false
  overrideLine := false
  latchClearLine := false
  restartLine := false
  restartTaken := false
  inhibitSince := 0
  overrideSince := 0
  latchClearSince := 0
  restartSince := 0
  latchAir := false
  latchTime := false
  latchSplit := false
  latchFault := false
  loads := 0
  faults := 0

/-- The machine right after power-on reset (R21, R45, R63, R83, R101, R118, R135, R157, R178, section 10.1), its queue
of commands empty. -/
def State.reset : State where
  osc := 0
  tb := TimeBase.reset
  intake := Intake.reset
  em := Emission.resetWith ⟨true, false, false, false⟩
  store := SpotStore.reset
  cues := CueDecoder.reset
  zone := ZoneLine.resetAt false
  ros := PeerRoster.resetAt false
  agree := AgreementCounters.zero
  chans := Channels.reset
  mon := Monitor.reset
  sc := SiteControl.reset
  choices := 0
  pending := []

end Sys2Proof.Machine
end

