-- ==== Sys2Proof/Machine/Ops.lean ====
section
/-! DEFINITION. The named operations every block uses: saturating counters, big-endian fields, slot memories, updates
of records in lists, and the configuration values in use. -/

namespace Sys2Proof.Machine

open Sys2Proof

/-! ### Numbers -/

/-- A saturating counter increased by `k` (section 5.7). -/
def bumpBy (n k : Nat) : Nat := min (n + k) Config.counterMax

/-- A saturating counter increased by 1 (section 5.7). -/
def bump (n : Nat) : Nat := bumpBy n 1

/-- A value clamped to a range. -/
def clampInt (lo hi v : Int) : Int := max lo (min hi v)

/-- The second S of a site time (section 5.3). -/
def secondOf (t : Time) : Int := t / Config.second

/-- The fraction F of a site time (section 5.3). -/
def fractionOf (t : Time) : Int := t % Config.second

/-! ### Byte strings -/

/-- Byte `i` of a string as a number; 0 past its end. -/
def byteAt (l : List Byte) (i : Nat) : Nat := (l.getD i 0).toNat

/-- The number in `n` bytes from byte `i`, most significant byte first (section 10.8). -/
def numAt (l : List Byte) (i : Nat) : Nat → Nat
  | 0 => 0
  | n + 1 => numAt l i n * 256 + byteAt l (i + n)

/-- A number read as signed two's complement in `n` bytes (section 10.8). -/
def signedAt (l : List Byte) (i n : Nat) : Int :=
  let v : Int := numAt l i n
  let half : Int := 2 ^ (8 * n - 1)
  if v < half then v else v - 2 * half

/-- A number as `n` bytes, most significant byte first (section 10.8). -/
def numBytes : Nat → Nat → List Byte
  | 0, _ => []
  | n + 1, v => BitVec.ofNat 8 (v / 256 ^ n) :: numBytes n v

/-- A signed number as `n` bytes in two's complement (section 10.8). -/
def intBytes (n : Nat) (v : Int) : List Byte := numBytes n (v % 2 ^ (8 * n)).toNat

/-- A value that is none, coded in `n` bytes (R197). -/
def noneBytes (n : Nat) : List Byte := List.replicate n 0xFF

/-- A site time as 8 bytes: S in 4 bytes, then F in 4 bytes (section 10.8); S is taken modulo its range. -/
def timeBytes (t : Time) : List Byte :=
  numBytes 4 (secondOf t % Config.secondsWrap).toNat ++ numBytes 4 (fractionOf t).toNat

/-! ### Slot memories: the emission queue's ring and the spot store -/

/-- The entries of a slot memory stand in strictly rising position, so that equal memories are equal lists. An
unlisted position reads as no value, so no entry can equal what an unlisted one reads as. -/
def memWf {α : Type} : List (Nat × α) → Bool
  | [] => true
  | [_] => true
  | a :: b :: rest => a.1 < b.1 && memWf (b :: rest)

/-- What a slot memory lists at a position. -/
def memRead {α : Type} : List (Nat × α) → Nat → Option α
  | [], _ => none
  | (k, v) :: rest, a => if k = a then some v else memRead rest a

/-- Write one slot, keeping the positions in rising order. -/
def memWrite {α : Type} : List (Nat × α) → Nat → α → List (Nat × α)
  | [], a, v => [(a, v)]
  | (k, w) :: rest, a, v =>
    if a < k then (a, v) :: (k, w) :: rest
    else if a = k then (a, v) :: rest
    else (k, w) :: memWrite rest a v

/-! ### Lists of records -/

/-- Update every item that satisfies a test. -/
def updateWhere {α : Type} (p : α → Bool) (f : α → α) (l : List α) : List α :=
  l.map fun x => if p x then f x else x

/-- The distinct items of a list, in the order of their first places. -/
def distinct {α : Type} [DecidableEq α] : List α → List α
  | [] => []
  | x :: rest => x :: (distinct rest).filter (fun y => y ≠ x)

/-- Insert a number into an ascending list without repeats. -/
def insertSite : Nat → List Nat → List Nat
  | n, [] => [n]
  | n, m :: rest => if n < m then n :: m :: rest else if n = m then m :: rest else m :: insertSite n rest

/-- Repeat an operation `n` times. -/
def iter {α : Type} (f : α → α) : Nat → α → α
  | 0, x => x
  | n + 1, x => iter f n (f x)

/-- Apply an operation for each item of a list in turn. -/
def forEach {α β : Type} (f : α → β → β) : List α → β → β
  | [], b => b
  | x :: rest, b => forEach f rest (f x b)

/-- An instant falls due when site time first reaches or passes it; an absent one does not (R1, section 5.5 of
Chapter 5). -/
def isDue (now : Time) : Option Time → Bool
  | none => false
  | some t => decide (t ≤ now)

/-! ### The configuration in use -/

/-- The configuration state is VALID. -/
def State.isValid (s : State) : Bool := s.sc.config == .valid

/-- The record in use, taken by the blocks that work only while the configuration is VALID; none before the first
VALID load (section 10.1). -/
def State.validConfig (s : State) : Option SiteConfig := if s.isValid then s.sc.inUse else none

/-- A number of the record in use, with the value the manual gives before a VALID record has been loaded. -/
def State.setting {α : Type} (s : State) (f : SiteConfig → α) (preload : α) : α :=
  match s.sc.inUse with
  | some c => f c
  | none => preload

/-- The reference is fitted; both are until a VALID record has been loaded (R3). -/
def State.fitted (s : State) : Ref → Bool
  | .a => s.setting SiteConfig.fittedA true
  | .b => s.setting SiteConfig.fittedB true

/-- The holdover growth H in use (R3, R22). -/
def State.growth (s : State) : Nat := s.setting SiteConfig.growth Config.growthPreload

/-- The emission limit in use (R60). -/
def State.emissionLimit (s : State) : Nat := s.setting SiteConfig.emissionLimit Config.emissionLimitPreload

/-- Milliseconds in TU (R182). -/
def msTime (ms : Int) : Time := ms * 10000

end Sys2Proof.Machine
end

