-- ==== Sys2Proof/Machine/Flags.lean ====
section
/-! DEFINITION. The check codes and the small judgements over flags and sets: CRCs (R196), the zone match (section
5.6), the grade (R19), the mute cause set (section 3.7), the alarm lines (R190). -/

namespace Sys2Proof.Machine

open Sys2Proof

/-! ### Check codes (R196) -/

/-- One shift of the reflected CRC-32 register, generator 0x04C11DB7 (its reflection is 0xEDB88320). -/
def crc32Bit (r : Word32) : Word32 := if r.getLsbD 0 then (r >>> 1) ^^^ 0xEDB88320#32 else r >>> 1

/-- The CRC-32 register after one byte, taken least significant bit first. -/
def crc32Byte (r : Word32) (b : Byte) : Word32 := iter crc32Bit 8 (r ^^^ b.setWidth 32)

/-- The CRC-32 register over a string, from the register given: it starts at all ones (R196). -/
def crc32Run (r : Word32) (l : List Byte) : Word32 := l.foldl crc32Byte r

/-- The register at the start of a CRC-32. -/
def crc32Start : Word32 := 0xFFFFFFFF#32

/-- The result of a CRC-32 register: inverted at the end (the register is kept reflected). -/
def crc32Result (r : Word32) : Word32 := ~~~r

/-- The CRC-32 of a string (R196). -/
def crc32 (l : List Byte) : Word32 := crc32Result (crc32Run crc32Start l)

/-- One shift of the CRC-16 register, generator 0x1021. -/
def crc16Bit (r : Word16) : Word16 := if r.getLsbD 15 then (r <<< 1) ^^^ 0x1021#16 else r <<< 1

/-- The CRC-16 register after one byte, taken most significant bit first. -/
def crc16Byte (r : Word16) (b : Byte) : Word16 := iter crc16Bit 8 (r ^^^ (b.setWidth 16 <<< 8))

/-- The CRC-16 of a string, the register starting at 0xFFFF (R196). -/
def crc16 (l : List Byte) : Word16 := l.foldl crc16Byte 0xFFFF#16

/-- A CRC-16 as it is sent, most significant byte first (R196). -/
def crc16Bytes (l : List Byte) : List Byte := numBytes 2 (crc16 l).toNat

/-! ### Zone match (section 5.6) -/

/-- A target matches when the two codes agree at every position the mask selects. -/
def zoneMatch (site code mask : Word16) : Bool := (site ^^^ code) &&& mask == 0#16

/-! ### Grade (R19) -/

/-- The grade that U and the discipline state give (R19). -/
def gradeOf (u : Nat) (d : Discipline) : Grade :=
  match d with
  | .unset => .d
  | .acquire => .d
  | _ => if u ≤ 10 then .a else if u ≤ 50 then .b else if u ≤ 200 then .c else .d

/-! ### Mute causes (section 3.7) -/

/-- A cause stands in the set. -/
def MuteSet.has (m : MuteSet) : MuteCause → Bool
  | .time => m.time
  | .inhibit => m.inhibit
  | .starve => m.starve
  | .discardRun => m.discardRun

/-- The set with one cause put in or taken out. -/
def MuteSet.put (m : MuteSet) (c : MuteCause) (v : Bool) : MuteSet :=
  match c with
  | .time => { m with time := v }
  | .inhibit => { m with inhibit := v }
  | .starve => { m with starve := v }
  | .discardRun => { m with discardRun := v }

/-- The set is empty. -/
def MuteSet.isEmpty (m : MuteSet) : Bool := !(m.time || m.inhibit || m.starve || m.discardRun)

/-! ### Alarm latches and lines (R188, R190) -/

/-- The value of a latch. -/
def SiteControl.latch (c : SiteControl) : Latch → Bool
  | .air => c.latchAir
  | .time => c.latchTime
  | .split => c.latchSplit
  | .fault => c.latchFault

/-- A latch put to a value. -/
def SiteControl.putLatch (c : SiteControl) (l : Latch) (v : Bool) : SiteControl :=
  match l with
  | .air => { c with latchAir := v }
  | .time => { c with latchTime := v }
  | .split => { c with latchSplit := v }
  | .fault => { c with latchFault := v }

/-- The gate of a latch in the record in use; open until the first VALID record after power-on (R190). -/
def State.gate (s : State) : Latch → Bool
  | .air => s.setting SiteConfig.gateAir true
  | .time => s.setting SiteConfig.gateTime true
  | .split => s.setting SiteConfig.gateSplit true
  | .fault => s.setting SiteConfig.gateFault true

/-- An alarm line is active while its latch is set and its gate is open (R190). -/
def State.alarmLine (s : State) (l : Latch) : Bool := s.sc.latch l && s.gate l

/-! ### Directory entries (R69) -/

/-- Held count: the segments held. -/
def Entry.held (e : Entry) : Nat := e.segs.countP Option.isSome

/-- Frozen flag: set while the freeze count is above zero (R77). -/
def Entry.frozen (e : Entry) : Bool := decide (0 < e.freeze)

/-- Total cells; absent until the cells in the last segment are known (R67). -/
def Entry.total (e : Entry) : Option Nat := e.lastCells.map fun k => (e.segCount - 1) * 256 + k

/-! ### Present count and slew remainder -/

/-- The present count: the site itself and the PRESENT peers (R131). -/
def PeerRoster.presentCount (r : PeerRoster) : Nat := 1 + r.peers.countP fun p => p.state == .present

/-- The slew remainder: the part of k not yet applied, signed (R17). -/
def Slew.remainder (w : Slew) : Int := w.amount - w.amount.sign * (w.made : Int)

end Sys2Proof.Machine
end

