-- ==== Sys2Proof/Machine/Operands.lean ====
section
/-! DEFINITION. The byte layouts that come in and go out (section 10.8), but for the monitor records: cells, frame
heads, cues, segment heads, label records, announcements and the transmitted line signal. Bits and bytes that a
layout calls ignored are set aside (R195). -/

namespace Sys2Proof.Machine

open Sys2Proof

/-! ### Cells (section 10.8.2) -/

/-- Cell kinds; a code outside the six is `other` (R28). -/
inductive CellKind where
  | programme | filler | frameHead | cue | segmentHead | segmentBody | other
  deriving DecidableEq, Repr

/-- The kind in a cell's header. -/
def cellKind (c : Cell) : CellKind :=
  match byteAt c 2 with
  | 1 => .programme
  | 2 => .filler
  | 3 => .frameHead
  | 4 => .cue
  | 5 => .segmentHead
  | 6 => .segmentBody
  | _ => .other

/-- The stream tag in a cell's header: bits 5 to 0 of byte 1. -/
def cellTag (c : Cell) : Nat := byteAt c 1 % 64

/-- The continuity count in a cell's header: bits 3 to 0 of byte 3. -/
def cellCount (c : Cell) : Nat := byteAt c 3 % 16

/-- A cell's 232-byte body. -/
def cellBody (c : Cell) : List Byte := c.drop 8

/-- A cell the part makes, its ignored bits and bytes 0 (R195). -/
def makeCell (tag kind count : Nat) (body : List Byte) : Cell :=
  [Config.syncValue, BitVec.ofNat 8 tag, BitVec.ofNat 8 kind, BitVec.ofNat 8 count, 0, 0, 0, 0] ++ body

/-- The filler body: 232 bytes of 0xFF. -/
def fillerBody : List Byte := List.replicate 232 0xFF

/-- The filler cell of R29, R52 and R168: tag 0, kind FILLER, continuity count 0. -/
def fillerCell : Cell := makeCell 0 2 0 fillerBody

/-! ### Frame heads (section 10.8.3) -/

/-- The fields of a frame head (section 2.4). -/
structure FrameHead where
  number : Nat
  stampS : Nat
  stampF : Nat
  declared : Nat
  deriving DecidableEq, Repr

/-- The fields in a frame head's body. -/
def frameHeadOf (body : List Byte) : FrameHead :=
  ⟨numAt body 0 2, numAt body 2 2 % 1024, numAt body 4 4, numAt body 8 2⟩

/-- A frame head is well formed when N lies from 1 to 4,096 and f from 0 to 9,999,999 (R31). -/
def FrameHead.ok (h : FrameHead) : Bool :=
  decide (1 ≤ h.declared) && decide (h.declared ≤ 4096) && decide (h.stampF ≤ 9999999)

/-- Stamp resolution (R38): the zone emission time of a stamp (s, f) taken at arrival time A. -/
def resolveStamp (arrival : Time) (s f : Nat) : Time :=
  let w := arrival % Config.stampWrap
  let raw := (s : Int) * Config.second + f - w
  let d0 :=
    if raw < -Config.halfWrap then raw + Config.stampWrap
    else if raw ≥ Config.halfWrap then raw - Config.stampWrap
    else raw
  arrival + d0

/-! ### Cues (section 10.8.4) -/

/-- The content of a BREAK cue (section 5.2). -/
structure BreakCue where
  id : Nat
  version : Nat
  check : Word32
  tag : Nat
  outS : Nat
  outF : Nat
  inS : Nat
  inF : Nat
  spots : List Spot
  pad : Option Spot
  deriving DecidableEq, Repr

/-- What a well-formed cue asks. -/
inductive CueAction where
  | breakCue (content : BreakCue)
  | cancel (id : Nat)
  deriving DecidableEq, Repr

/-- A well-formed cue: its target and what it asks. -/
structure Cue where
  zoneCode : Word16
  zoneMask : Word16
  action : CueAction
  deriving DecidableEq, Repr

/-- The spot item in 8 bytes from byte `i`: spot id, digest. -/
def spotAt (body : List Byte) (i : Nat) : Spot := ⟨numAt body i 4, BitVec.ofNat 32 (numAt body (i + 4) 4)⟩

/-- No spot id appears with two different digests, and none is 0 (R85). -/
def spotsConsistent (l : List Spot) : Bool :=
  l.all fun x => x.id != 0 && l.all fun y => x.id != y.id || x.digest == y.digest

/-- The spots a spot list and a pad name, in list order and then the pad. -/
def namedSpots (spots : List Spot) (pad : Option Spot) : List Spot := distinct (spots ++ pad.toList)

/-- The content of a BREAK cue's body. -/
def breakCueOf (body : List Byte) : BreakCue where
  id := numAt body 2 2
  version := byteAt body 1
  check := crc32 body
  tag := byteAt body 8
  outS := numAt body 11 2 % 1024
  outF := numAt body 13 4
  inS := numAt body 17 2 % 1024
  inF := numAt body 19 4
  spots := ((List.range 4).take (byteAt body 9)).map fun k => spotAt body (23 + 8 * k)
  pad := if byteAt body 10 = 0 then none else some (spotAt body 55)

/-- A BREAK cue is well formed (R85): 1 to 4 list items, no id 0, no id with two digests, both fractions in range. -/
def breakCueOk (body : List Byte) : Bool :=
  let c := breakCueOf body
  decide (1 ≤ byteAt body 9) && decide (byteAt body 9 ≤ 4) && spotsConsistent (c.spots ++ c.pad.toList)
    && decide (c.outF ≤ 9999999) && decide (c.inF ≤ 9999999)

/-- The cue in a cue cell's body; none when it is not well formed (R85). A CANCEL is judged by bytes 0 and 2 to 7
alone (section 10.8.4). -/
def cueOf (body : List Byte) : Option Cue :=
  let zone := BitVec.ofNat 16 (numAt body 4 2)
  let mask := BitVec.ofNat 16 (numAt body 6 2)
  match byteAt body 0 with
  | 1 => if breakCueOk body then some ⟨zone, mask, .breakCue (breakCueOf body)⟩ else none
  | 2 => some ⟨zone, mask, .cancel (numAt body 2 2)⟩
  | _ => none

/-! ### Segment heads (section 10.8.5) -/

/-- The fields of a segment head (section 4.2). -/
structure SegmentHead where
  spot : Spot
  segment : Nat
  segCount : Nat
  cells : Nat
  check : Word32
  zoneCode : Word16
  zoneMask : Word16
  expiry : Nat
  deriving DecidableEq, Repr

/-- The fields in a segment head's body. -/
def segmentHeadOf (body : List Byte) : SegmentHead where
  spot := spotAt body 0
  segment := numAt body 8 2
  segCount := numAt body 10 2
  cells := numAt body 12 2
  check := BitVec.ofNat 32 (numAt body 14 4)
  zoneCode := BitVec.ofNat 16 (numAt body 18 2)
  zoneMask := BitVec.ofNat 16 (numAt body 20 2)
  expiry := numAt body 22 4

/-- The head is of the last segment of its spot. -/
def SegmentHead.isLast (h : SegmentHead) : Bool := h.segment + 1 == h.segCount

/-- A segment head is well formed (R64). -/
def SegmentHead.ok (h : SegmentHead) : Bool :=
  h.spot.id != 0 && decide (1 ≤ h.segCount) && decide (h.segCount ≤ 1024) && decide (h.segment < h.segCount)
    && decide (1 ≤ h.cells) && decide (h.cells ≤ 256) && (h.isLast || h.cells == 256)

/-! ### Label records (section 10.8.6) -/

/-- The second number of a label record whose check holds (R3, R196). -/
def labelOf (record : List Byte) : Option Nat :=
  if crc16 (record.take 4) = BitVec.ofNat 16 (numAt record 4 2) then some (numAt record 0 4) else none

/-! ### Announcements (section 10.8.6) -/

/-- The code of a stance. -/
def Stance.code : Stance → Nat
  | .notReady _ => 0
  | .pending => 1
  | .ready => 2
  | .go => 3
  | .hold _ => 4
  | .airing => 5
  | .ended => 6
  | .abandoned => 7

/-- The code of a NOT_READY reason. -/
def NotReadyReason.code : NotReadyReason → Nat
  | .spotMissing => 1
  | .spotMismatch => 2
  | .time => 3
  | .offAir => 4
  | .override => 5
  | .duplicate => 6
  | .noChannel => 7

/-- The code of a HOLD reason. -/
def HoldReason.code : HoldReason → Nat
  | .quorum => 8
  | .peer => 9
  | .self => 10
  | .heardHold => 11
  | .pending => 12

/-- The code of a stance's reason; 0 for none (R122). -/
def Stance.reasonCode : Stance → Nat
  | .notReady r => r.code
  | .hold r => r.code
  | _ => 0

/-- The stance that a stance code and a reason code name together; none when either is outside its codes (R124). -/
def stanceOfCodes (stance reason : Nat) : Option Stance :=
  match stance, reason with
  | 0, 1 => some (.notReady .spotMissing)
  | 0, 2 => some (.notReady .spotMismatch)
  | 0, 3 => some (.notReady .time)
  | 0, 4 => some (.notReady .offAir)
  | 0, 5 => some (.notReady .override)
  | 0, 6 => some (.notReady .duplicate)
  | 0, 7 => some (.notReady .noChannel)
  | 1, 0 => some .pending
  | 2, 0 => some .ready
  | 3, 0 => some .go
  | 4, 8 => some (.hold .quorum)
  | 4, 9 => some (.hold .peer)
  | 4, 10 => some (.hold .self)
  | 4, 11 => some (.hold .heardHold)
  | 4, 12 => some (.hold .pending)
  | 5, 0 => some .airing
  | 6, 0 => some .ended
  | 7, 0 => some .abandoned
  | _, _ => none

/-- The code of a grade (byte 0 of the announcement). -/
def Grade.code : Grade → Nat
  | .a => 0
  | .b => 1
  | .c => 2
  | .d => 3

/-- The code of an emission state (byte 0 of the announcement). -/
def EmissionState.code : EmissionState → Nat
  | .standby => 0
  | .onAir => 1
  | .muted => 2
  | .fault => 3

/-- The grade of a code. -/
def gradeOfCode : Nat → Grade
  | 0 => .a
  | 1 => .b
  | 2 => .c
  | _ => .d

/-- The emission state of a code. -/
def emissionOfCode : Nat → EmissionState
  | 0 => .standby
  | 1 => .onAir
  | 2 => .muted
  | _ => .fault

/-- The code of an announcement kind (byte 0, bit 7). -/
def AnnouncementKind.code : AnnouncementKind → Nat
  | .periodic => 0
  | .urgent => 1

/-- The 8 bytes of one break entry. -/
def BreakEntry.bytes (e : BreakEntry) : List Byte :=
  numBytes 2 e.id ++ [BitVec.ofNat 8 e.version, BitVec.ofNat 8 (e.stance.code * 16 + e.stance.reasonCode)]
    ++ numBytes 4 e.check.toNat

/-- The header and entries of an announcement, before its CRC-16. -/
def Announcement.plain (a : Announcement) : List Byte :=
  [BitVec.ofNat 8 (a.kind.code * 128 + a.override.toNat * 64 + a.duplicate.toNat * 32 + a.emission.code * 8
      + a.grade.code * 2)]
    ++ numBytes 2 a.zoneCode.toNat ++ [BitVec.ofNat 8 a.site, BitVec.ofNat 8 a.entries.length]
    ++ a.entries.flatMap BreakEntry.bytes

/-- The message bytes of an announcement, its CRC-16 last (R106, R120): 7 + 8 × n bytes. -/
def Announcement.bytes (a : Announcement) : List Byte := a.plain ++ crc16Bytes a.plain

/-- The break entry in 8 bytes from byte `i`; none when its stance or reason code names nothing (R124). -/
def entryAt (m : List Byte) (i : Nat) : Option BreakEntry :=
  match stanceOfCodes (byteAt m (i + 3) / 16) (byteAt m (i + 3) % 16) with
  | none => none
  | some st => some ⟨numAt m i 2, byteAt m (i + 2), st, BitVec.ofNat 32 (numAt m (i + 4) 4)⟩

/-- The first `n` break entries of a message; none when one of them names nothing. -/
def entriesOf (m : List Byte) : Nat → Option (List BreakEntry)
  | 0 => some []
  | n + 1 =>
    match entriesOf m n, entryAt m (5 + 8 * n) with
    | some l, some e => some (l ++ [e])
    | _, _ => none

/-- Every break id is 1 or more, and no two entries carry one id (R124). -/
def entryIdsOk (l : List BreakEntry) : Bool :=
  l.all (fun e => e.id != 0) && (l.map BreakEntry.id).Nodup

/-- The content of an intact message; none when it is not well formed (R124). -/
def announcementOf (m : List Byte) : Option Announcement :=
  match entriesOf m (byteAt m 4) with
  | none => none
  | some entries =>
    if entryIdsOk entries then
      some {
        kind := if byteAt m 0 / 128 % 2 = 1 then .urgent else .periodic
        override := byteAt m 0 / 64 % 2 == 1
        duplicate := byteAt m 0 / 32 % 2 == 1
        emission := emissionOfCode (byteAt m 0 / 8 % 4)
        grade := gradeOfCode (byteAt m 0 / 2 % 4)
        zoneCode := BitVec.ofNat 16 (numAt m 1 2)
        site := byteAt m 3
        entries := entries }
    else none

/-- The check of a complete message holds (R106). -/
def messageCheckOk (m : List Byte) : Bool :=
  crc16 (m.take (m.length - 2)) == BitVec.ofNat 16 (numAt m (m.length - 2) 2)

/-! ### The transmitted line signal (R103) -/

/-- The two half-bit levels of one diphase bit: a 1 is high then low, a 0 low then high. -/
def diphase (b : Bool) : List Bool := [b, !b]

/-- The bits of a byte, most significant first. -/
def byteBits (b : Byte) : List Bool := (List.range 8).map fun i => b.getLsbD (7 - i)

/-- The levels of a transmission, one for each half bit time: guard, opening mark, message and closing (R103). -/
def lineSignal (m : List Byte) : List Bool :=
  let data := (m.flatMap byteBits).flatMap diphase
  [false, false, false, false] ++ [true, true, true, true, false, false] ++ data
    ++ [data.getLastD false, data.getLastD false]

/-- A transmission's length in TU: 8 × (bytes) + 6 bit times (R103). -/
def signalTime (m : List Byte) : Time := (8 * (m.length : Int) + 6) * Config.bitTime

/-- The level at which the site drives its transmit line, `t` TU after its guard began; none once it has released
the line (R103). -/
def lineLevelAt (m : List Byte) (t : Time) : Option Bool :=
  if t < 0 then none else (lineSignal m)[(t / 20).toNat]?

/-! ### The received line signal (R105 to R107) -/

/-- A transition of the receive line: its site time, and the level it goes to. -/
structure Transition where
  time : Time
  level : Bool
  deriving DecidableEq, Repr

/-- The transitions of a line that takes the levels given, one for each half bit time from `t` on, after level `was`. -/
def transitionsOf (was : Bool) (t : Time) : List Bool → List Transition
  | [] => []
  | l :: rest => if l = was then transitionsOf l (t + 20) rest else ⟨t, l⟩ :: transitionsOf l (t + 20) rest

/-- The byte of eight bits, the first received the most significant (R105). -/
def byteOfBits (bits : List Bool) : Byte := BitVec.ofNat 8 (bits.foldl (fun v b => 2 * v + b.toNat) 0)

/-- The first `n` bytes of a string of bits. -/
def bytesOfBits : Nat → List Bool → List Byte
  | 0, _ => []
  | n + 1, bits => byteOfBits (bits.take 8) :: bytesOfBits n (bits.drop 8)

/-- The bytes received so far: every eight bits make a byte (R105). -/
def Reception.bytes (m : Reception) : List Byte := bytesOfBits (m.bits.length / 8) m.bits

/-- The expected length: known once the byte with the entry count has been received; a count above 8 ends the message
at that byte (R106). -/
def Reception.expected (m : Reception) : Option Nat :=
  match m.bytes[4]? with
  | some n => some (if n.toNat > 8 then 5 else 7 + 8 * n.toNat)
  | none => none

/-- The bytes of a message that has reached its end: it ends at the transition in the middle of its last cell (R105, R106;
DESIGN CHOICE, log entry 65). -/
def Reception.complete (m : Reception) : Option (List Byte) :=
  if m.expected = some m.bytes.length then some m.bytes else none

/-- A transition within a quarter bit time, 10 TU, of the expected middle gives the cell's bit, rising 0 and falling 1, and
the middle of the next cell is expected a bit time later; any other carries no bit (R105). -/
def Reception.transition (m : Reception) (now : Time) (level : Bool) : Reception :=
  if m.middle - 10 ≤ now ∧ now ≤ m.middle + 10 then
    { m with bits := m.bits ++ [!level], middle := now + Config.bitTime }
  else m

/-- The cell in reception has no transition within a quarter bit time of its expected middle (R107): the message breaks
once site time is past that quarter (DESIGN CHOICE, log entry 65). -/
def Reception.missed (m : Reception) (now : Time) : Bool := m.complete.isNone && decide (m.middle + 10 < now)

/-- A message from its opening mark on, no bit received: the first bit cell begins 3 bit times after the mark's rising
edge (R105). -/
def Reception.start (arrival : Time) (echo : Bool) : Reception := ⟨arrival, echo, [], arrival + 7 * Config.bitTime / 2⟩

/-- The receiver takes a transition of the line (R105). -/
def Receiver.transition (now : Time) (level : Bool) : Receiver → Receiver
  | .message m => .message (m.transition now level)
  | .hunt => .hunt
  | .off => .off

end Sys2Proof.Machine
end

