-- ==== Sys2Proof/Machine/ConfigRecord.lean ====
section
/-! DEFINITION. The site configuration record: its layout (section 10.8.7), its defaults and clamps (R182), the
routing list (R183), the roster and the quorum (R133, R134), and its judgement (R181). -/

namespace Sys2Proof.Machine

open Sys2Proof

/-- A value clamped to its range, with the CONFIG_CLAMP it reports when that changes it (R182). `field` is the offset
of the field's first byte. -/
def clampField (field : Nat) (lo hi v : Int) : Int × List Event :=
  let used := clampInt lo hi v
  (used, if used = v then [] else [.configClamp field v (some used)])

/-- Whether the defaults mask asks for the default of its bit. -/
def wantsDefault (m : List Byte) (bit : Nat) : Bool := (numAt m 2 2).testBit bit

/-- A field's value, or its default where the mask asks for it, clamped (R182). -/
def maskedField (m : List Byte) (bit field : Nat) (given default lo hi : Int) : Int × List Event :=
  clampField field lo hi (if wantsDefault m bit then default else given)

/-- The site numbers of a 16-bit set (section 10.8.7). -/
def sitesOfSet (set : Nat) : List Nat := (List.range 16).filter fun n => set.testBit n

/-- A set of site numbers as a 16-bit number (R197). -/
def setOfSites (l : List Nat) : Nat := l.foldl (fun a n => a ||| 2 ^ n) 0

/-- The roster: the record's set with the own number added if it is missing, reported at the roster field (R133). -/
def rosterField (set own : Nat) : List Nat × List Event :=
  let sites := sitesOfSet set
  if sites.contains own then (sites, [])
  else
    let used := insertSite own sites
    (used, [.configClamp 8 set (some (setOfSites used))])

/-- The routing list built so far, with what it reports (R183). -/
structure Routing where
  kept : List Nat
  reports : List Event
  deriving DecidableEq, Repr

/-- One entry of the routing list: clamped to 63, dropped when it is tag 0, the control tag, the asset tag or an
entry already kept (R183). -/
def routeEntry (control asset : Nat) (acc : Routing) (given : Nat) : Routing :=
  let tag := min given 63
  let clamps := if tag = given then [] else [Event.configClamp 57 given (some tag)]
  if tag = 0 || tag = control || tag = asset || acc.kept.contains tag then
    ⟨acc.kept, acc.reports ++ clamps ++ [.configClamp 57 given none]⟩
  else ⟨acc.kept ++ [tag], acc.reports ++ clamps⟩

/-- The routing list of a record, its length clamped to 16 first (R183). -/
def routingField (m : List Byte) (control asset : Nat) : Routing :=
  let len := clampField 56 0 16 (byteAt m 56)
  let entries := (List.range 16).take len.1.toNat |>.map fun k => byteAt m (57 + k)
  entries.foldl (routeEntry control asset) ⟨[], len.2⟩

/-- The values of a record after clamping, and the CONFIG_CLAMP events in field order (R182, R183). -/
def clampRecord (m : List Byte) : SiteConfig × List Event :=
  let site := clampField 4 0 15 (byteAt m 4)
  let roster := rosterField (numAt m 8 2) site.1.toNat
  let size : Int := roster.1.length
  let quorum := maskedField m 0 10 (byteAt m 10) (size / 2 + 1) 1 size
  let liveness := maskedField m 1 11 (byteAt m 11) 4 2 16
  let offset := clampField 12 (-500000) 500000 (signedAt m 12 4)
  let latency := clampField 16 0 1000000 (numAt m 16 4)
  let lmin := maskedField m 2 20 (numAt m 20 4) 100000 10000 10000000
  let lmax := maskedField m 3 24 (numAt m 24 4) 20000000 lmin.1 50000000
  let interval := maskedField m 4 28 (numAt m 28 2) 800 100 10000
  let limit := maskedField m 5 30 (numAt m 30 2) 200 10 5000
  let growth := maskedField m 6 32 (byteAt m 32) 2 0 255
  let period := maskedField m 7 33 (byteAt m 33) 25 10 100
  let starve := maskedField m 8 34 (numAt m 34 2) 2000 500 10000
  let loss := maskedField m 9 36 (numAt m 36 2) 100 20 1000
  let full := maskedField m 10 38 (numAt m 38 4) 57344 1024 65536
  let empty := maskedField m 11 42 (numAt m 42 4) 4096 0 (full.1 - 1024)
  let gap := maskedField m 12 46 (byteAt m 46) 16 8 64
  let loop := clampField 47 0 64 (byteAt m 47)
  let decision := maskedField m 13 48 (numAt m 48 2) 3000 1000 30000
  let lock := maskedField m 14 50 (numAt m 50 2) 1000 200 (decision.1 - 500)
  let margin := maskedField m 15 52 (numAt m 52 2) 4000 1000 60000
  let control := clampField 54 1 63 (byteAt m 54)
  let asset := clampField 55 1 63 (byteAt m 55)
  let routing := routingField m control.1.toNat asset.1.toNat
  let config : SiteConfig := {
    site := site.1.toNat
    fittedA := (byteAt m 5).testBit 0
    fittedB := (byteAt m 5).testBit 1
    zoneCode := BitVec.ofNat 16 (numAt m 6 2)
    roster := roster.1
    quorum := quorum.1.toNat
    liveness := liveness.1.toNat
    offset := offset.1
    latency := latency.1
    lmin := lmin.1
    lmax := lmax.1
    interval := interval.1
    emissionLimit := limit.1.toNat
    growth := growth.1.toNat
    period := period.1
    starveMs := starve.1
    feedLossMs := loss.1
    almostFull := full.1.toNat
    almostEmpty := empty.1.toNat
    gap := gap.1
    loopDelay := loop.1
    decisionMs := decision.1
    lockMs := lock.1
    marginMs := margin.1
    controlTag := control.1.toNat
    assetTag := asset.1.toNat
    routing := routing.kept
    gateAir := (byteAt m 73).testBit 0
    gateTime := (byteAt m 73).testBit 1
    gateSplit := (byteAt m 73).testBit 2
    gateFault := (byteAt m 73).testBit 3
    check := BitVec.ofNat 32 (numAt m 74 4) }
  (config, site.2 ++ roster.2 ++ quorum.2 ++ liveness.2 ++ offset.2 ++ latency.2 ++ lmin.2 ++ lmax.2 ++ interval.2
    ++ limit.2 ++ growth.2 ++ period.2 ++ starve.2 ++ loss.2 ++ full.2 ++ empty.2 ++ gap.2 ++ loop.2 ++ decision.2
    ++ lock.2 ++ margin.2 ++ control.2 ++ asset.2 ++ routing.reports)

/-- How a complete record is judged (R181). -/
inductive Judgement where
  | valid (config : SiteConfig) (clamps : List Event)
  | fault (cause : LoadFault) (clamps : List Event)
  deriving DecidableEq, Repr

/-- The judgement of a complete record, its tests in order (R181). A record that fails test 1 or 2 is not clamped. -/
def judgeRecord (m : List Byte) : Judgement :=
  if crc32 (m.take 74) ≠ BitVec.ofNat 32 (numAt m 74 4) then .fault .badCheck []
  else if numAt m 0 2 ≠ 0x3C01 then .fault .badFormat []
  else
    let r := clampRecord m
    if r.1.controlTag = r.1.assetTag then .fault .tagConflict r.2 else .valid r.1 r.2

end Sys2Proof.Machine
end

