-- ==== Sys2Proof/Machine/EventBytes.lean ====
section
/-! DEFINITION. The coding of event records (R197, section 10.8.8): the codes of the named values and the bytes of
every event. -/

namespace Sys2Proof.Machine

open Sys2Proof

/-! ### Codes of the named values -/

/-- A flag, level or latch value, or added (1) and removed (0). -/
def boolByte (b : Bool) : List Byte := [if b then 1 else 0]

/-- A named value, tag, site number or other one-byte number. -/
def codeByte (n : Nat) : List Byte := [BitVec.ofNat 8 n]

/-- A one-byte value that may be none. -/
def codeByte? : Option Nat → List Byte
  | some n => codeByte n
  | none => noneBytes 1

/-- A site time that may be none. -/
def timeBytes? : Option Time → List Byte
  | some t => timeBytes t
  | none => noneBytes 8

def Ref.code : Ref → Nat
  | .a => 0
  | .b => 1

/-- A selection: A, B or none (code 2). -/
def selectionCode : Option Ref → Nat
  | some r => Ref.code r
  | none => 2

def Discipline.code : Discipline → Nat
  | .unset => 0
  | .acquire => 1
  | .track => 2
  | .holdover => 3

def FeedState.code : FeedState → Nat
  | .running => 0
  | .lost => 1

def DiscardCause.code : DiscardCause → Nat
  | .noTime => 0
  | .tableFull => 1
  | .late => 2
  | .early => 3
  | .order => 4
  | .queueFull => 5
  | .short => 6

def MuteCause.code : MuteCause → Nat
  | .time => 0
  | .inhibit => 1
  | .starve => 2
  | .discardRun => 3

/-- The mute cause set: bit k set for the cause of code k (R197). -/
def MuteSet.code (m : MuteSet) : Nat :=
  m.time.toNat + 2 * m.inhibit.toNat + 4 * m.starve.toNat + 8 * m.discardRun.toNat

def EntryState.code : EntryState → Nat
  | .filling => 0
  | .complete => 1
  | .checking => 2
  | .verified => 3

def DamageSource.code : DamageSource → Nat
  | .check => 0
  | .playout => 1

def RemovalCause.code : RemovalCause → Nat
  | .replaced => 0
  | .expired => 1

def BreakState.code : BreakState → Nat
  | .openState => 0
  | .decidedGo => 1
  | .decidedHold => 2
  | .lockedGo => 3
  | .lockedHold => 4
  | .airing => 5
  | .ended => 6
  | .abandoned => 7

def RefusalCause.code : RefusalCause → Nat
  | .noTime => 0
  | .badInterval => 1
  | .lateCue => 2
  | .notRouted => 3
  | .overlap => 4
  | .tableFull => 5
  | .changedLate => 6
  | .cancelLate => 7

def LineState.code : LineState → Nat
  | .idle => 0
  | .receiving => 1
  | .transmitting => 2
  | .backoff => 3

/-- The waiting slot: PERIODIC, URGENT or empty (code 2). -/
def slotCode : Option AnnouncementKind → Nat
  | some k => k.code
  | none => 2

def Attempt.code : Attempt → Nat
  | .first => 0
  | .retry => 1

def PeerState.code : PeerState → Nat
  | .unheard => 0
  | .present => 1
  | .absent => 2

def SplitWatch.code : SplitWatch → Nat
  | .waiting => 0
  | .watching => 1
  | .closed => 2

def ChannelState.code : ChannelState → Nat
  | .idle => 0
  | .reserved => 1
  | .armed => 2
  | .playing => 3
  | .padding => 4

def AbandonCause.code : AbandonCause → Nat
  | .lostStep => 0
  | .override => 1

def SpotIndex.code : SpotIndex → Nat
  | .listed n => n
  | .pad => 5
  | .fill => 6

def ConfigState.code : ConfigState → Nat
  | .loading => 0
  | .valid => 1
  | .fault => 2

def LoadFault.code : LoadFault → Nat
  | .noRecord => 1
  | .badCheck => 2
  | .badFormat => 3
  | .tagConflict => 4

/-- The fault cause; 0 for none. -/
def faultCode : Option LoadFault → Nat
  | some f => f.code
  | none => 0

def LoadCause.code : LoadCause → Nat
  | .powerOn => 0
  | .restart => 1

def SiteLine.code : SiteLine → Nat
  | .inhibit => 0
  | .override => 1
  | .latchClear => 2
  | .restart => 3

def Latch.code : Latch → Nat
  | .air => 0
  | .time => 1
  | .split => 2
  | .fault => 3

/-- A stance and its reason, one byte each (R197). -/
def stanceBytes (st : Stance) : List Byte := codeByte st.code ++ codeByte st.reasonCode

/-- A stance and its reason where there may be no stance: 0xFF, and no reason (R197). -/
def stanceBytes? : Option Stance → List Byte
  | some st => stanceBytes st
  | none => noneBytes 1 ++ codeByte 0

/-- A spot as its id and its digest, 4 bytes each. -/
def spotBytes (x : Spot) : List Byte := numBytes 4 x.id ++ numBytes 4 x.digest.toNat

/-! ### Event records -/

/-- The code of an event (section 10.8.8). -/
def Event.code : Event → Nat
  | .refState .. => 1
  | .refSwitch .. => 2
  | .timeState .. => 3
  | .timeStep .. => 4
  | .gradeChange .. => 5
  | .feedLoss .. => 6
  | .feedResume .. => 7
  | .frameDiscard .. => 8
  | .frameGap .. => 9
  | .emissionState .. => 10
  | .muteCause .. => 11
  | .frameCut .. => 12
  | .queueHigh .. => 13
  | .queueLow .. => 14
  | .storeFullDirectory .. => 15
  | .storeFullPages .. => 16
  | .versionDeferred .. => 17
  | .segmentMismatch .. => 18
  | .spotVerified .. => 19
  | .spotDamaged .. => 20
  | .spotRemoved .. => 21
  | .breakAccepted .. => 22
  | .breakUpdated .. => 23
  | .breakCancelled .. => 24
  | .cueRefused .. => 25
  | .breakState .. => 26
  | .breakRemoved .. => 27
  | .announcementLost .. => 28
  | .peerPresent .. => 29
  | .peerAbsent .. => 30
  | .duplicateSite .. => 31
  | .configClamp .. => 32
  | .stanceChange .. => 33
  | .decision .. => 34
  | .lateHold .. => 35
  | .zoneSplit .. => 36
  | .channelState .. => 37
  | .playAbandoned .. => 38
  | .playReadFail .. => 39
  | .configLoaded .. => 40
  | .configFault .. => 41
  | .siteLine .. => 42
  | .alarmLatch .. => 43

/-- An event's arguments, in the order of its table's "Carries" column (R197). -/
def Event.args : Event → List Byte
  | .refState r v => codeByte (Ref.code r) ++ boolByte v
  | .refSwitch o n => codeByte (selectionCode o) ++ codeByte (selectionCode n)
  | .timeState o n => codeByte o.code ++ codeByte n.code
  | .timeStep k n => intBytes 4 k ++ numBytes 4 n.toNat
  | .gradeChange o n u => codeByte o.code ++ codeByte n.code ++ numBytes 4 u
  | .feedLoss t => timeBytes? t
  | .feedResume n => numBytes 2 n
  | .frameDiscard n c => numBytes 2 n ++ codeByte c.code
  | .frameGap m e n => numBytes 2 m ++ numBytes 2 e ++ numBytes 2 n
  | .emissionState o n m => codeByte o.code ++ codeByte n.code ++ codeByte m.code
  | .muteCause c a m => codeByte c.code ++ boolByte a ++ codeByte m.code
  | .frameCut n sent cut => numBytes 2 n ++ numBytes 4 sent ++ numBytes 4 cut
  | .queueHigh n => numBytes 4 n
  | .queueLow n => numBytes 4 n
  | .storeFullDirectory x => numBytes 4 x
  | .storeFullPages x k => numBytes 4 x ++ numBytes 2 k
  | .versionDeferred x h o => numBytes 4 x ++ numBytes 4 h.toNat ++ numBytes 4 o.toNat
  | .segmentMismatch x k => numBytes 4 x ++ numBytes 2 k
  | .spotVerified x => spotBytes x
  | .spotDamaged x k src => spotBytes x ++ numBytes 4 k ++ codeByte src.code
  | .spotRemoved x c => spotBytes x ++ codeByte c.code
  | .breakAccepted i v t o n => numBytes 2 i ++ codeByte v ++ codeByte t ++ timeBytes o ++ timeBytes n
  | .breakUpdated i o n => numBytes 2 i ++ codeByte o ++ codeByte n
  | .breakCancelled i st => numBytes 2 i ++ codeByte st.code
  | .cueRefused i v c => numBytes 2 i ++ codeByte v ++ codeByte c.code
  | .breakState i o n => numBytes 2 i ++ codeByte o.code ++ codeByte n.code
  | .breakRemoved i st => numBytes 2 i ++ codeByte st.code
  | .announcementLost k n => codeByte k.code ++ numBytes 4 n
  | .peerPresent p => codeByte p
  | .peerAbsent p t => codeByte p ++ timeBytes? t
  | .duplicateSite t => timeBytes t
  | .configClamp f v u => codeByte f ++ intBytes 4 v ++ (match u with | some w => intBytes 4 w | none => noneBytes 4)
  | .stanceChange i o n => numBytes 2 i ++ stanceBytes? o ++ stanceBytes n
  | .decision i r p q peer =>
    numBytes 2 i ++ (match r with | none => codeByte 0 ++ codeByte 0 | some h => codeByte 1 ++ codeByte h.code)
      ++ codeByte p ++ codeByte q ++ codeByte? peer
  | .lateHold i p st => numBytes 2 i ++ codeByte p ++ stanceBytes st
  | .zoneSplit i p own e =>
    numBytes 2 i ++ codeByte p ++ codeByte own.code
      ++ (match e with
          | some x => codeByte x.stance.code ++ codeByte x.version ++ numBytes 4 x.check.toNat
          | none => noneBytes 6)
  | .channelState k i o n pos => codeByte k ++ numBytes 2 i ++ codeByte o.code ++ codeByte n.code ++ numBytes 4 pos
  | .playAbandoned k i c h pos => codeByte k ++ numBytes 2 i ++ codeByte c.code ++ codeByte h.code ++ numBytes 4 pos
  | .playReadFail k i x seg pos => codeByte k ++ numBytes 2 i ++ numBytes 4 x ++ numBytes 2 seg ++ numBytes 4 pos
  | .configLoaded c k => codeByte c.code ++ numBytes 4 k.toNat
  | .configFault c => codeByte c.code
  | .siteLine l v => codeByte l.code ++ boolByte v
  | .alarmLatch l v => codeByte l.code ++ boolByte v

/-- A monitor record: 0xC3, its type, the length of what follows the length field, the body and the CRC-16 over
every byte before it (section 10.8.8, R196). -/
def monitorRecord (type : Nat) (body : List Byte) : List Byte :=
  let plain := [0xC3, BitVec.ofNat 8 type] ++ numBytes 2 (body.length + 2) ++ body
  plain ++ crc16Bytes plain

/-- The bytes of an event record (R197). -/
def EventRecord.bytes (r : EventRecord) : List Byte :=
  monitorRecord 1 (numBytes 2 r.seq ++ timeBytes r.time ++ codeByte r.event.code ++ r.event.args)

end Sys2Proof.Machine
end

