-- ==== Sys2Proof/Machine/Report.lean ====
section
/-! DEFINITION. The body of a site report (R194, R197): the groups in order, each opened by its number, each item in
the order its chapter's "what the outside sees" section names it. -/

namespace Sys2Proof.Machine

open Sys2Proof

/-- A counter or other count, 4 bytes (R197). -/
def countBytes (n : Nat) : List Byte := numBytes 4 n

/-- A list of items, opened by the count of its items (R197). -/
def listBytes {α : Type} (l : List α) (f : α → List Byte) : List Byte := codeByte l.length ++ l.flatMap f

/-- A break id; 0 when absent (R197). -/
def breakIdBytes : Option Nat → List Byte
  | some i => numBytes 2 i
  | none => numBytes 2 0

/-- A spot id; 0 when absent (R197). -/
def spotIdBytes : Option Nat → List Byte
  | some i => numBytes 4 i
  | none => numBytes 4 0

/-- Group 1: the header. The report's sequence number has the two bytes that R197 gives the event's (DESIGN CHOICE, log
entry 66). -/
def reportHeader (s : State) : List Byte :=
  numBytes 2 s.mon.reportSeq ++ timeBytes s.tb.now ++ codeByte s.sc.config.code ++ codeByte (faultCode s.sc.faultCause)
    ++ (match s.sc.inUse with | some c => numBytes 4 c.check.toNat | none => noneBytes 4)

/-- Four one-bit values as one byte, bit k for the value of code k (R197). -/
def fourBits (a b c d : Bool) : List Byte := codeByte (a.toNat + 2 * b.toNat + 4 * c.toNat + 8 * d.toNat)

/-- Group 2: site control (R194, section 10.6). -/
def reportSiteControl (s : State) : List Byte :=
  fourBits s.sc.inhibitLine s.sc.overrideLine s.sc.latchClearLine s.sc.restartLine
    ++ fourBits s.sc.latchAir s.sc.latchTime s.sc.latchSplit s.sc.latchFault
    ++ fourBits (s.gate .air) (s.gate .time) (s.gate .split) (s.gate .fault)
    ++ countBytes s.mon.queue.length ++ countBytes s.mon.lostSince ++ countBytes s.mon.lostTotal
    ++ countBytes s.mon.eventsSent ++ countBytes s.mon.reportsSent ++ countBytes s.mon.reportsReplaced
    ++ countBytes s.sc.loads ++ countBytes s.sc.faults

/-- One reference in the time base group. -/
def reportRef (r : RefRecord) : List Byte :=
  boolByte r.valid ++ countBytes r.goodMarks ++ countBytes r.badMarks ++ countBytes r.missingMarks
    ++ countBytes r.badLabels

/-- Group 3: the time base (section 1.8). -/
def reportTimeBase (s : State) : List Byte :=
  codeByte s.tb.disc.code ++ countBytes s.tb.u ++ codeByte s.tb.grade.code ++ codeByte (selectionCode s.tb.selected)
    ++ intBytes 4 s.tb.trim ++ reportRef s.tb.refA ++ reportRef s.tb.refB ++ countBytes s.tb.stepCount

/-- The discontinuity counter of one tag. -/
def Intake.breaksOf (i : Intake) (tag : Nat) : Nat :=
  match i.continuity[tag]? with
  | some k => k.breaks
  | none => 0

/-- Group 4: feed intake (section 2.7). The asset and control tags are those of the record in use; with no record in use
their two counters are sent as 0 (DESIGN CHOICE, log entry 63). -/
def reportIntake (s : State) : List Byte :=
  let k := s.intake.counters
  countBytes k.framing ++ countBytes k.outside ++ countBytes k.extra ++ countBytes k.misfits ++ countBytes k.malformed
    ++ countBytes k.short ++ countBytes k.gaps ++ countBytes k.losses ++ countBytes k.noTime ++ countBytes k.tableFull
    ++ countBytes k.late ++ countBytes k.early ++ countBytes k.order ++ countBytes k.queueFull
    ++ countBytes (min ((s.intake.continuity.map Continuity.breaks).sum) Config.counterMax)
    ++ countBytes (s.setting (fun c => s.intake.breaksOf c.assetTag) 0)
    ++ countBytes (s.setting (fun c => s.intake.breaksOf c.controlTag) 0)
    ++ codeByte s.intake.feed.code
    ++ (match s.intake.lastComplete with | some n => codeByte 1 ++ numBytes 2 n | none => codeByte 0 ++ numBytes 2 0)

/-- Group 5: emission (section 3.9). -/
def reportEmission (s : State) : List Byte :=
  let k := s.em.counters
  countBytes k.toAir ++ countBytes k.consumedReleases ++ countBytes k.passes ++ countBytes k.cutFrames
    ++ countBytes k.cutCells ++ countBytes k.fillers ++ countBytes k.starves ++ codeByte s.em.state.code
    ++ codeByte s.em.causes.code ++ countBytes s.em.queue.occupancy ++ boolByte s.em.queue.high
    ++ countBytes s.em.table.length

/-- One directory entry in the spot store group. -/
def reportEntry (e : Entry) : List Byte :=
  spotBytes e.spot ++ codeByte e.state.code ++ countBytes e.held ++ countBytes e.segCount ++ countBytes e.expiry
    ++ countBytes e.prot ++ boolByte e.frozen ++ boolByte e.expirePending

/-- Group 6: the spot store (section 4.10), entries in ascending spot id. -/
def reportStore (s : State) : List Byte :=
  let k := s.store.counters
  countBytes k.malformed ++ countBytes k.otherZone ++ countBytes k.stale ++ countBytes k.skipped ++ countBytes k.dropped
    ++ countBytes k.checkFailures ++ countBytes k.stray ++ countBytes k.checksRun ++ countBytes k.badSlots
    ++ countBytes k.readFailures ++ countBytes s.store.directory.length ++ countBytes s.store.freePages.length
    ++ countBytes s.store.checkQueue.length ++ spotIdBytes (s.store.check.map CheckInFlight.spotId)
    ++ listBytes s.store.directory reportEntry

/-- One record in the break table group, its agreement items last (R194). -/
def reportBreak (r : BreakRecord) : List Byte :=
  numBytes 2 r.id ++ codeByte r.version ++ codeByte r.tag ++ timeBytes r.cOut ++ timeBytes r.cIn ++ codeByte r.state.code
    ++ stanceBytes r.stance ++ codeByte? r.channel ++ codeByte? (r.abandonCause.map AbandonCause.code)
    ++ codeByte? (r.watch.map SplitWatch.code) ++ numBytes 2 (setOfSites r.lateReported)
    ++ numBytes 2 (setOfSites r.splitReported)

/-- Group 7: the break table (section 5.10), records in table order. -/
def reportBreaks (s : State) : List Byte :=
  let k := s.cues.counters
  countBytes k.taken ++ countBytes k.malformed ++ countBytes k.otherZone ++ countBytes k.zeroId ++ countBytes k.repeats
    ++ countBytes k.accepted ++ countBytes k.updates ++ countBytes k.cancels ++ countBytes k.unknownCancels
    ++ k.refusals.flatMap countBytes ++ listBytes s.cues.table reportBreak

/-- Group 8: the zone line (section 6.8). -/
def reportZone (s : State) : List Byte :=
  let k := s.zone.counters
  countBytes k.attempts ++ countBytes k.delivered ++ countBytes k.urgentDelivered ++ countBytes k.collisions
    ++ countBytes k.retries ++ countBytes k.lost ++ countBytes k.deferrals ++ countBytes k.merges ++ countBytes k.intact
    ++ countBytes k.checkFailures ++ countBytes k.overCount ++ countBytes k.broken ++ codeByte s.zone.line.code
    ++ codeByte (slotCode s.zone.slot) ++ boolByte s.zone.flight.isSome
    ++ codeByte? (s.zone.flight.map fun f => f.attempt.code) ++ boolByte s.zone.schedule.isSome
    ++ timeBytes? s.zone.schedule

/-- One entry of a peer's last announcement. -/
def reportPeerEntry (e : BreakEntry) : List Byte := numBytes 2 e.id ++ codeByte e.version ++ stanceBytes e.stance

/-- The last announcement of a peer; none of its values and no entry when there is none (R197). -/
def reportAnnouncement : Option Announcement → List Byte
  | some a =>
    codeByte a.grade.code ++ codeByte a.emission.code ++ boolByte a.override ++ boolByte a.duplicate
      ++ listBytes a.entries reportPeerEntry
  | none => noneBytes 4 ++ codeByte 0

/-- One peer record. -/
def reportPeer (p : Peer) : List Byte :=
  codeByte p.site ++ codeByte p.state.code ++ timeBytes? p.lastHeard ++ countBytes p.periodicTaken
    ++ countBytes p.urgentTaken ++ countBytes p.absences ++ reportAnnouncement p.last

/-- Group 9: the roster (section 7.8), peers in ascending site number. -/
def reportRoster (s : State) : List Byte :=
  countBytes s.ros.malformed ++ countBytes s.ros.otherZone ++ countBytes s.ros.strangers ++ countBytes s.ros.ownEchoes
    ++ countBytes s.ros.duplicates ++ numBytes 2 (setOfSites s.ros.roster) ++ codeByte? s.ros.quorum
    ++ codeByte s.ros.presentCount ++ boolByte s.ros.duplicate ++ listBytes s.ros.peers reportPeer

/-- Group 10: the agreement unit's counters (section 8.7). -/
def reportAgreement (s : State) : List Byte :=
  let k := s.agree
  countBytes k.stanceChanges ++ countBytes k.goDecisions ++ countBytes k.holdPending ++ countBytes k.holdQuorum
    ++ countBytes k.holdPeer ++ countBytes k.holdSelf ++ countBytes k.reservationFailures ++ countBytes k.reconcileHeard
    ++ countBytes k.reconcileSelf ++ countBytes k.lateHolds ++ countBytes k.zoneSplits

/-- One channel, its counters first (R194, section 9.9). -/
def reportChannel (c : Channel) : List Byte :=
  let k := c.counters
  countBytes k.binds ++ countBytes k.ended ++ countBytes k.lostSteps ++ countBytes k.overrides
    ++ countBytes k.framesPlanned ++ countBytes k.positionsPlanned ++ countBytes k.substituted ++ countBytes k.padCells
    ++ countBytes k.fillers ++ countBytes k.readFailures ++ codeByte c.state.code
    ++ breakIdBytes (c.bound.map BoundBreak.id) ++ codeByte? c.tag ++ countBytes c.cursor.position
    ++ codeByte c.cursor.index.code ++ numBytes 2 c.cursor.segment ++ countBytes c.cursor.left
    ++ countBytes c.cursor.loops

/-- Group 11: the channels, 0 to 3, and the pass count. -/
def reportChannels (s : State) : List Byte := listBytes s.chans.chan reportChannel ++ countBytes s.chans.passCount

/-- The body of a site report: the eleven groups, each opened by its number (R194, R197). -/
def reportBody (s : State) : List Byte :=
  codeByte 1 ++ reportHeader s ++ codeByte 2 ++ reportSiteControl s ++ codeByte 3 ++ reportTimeBase s
    ++ codeByte 4 ++ reportIntake s ++ codeByte 5 ++ reportEmission s ++ codeByte 6 ++ reportStore s
    ++ codeByte 7 ++ reportBreaks s ++ codeByte 8 ++ reportZone s ++ codeByte 9 ++ reportRoster s
    ++ codeByte 10 ++ reportAgreement s ++ codeByte 11 ++ reportChannels s

/-- A site report as a monitor record (section 10.8.8). -/
def reportRecord (s : State) : List Byte := monitorRecord 2 (reportBody s)

end Sys2Proof.Machine
end

