-- ==== Sys2Proof/Machine/Monitor.lean ====
section
/-! DEFINITION. The monitor port (section 10.5): raising an event, forming a site report, starting and ending a record.
The alarm latches stand here too, since every block sets them and each change is an event (R188). -/

namespace Sys2Proof.Machine

open Sys2Proof

/-- The levels of one byte at the monitor port: a start bit, the eight bits least significant first and a stop bit
(R191). A start bit low and a stop bit high are the model's (log entry 54). -/
def monitorBits (b : Byte) : List Bool := [false] ++ (List.range 8).map (b.getLsbD ·) ++ [true]

/-- The levels of a record's bytes, one for each bit, the bytes following one another with no gap (R191). -/
def monitorSignal (bytes : List Byte) : List Bool := bytes.flatMap monitorBits

/-- The oscillator TU a record takes: ten bits of 0.5 µs, which is 50 TU, for each byte (R191). -/
def sendSpan (bytes : List Byte) : Nat := 10 * Config.monitorBit * bytes.length

/-- The idle port starts the held site report if one is held, otherwise the record at the front of the event queue; a
port that is sending goes on (R191). -/
def startRecord (osc : Nat) (m : Monitor) : Monitor :=
  match m.sending, m.held, m.queue with
  | some _, _, _ => m
  | none, some r, _ =>
    { m with held := none, sending := some ⟨r, osc + sendSpan r⟩, reportsSent := bump m.reportsSent }
  | none, none, r :: rest =>
    { m with queue := rest, sending := some ⟨r.bytes, osc + sendSpan r.bytes⟩, eventsSent := bump m.eventsSent }
  | none, none, [] => m

/-- One event raised at a site time: it takes the next sequence number, and joins the queue or is lost (R192). -/
def queueEvent (e : Event) (now : Time) (m : Monitor) : Monitor :=
  let m' := { m with eventSeq := (m.eventSeq + 1) % 65536 }
  if m.queue.length < Config.eventQueueMax then { m' with queue := m.queue ++ [⟨m.eventSeq, now, e⟩] }
  else { m' with lostSince := bump m.lostSince, lostTotal := bump m.lostTotal }

/-- Raise an event: it is queued, and an idle port starts a record (R191, R192). -/
def raise (e : Event) (s : State) : State :=
  { s with mon := startRecord s.osc (queueEvent e s.tb.now s.mon) }

/-- Raise events in order. -/
def raiseAll (l : List Event) (s : State) : State := forEach raise l s

/-- A site report falls due: it is formed at once from the state of every block, takes the next report sequence number
and enters the held slot, and the lost-since-report count becomes 0 (R193). -/
def formReport (s : State) : State :=
  let m := s.mon
  let m' := { m with
    held := some (reportRecord s)
    reportsReplaced := if m.held.isSome then bump m.reportsReplaced else m.reportsReplaced
    reportSeq := (m.reportSeq + 1) % 65536
    lostSince := 0
    lastReport := s.osc }
  { s with mon := startRecord s.osc m' }

/-- Put a latch to a value; a change is reported (R188). -/
def putLatch (l : Latch) (v : Bool) (s : State) : State :=
  if s.sc.latch l = v then s else raise (.alarmLatch l v) { s with sc := s.sc.putLatch l v }

/-- A cause reaches a latch: a latch already set stays set (R188). -/
def setLatch (l : Latch) (s : State) : State := putLatch l true s

/-- The oscillator span since the last report has run out (R193). -/
def reportSpanDue (s : State) : Bool := decide (s.mon.lastReport + Config.reportSpan ≤ s.osc)

/-- REPORT_SPAN_EXPIRY: a site report falls due (R193). -/
def execReportSpanExpiry (s : State) : Host.Outcome State Fault Refusal :=
  .next (if reportSpanDue s then formReport s else s)

/-- The level of the monitor port's line now: the bit of the record in transmission whose 5 TU these are, and the level of
a stop bit while none is in transmission (R191; log entry 54). -/
def State.monitorLevel (s : State) : Bool :=
  match s.mon.sending with
  | some r =>
    match (monitorSignal r.bytes)[(s.osc + sendSpan r.bytes - r.endsAt) / Config.monitorBit]? with
    | some level => level
    | none => true
  | none => true

/-- The record in transmission has been sent whole (R191). -/
def recordEndDue (s : State) : Bool :=
  match s.mon.sending with
  | some r => decide (r.endsAt ≤ s.osc)
  | none => false

/-- MONITOR_RECORD_END: the port ends its record and starts the next one that is ready (R191). -/
def execMonitorRecordEnd (s : State) : Host.Outcome State Fault Refusal :=
  .next (if recordEndDue s then { s with mon := startRecord s.osc { s.mon with sending := none } } else s)

end Sys2Proof.Machine
end

