-- ==== Sys2Proof/Machine/StoreOps.lean ====
section
/-! DEFINITION. The waiting slot of the zone line (R109, R117) and the spot store's shared operations: pages, entries,
protection, freezing, removal, the start of a check (R74 to R79, R82). Where the manual hands a change of an entry to
the agreement unit (R73), the operation applies `notify`, which the caller gives. -/

namespace Sys2Proof.Machine

open Sys2Proof

/-! ### The waiting slot -/

/-- The kind of two announcements merged: URGENT if either was (R109). -/
def mergeKind : AnnouncementKind → AnnouncementKind → AnnouncementKind
  | .periodic, .periodic => .periodic
  | _, _ => .urgent

/-- An announcement joins the waiting slot, merging into one that waits there (R109). -/
def joinSlot (k : AnnouncementKind) (s : State) : State :=
  match s.zone.slot with
  | none => { s with zone := { s.zone with slot := some k } }
  | some w => { s with zone := { s.zone with
      slot := some (mergeKind k w)
      counters := { s.zone.counters with merges := bump s.zone.counters.merges } } }

/-- An urgent cause: queued only while the schedule is started (R117). -/
def urgent (s : State) : State := if s.zone.schedule.isSome then joinSlot .urgent s else s

/-! ### Entries and pages -/

/-- The directory entry of a spot id. -/
def SpotStore.entry? (st : SpotStore) (id : Nat) : Option Entry := st.directory.find? fun e => e.spot.id == id

/-- The entry a spot id and a digest name together (section 4.6). -/
def SpotStore.named? (st : SpotStore) (x : Spot) : Option Entry := st.directory.find? fun e => e.spot == x

/-- The entry's check is in flight. -/
def SpotStore.inCheck (st : SpotStore) (id : Nat) : Bool := (st.check.map CheckInFlight.spotId) == some id

/-- Change the entry of a spot id. -/
def updateEntry (id : Nat) (f : Entry → Entry) (s : State) : State :=
  { s with store := { s.store with directory := updateWhere (fun e => e.spot.id == id) f s.store.directory } }

/-- Change the store's counters. -/
def updateStoreCounters (f : StoreCounters → StoreCounters) (s : State) : State :=
  { s with store := { s.store with counters := f s.store.counters } }

/-- Pages go to the back of the free page list, in the order given (R75). -/
def returnPages (pages : List Nat) (s : State) : State :=
  { s with store := { s.store with freePages := s.store.freePages ++ pages } }

/-- Put the assembler into a state. -/
def setAssembler (a : Assembler) (s : State) : State := { s with store := { s.store with assembler := a } }

/-- The pages of those of the listed segments that are held, in list order. -/
def pagesOf (segs : List (Option Nat)) (l : List Nat) : List Nat := l.filterMap fun k => segs.getD k none

/-- The segment list with the listed segments missing. -/
def missing (segs : List (Option Nat)) (l : List Nat) : List (Option Nat) :=
  l.foldl (fun a k => a.set k none) segs

/-- Drop the segment in CAPTURE: its page goes to the back and the dropped-segment counter rises (R66). In IDLE or
SKIP nothing is dropped. The assembler is left as it is. A removal's drop (R74) is counted too (log entry 58). -/
def dropCapture (s : State) : State :=
  match s.store.assembler with
  | .capture _ page _ _ =>
    updateStoreCounters (fun k => { k with dropped := bump k.dropped }) (returnPages [page] s)
  | .idle => s
  | .skip _ => s

/-- End the segment in assembly: dropped in CAPTURE, and the assembler is IDLE (R66, R72). -/
def endSegment (s : State) : State := setAssembler .idle (dropCapture s)

/-- The spot id of the segment in assembly. -/
def Assembler.spotId? : Assembler → Option Nat
  | .idle => none
  | .capture g _ _ _ => some g.spot.id
  | .skip g => some g.spot.id

/-- Listed segments of an entry become missing, their pages going to the back in list order; the entry becomes FILLING
and leaves the check queue (R77, R80). `reported` is the source of the SPOT_DAMAGED, none where none is reported (R84);
it is raised before the change is handed to the agreement unit (R73; log entry 46). -/
def makeMissing (notify : State → State) (reported : Option DamageSource) (id : Nat) (l : List Nat) (s : State) : State :=
  match s.store.entry? id with
  | none => s
  | some e =>
    let pages := pagesOf e.segs l
    let s := returnPages pages s
    let s := updateEntry id (fun x => { x with segs := missing x.segs l, state := .filling }) s
    let s := { s with store := { s.store with checkQueue := s.store.checkQueue.filter fun q => q != id } }
    let s := match reported with
      | some src => raise (.spotDamaged e.spot pages.length src) s
      | none => s
    notify s

/-- Remove an entry from the directory, its steps in order (R74). The hand-off to the agreement unit is the last of them,
and SPOT_REMOVED is raised after it (R73; log entry 46). -/
def removeEntry (notify : State → State) (id : Nat) (s : State) : State :=
  match s.store.entry? id with
  | none => s
  | some e =>
    let s := match s.store.assembler with
      | .capture g _ _ _ => if g.spot.id = id then endSegment s else s
      | .idle => s
      | .skip _ => s
    let s := returnPages (pagesOf e.segs (List.range e.segs.length)) s
    let s := { s with store := { s.store with
      checkQueue := s.store.checkQueue.filter fun q => q != id
      directory := s.store.directory.filter fun x => x.spot.id != id } }
    notify s

/-- The entry's protection has ended: protection count 0, not frozen, its check not in flight (R76, R82). -/
def SpotStore.unprotected (st : SpotStore) (e : Entry) : Bool :=
  e.prot == 0 && !e.frozen && !st.inCheck e.spot.id

/-- An expire-pending entry whose protection has ended is removed with cause EXPIRED (R82). -/
def tryExpire (notify : State → State) (id : Nat) (s : State) : State :=
  match s.store.entry? id with
  | none => s
  | some e =>
    if e.expirePending && s.store.unprotected e then
      raise (.spotRemoved e.spot .expired) (removeEntry notify id s)
    else s

/-! ### Protection and freezing (R76, R77) -/

/-- A protect request: ignored when no entry is held under that id and digest (R76). -/
def protectSpot (x : Spot) (s : State) : State :=
  match s.store.named? x with
  | none => s
  | some e => updateEntry e.spot.id (fun y => { y with prot := y.prot + 1 }) s

/-- A release request; a count of 0 stays 0 (R76). -/
def releaseSpot (notify : State → State) (x : Spot) (s : State) : State :=
  match s.store.named? x with
  | none => s
  | some e => tryExpire notify e.spot.id (updateEntry e.spot.id (fun y => { y with prot := y.prot - 1 }) s)

/-- A freeze request (R77). -/
def freezeSpot (x : Spot) (s : State) : State :=
  match s.store.named? x with
  | none => s
  | some e => updateEntry e.spot.id (fun y => { y with freeze := y.freeze + 1 }) s

/-- Apply an entry's pending-failure list and empty it (R77). -/
def applyPending (notify : State → State) (reported : Option DamageSource) (id : Nat) (s : State) : State :=
  match s.store.entry? id with
  | none => s
  | some e =>
    if e.pending.isEmpty then s
    else makeMissing notify reported id e.pending (updateEntry id (fun y => { y with pending := [] }) s)

/-- An unfreeze request: when it brings the count to 0, the pending failures are applied, and R82 then acts (R77). -/
def unfreezeSpot (notify : State → State) (x : Spot) (s : State) : State :=
  match s.store.named? x with
  | none => s
  | some e =>
    let s := updateEntry e.spot.id (fun y => { y with freeze := y.freeze - 1 }) s
    if e.freeze = 1 then
      tryExpire notify e.spot.id (applyPending notify (some .playout) e.spot.id s)
    else s

/-! ### The check (R79) -/

/-- A check starts on the oldest entry of the check queue whenever none is in flight (R79). -/
def startCheck (notify : State → State) (s : State) : State :=
  match s.store.check, s.store.checkQueue with
  | none, id :: rest =>
    match s.store.entry? id with
    | none => { s with store := { s.store with checkQueue := rest } }
    | some e =>
      let s := { s with store := { s.store with
        checkQueue := rest
        check := some ⟨id, s.tb.now + 10000 * e.segCount⟩ } }
      let s := updateStoreCounters (fun k => { k with checksRun := bump k.checksRun }) s
      notify (updateEntry id (fun y => { y with state := .checking }) s)
  | _, _ => s

/-! ### Slots and reads (R70, R78) -/

/-- The address of a slot: its page and its index in the page. -/
def slotAddress (page index : Nat) : Nat := page * Config.pageSlots + index

/-- What a slot of the store holds; a slot nothing has written holds a free value (log entry 2). -/
def SpotStore.slotAt (st : SpotStore) (address : Nat) : Slot :=
  match memRead st.memory address with
  | some x => x
  | none => ⟨(Config.unwrittenSlot address).1, (Config.unwrittenSlot address).2⟩

/-- A slot is good when its body agrees with its slot check code (R78, R80). -/
def Slot.good (x : Slot) : Bool := decide (x.check = Config.slotCheck x.body)

/-- Write a body with the slot check code computed over it (R70). -/
def writeSlot (address : Nat) (body : List Byte) (s : State) : State :=
  { s with store := { s.store with memory := memWrite s.store.memory address ⟨body, Config.slotCheck body⟩ } }

/-- A channel's read of one spot cell: the body with a good verdict, or none with a bad one (R78). -/
def SpotStore.read (st : SpotStore) (id segment index : Nat) : Option (List Byte) :=
  match st.entry? id with
  | none => none
  | some e =>
    match e.segs.getD segment none with
    | none => none
    | some page =>
      let x := st.slotAt (slotAddress page index)
      if x.good then some x.body else none

/-- A failure handed back by a channel: it joins the pending-failure list of a frozen entry, unless listed, and is
applied at once to an entry that is not frozen (R78). -/
def storeFailure (notify : State → State) (id segment : Nat) (s : State) : State :=
  match s.store.entry? id with
  | none => s
  | some e =>
    if e.frozen then
      if e.pending.contains segment then s
      else updateEntry id (fun y => { y with pending := y.pending ++ [segment] }) s
    else makeMissing notify (some .playout) id [segment] s

end Sys2Proof.Machine
end

