-- ==== Sys2Proof/Machine/ChannelOps.lean ====
section
/-! DEFINITION. The break table's and the channels' records as shared data: finding and changing one, the play
sequence and its cursor (R161, R162), and the unbinding of a channel (R176). -/

namespace Sys2Proof.Machine

open Sys2Proof

/-! ### Break records -/

/-- The record of a break id. -/
def State.record? (s : State) (id : Nat) : Option BreakRecord := s.cues.table.find? fun r => r.id == id

/-- Change the record of a break id. -/
def updateRecord (id : Nat) (f : BreakRecord → BreakRecord) (s : State) : State :=
  { s with cues := { s.cues with table := updateWhere (fun r => r.id == id) f s.cues.table } }

/-- The distinct spots a record names, in list order and then the pad: the order of R139, and of the requests of R90, R91,
R99 and R158, to which the manual gives none (DESIGN CHOICE, log entry 59). -/
def BreakRecord.spotsNamed (r : BreakRecord) : List Spot := namedSpots r.spots r.pad

/-- The break ids of the table, in table order. -/
def State.breakIds (s : State) : List Nat := s.cues.table.map BreakRecord.id

/-! ### The play sequence and the cursor (R161, R162) -/

/-- The cells of one segment of a spot: 256, or the cells in the last segment (R162). -/
def PlayItem.cellsOf (x : PlayItem) (segment : Nat) : Nat := if segment + 1 = x.segCount then x.lastCells else 256

/-- A spot's total cells (R160). -/
def PlayItem.total (x : PlayItem) : Nat := (x.segCount - 1) * 256 + x.lastCells

/-- The listed length: the sum of the listed spots' total cells (section 9.1). -/
def listedLength (items : List PlayItem) : Nat := (items.map PlayItem.total).sum

/-- The pad length: the pad's total cells, 0 with no pad (section 9.1). -/
def padLength (pad : Option PlayItem) : Nat :=
  match pad with
  | some x => x.total
  | none => 0

/-- The cell of a play sequence: a spot with a segment and a cell of it, or filler (R161). -/
inductive PlayContent where
  | spotCell (spot : Spot) (segment cell : Nat)
  | filler
  deriving DecidableEq, Repr

/-- The cell at a place within one spot. -/
def PlayItem.cellAt (x : PlayItem) (place : Nat) : PlayContent := .spotCell x.spot (place / 256) (place % 256)

/-- The content of a position past the list: the pad, looped, or filler (R161). -/
def padContent (pad : Option PlayItem) (place : Nat) : PlayContent :=
  match pad with
  | some x => x.cellAt (place % x.total)
  | none => .filler

/-- The content of a play position (R161). -/
def contentAt (items : List PlayItem) (pad : Option PlayItem) (position : Nat) : PlayContent :=
  match items with
  | [] => padContent pad position
  | x :: rest => if position < x.total then x.cellAt position else contentAt rest pad (position - x.total)

/-- The spot a cursor stands in. -/
def Cursor.item? (items : List PlayItem) (pad : Option PlayItem) (c : Cursor) : Option PlayItem :=
  match c.index with
  | .listed n => items[n - 1]?
  | .pad => pad
  | .fill => none

/-- The content a cursor names: its segment, and the cell that is the segment's cell count less the cells left (R169). -/
def Cursor.content (items : List PlayItem) (pad : Option PlayItem) (c : Cursor) : PlayContent :=
  match c.item? items pad with
  | some x => .spotCell x.spot c.segment (x.cellsOf c.segment - c.left)
  | none => .filler

/-- A cursor put at the first cell of a spot. -/
def Cursor.enter (index : SpotIndex) (x : PlayItem) (c : Cursor) : Cursor :=
  { c with index := index, segment := 0, left := x.cellsOf 0 }

/-- The cursor passes into the pad, or into FILL when no pad is named (R162, step 5). In FILL the segment index stays that
of the last listed segment (log entry 52). -/
def Cursor.enterPad (pad : Option PlayItem) (c : Cursor) : Cursor :=
  match pad with
  | some x => c.enter .pad x
  | none => { c with index := .fill, left := 0 }

/-- The cursor advances by one cell (R162). -/
def Cursor.step (items : List PlayItem) (pad : Option PlayItem) (c : Cursor) : Cursor :=
  let c := { c with position := bump c.position, left := c.left - 1 }
  if c.left > 0 then c
  else
    match c.index with
    | .fill => c
    | .pad =>
      match pad with
      | none => c.enterPad none
      | some x =>
        if c.segment + 1 < x.segCount then
          { c with segment := c.segment + 1, left := x.cellsOf (c.segment + 1) }
        else { c.enter .pad x with loops := bump c.loops }
    | .listed n =>
      match items[n - 1]? with
      | none => c.enterPad pad
      | some x =>
        if c.segment + 1 < x.segCount then
          { c with segment := c.segment + 1, left := x.cellsOf (c.segment + 1) }
        else
          match items[n]? with
          | some y => c.enter (.listed (n + 1)) y
          | none => c.enterPad pad

/-- The cursor at position 0 (R162). -/
def Cursor.start (items : List PlayItem) : Cursor :=
  match items with
  | x :: _ => ⟨0, .listed 1, 0, x.cellsOf 0, 0⟩
  | [] => Cursor.reset

/-- An advance of `k` cells is `k` steps (R162). -/
def Cursor.advance (items : List PlayItem) (pad : Option PlayItem) (k : Nat) (c : Cursor) : Cursor :=
  iter (Cursor.step items pad) k c

/-! ### Channels -/

/-- Change one channel. -/
def updateChan (k : Nat) (f : Channel → Channel) (s : State) : State :=
  { s with chans := { s.chans with chan := s.chans.chan.modify k f } }

/-- Change one channel's counters. -/
def countChan (k : Nat) (f : ChannelCounters → ChannelCounters) (s : State) : State :=
  updateChan k (fun c => { c with counters := f c.counters }) s

/-- The channel numbers, 0 to 3. -/
def channelNumbers : List Nat := [0, 1, 2, 3]

/-- The distinct spots of a channel's play sequence (R158), in list order and then the pad: the order of the requests of
R160 and R176, to which the manual gives none (DESIGN CHOICE, log entry 59). -/
def Channel.spotsNamed (c : Channel) : List Spot :=
  namedSpots (c.items.map PlayItem.spot) (c.padItem.map PlayItem.spot)

/-- The id of a channel's bound break; 0 when absent. -/
def Channel.breakId (c : Channel) : Nat :=
  match c.bound with
  | some b => b.id
  | none => 0

/-- A channel that has frozen its spots: ARMED, PLAYING or PADDING (R176). -/
def ChannelState.frozen : ChannelState → Bool
  | .armed => true
  | .playing => true
  | .padding => true
  | .idle => false
  | .reserved => false

/-- A channel's fields after step 1 of an unbind: those after reset, its plan and its counters kept (R176, R177). -/
def Channel.unbound (c : Channel) : Channel := { Channel.reset with plan := c.plan, counters := c.counters }

/-- A channel unbinds, its steps in order (R176). CHANNEL_STATE carries the break id and the play position held before
step 1 (log entry 18). -/
def unbindChannel (notify : State → State) (k : Nat) (s : State) : State :=
  match s.chans.chan[k]? with
  | none => s
  | some c =>
    let s := updateChan k Channel.unbound s
    let s := notify (updateRecord c.breakId (fun r => { r with channel := none }) s)
    let s := if c.state.frozen then forEach (unfreezeSpot notify) c.spotsNamed s else s
    let s := forEach (releaseSpot notify) c.spotsNamed s
    raise (.channelState k c.breakId c.state .idle c.cursor.position) s

end Sys2Proof.Machine
end

