-- ==== Sys2Proof/Machine/Agreement.lean ====
section
/-! DEFINITION. The agreement unit (Chapter 8): the stance of a record, reconcile, the moves of a record's state, split
detection, and the leaving of the break table (R100), which draws on all of them. -/

namespace Sys2Proof.Machine

open Sys2Proof

/-! ### The stance of an OPEN record (R137 to R141) -/

/-- Conditions 1 to 4 of the stance, in order: the reason of the first that fails (R138). -/
def siteReason (s : State) : Option NotReadyReason :=
  if s.ros.duplicate then some .duplicate
  else if s.sc.overrideLine then some .override
  else if s.em.state ≠ .onAir then some .offAir
  else if s.tb.grade = .d then some .time
  else none

/-- The class of a (spot id, digest) pair (R139). -/
inductive SpotClass where
  | notReady (reason : NotReadyReason)
  | pending
  | satisfied
  deriving DecidableEq, Repr

/-- The class the directory gives a pair (R139). -/
def classOf (st : SpotStore) (x : Spot) : SpotClass :=
  match st.entry? x.id with
  | none => .notReady .spotMissing
  | some e =>
    if e.spot.digest ≠ x.digest then .notReady .spotMismatch
    else match e.state with
      | .filling => .notReady .spotMissing
      | .complete => .pending
      | .checking => .pending
      | .verified => .satisfied

/-- The reason of the first pair that is not ready, in order (R139). -/
def firstNotReady (st : SpotStore) : List Spot → Option NotReadyReason
  | [] => none
  | x :: rest =>
    match classOf st x with
    | .notReady r => some r
    | .pending => firstNotReady st rest
    | .satisfied => firstNotReady st rest

/-- Every pair is satisfied: VERIFIED with the cue's digest (R139). -/
def allSatisfied (st : SpotStore) (l : List Spot) : Bool := l.all fun x => classOf st x == .satisfied

/-- The instant lies in a record's interval [C_out, C_in). -/
def BreakRecord.covers (r : BreakRecord) (t : Time) : Bool := decide (r.cOut ≤ t) && decide (t < r.cIn)

/-- The other records that hold a reservation: their bound channel is present (section 8.1, R140). -/
def reservedOthers (s : State) (id : Nat) : List BreakRecord :=
  s.cues.table.filter fun r => r.id != id && r.channel.isSome

/-- Condition 6: fewer than four other reservations at every instant of the interval, and none on the same service
(R140). The number of intervals that contain an instant rises only at a C_out, so the record's own C_out and the
others' within its interval are the instants to look at. -/
def channelFree (s : State) (r : BreakRecord) : Bool :=
  let others := reservedOthers s r.id
  let instants := (r.cOut :: others.map BreakRecord.cOut).filter r.covers
  instants.all (fun t => decide (others.countP (fun o => o.covers t) < 4)) && others.all fun o => o.tag != r.tag

/-- The stance of an OPEN record (R138 to R140). -/
def stanceOf (s : State) (r : BreakRecord) : Stance :=
  match siteReason s with
  | some reason => .notReady reason
  | none =>
    match firstNotReady s.store r.spotsNamed with
    | some reason => .notReady reason
    | none =>
      if !channelFree s r then .notReady .noChannel
      else if allSatisfied s.store r.spotsNamed then .ready
      else .pending

/-- Change the agreement unit's counters. -/
def countAgree (f : AgreementCounters → AgreementCounters) (s : State) : State := { s with agree := f s.agree }

/-- Report a stance that has changed (R137, section 8.7). -/
def reportStance (id : Nat) (old : Option Stance) (new : Stance) (s : State) : State :=
  countAgree (fun k => { k with stanceChanges := bump k.stanceChanges }) (raise (.stanceChange id old new) s)

/-- Write a record's stance; a change is handed to the zone line interface as an urgent cause and reported (R137). -/
def setStance (id : Nat) (new : Stance) (s : State) : State :=
  match s.record? id with
  | none => s
  | some r =>
    if r.stance = new then s
    else reportStance id (some r.stance) new (urgent (updateRecord id (fun x => { x with stance := new }) s))

/-- Recompute the stance of one record if it is OPEN (R137). -/
def refreshRecord (id : Nat) (s : State) : State :=
  match s.record? id with
  | none => s
  | some r => if r.state = .openState then setStance id (stanceOf s r) s else s

/-- Recompute the stance of every OPEN record, in table order (R137). -/
def refreshOpen (s : State) : State := forEach refreshRecord s.breakIds s

/-! ### State moves and reconcile (R142, R147 to R149) -/

/-- Move a record's state and report it (R97, section 5.6). -/
def moveState (id : Nat) (new : BreakState) (s : State) : State :=
  match s.record? id with
  | none => s
  | some r => raise (.breakState id r.state new) (updateRecord id (fun x => { x with state := new }) s)

/-- A DECIDED_GO record goes to HOLD, the steps in order (R149). -/
def holdRecord (id : Nat) (reason : HoldReason) (s : State) : State :=
  match s.record? id with
  | none => s
  | some r =>
    let s := moveState id .decidedHold s
    let s := updateRecord id (fun x => { x with stance := .hold reason }) s
    let s := match r.channel with
      | some k => unbindChannel refreshOpen k s
      | none => s
    let s := urgent (reportStance id (some r.stance) (.hold reason) s)
    let s := match reason with
      | .heardHold => countAgree (fun k => { k with reconcileHeard := bump k.reconcileHeard }) s
      | _ => countAgree (fun k => { k with reconcileSelf := bump k.reconcileSelf }) s
    refreshOpen s

/-- A DECIDED_GO record whose conditions 1 to 5 do not all hold (R148). -/
def reconcileFails (s : State) (r : BreakRecord) : Bool :=
  r.state == .decidedGo && ((siteReason s).isSome || !allSatisfied s.store r.spotsNamed)

/-- Hold every DECIDED_GO record whose own conditions fail, but for one that is leaving the table (R150), then
recompute the OPEN records, both in table order (log entry 50). Each hold takes one record out of DECIDED_GO, so the
number of records bounds the rounds. -/
def reconcileBut (leaving : Nat) : Nat → State → State
  | 0, s => refreshOpen s
  | n + 1, s =>
    match s.cues.table.find? fun r => r.id != leaving && reconcileFails s r with
    | some r => reconcileBut leaving n (holdRecord r.id .self s)
    | none => refreshOpen s

/-- An input of the stances has changed while a record leaves the table: it leaves without a HOLD (R137, R148, R150). -/
def refreshBut (leaving : Nat) (s : State) : State := reconcileBut leaving s.cues.table.length s

/-- An input of the stances has changed: reconcile, and recompute the OPEN records (R137, R148). No record has break
id 0 (R86). -/
def refresh (s : State) : State := refreshBut 0 s

/-- A channel unbinds, and each change it makes is handed to the agreement unit (R176). -/
def unbind (k : Nat) (s : State) : State := unbindChannel refresh k s

/-! ### Split detection (R154 to R156) -/

/-- A peer's entry for a break in its last announcement, while the peer is PRESENT (R131). -/
def peerEntry (p : Peer) (id : Nat) : Option BreakEntry :=
  match p.last with
  | none => none
  | some a => a.entries.find? fun e => e.id == id

/-- The comparison of a WATCHING record with one PRESENT peer finds a split (R155). -/
def splitFound (r : BreakRecord) (entry : Option BreakEntry) : Bool :=
  let showsAiring := match entry with
    | some e => e.stance == .airing
    | none => false
  let showsMatching := match entry with
    | some e => e.stance == .airing && e.version == r.version && e.check == r.check
    | none => false
  match r.state with
  | .airing => !showsMatching
  | .lockedHold => showsAiring
  | .ended => showsAiring
  | .abandoned => showsAiring
  | _ => false

/-- Compare one record with one peer, and report a split with a peer not yet reported (R155, R156). -/
def comparePeer (id : Nat) (p : Peer) (s : State) : State :=
  match s.record? id with
  | none => s
  | some r =>
    let entry := peerEntry p id
    if r.watch == some .watching && p.state == .present && splitFound r entry && !r.splitReported.contains p.site then
      let s := raise (.zoneSplit id p.site r.state entry) s
      let s := updateRecord id (fun x => { x with splitReported := insertSite p.site x.splitReported }) s
      countAgree (fun k => { k with zoneSplits := bump k.zoneSplits }) (setLatch .split s)
    else s

/-- Compare one record with every PRESENT peer, one at a time (R154). -/
def compareAll (id : Nat) (s : State) : State := forEach (comparePeer id) s.ros.peers s

/-! ### Moves by the channels and the guard (R95, R96, R98, R142) -/

/-- The moves of section 5.6 that a channel or the guard of R95 makes. -/
def moveAllowed : BreakState → BreakState → Bool
  | .lockedGo, .airing => true
  | .lockedGo, .ended => true
  | .airing, .ended => true
  | .lockedHold, .ended => true
  | .lockedGo, .abandoned => true
  | .airing, .abandoned => true
  | _, _ => false

/-- The stance that goes with a state reached by such a move (R142). -/
def movedStance : BreakState → Stance
  | .airing => .airing
  | .ended => .ended
  | _ => .abandoned

/-- A channel or the guard moves a record: the state and its BREAK_STATE, the removal instant of ENDED and ABANDONED
(R96), then the agreement unit's stance and comparisons (R98, R142, R154). A move that section 5.6 does not give is
not taken. -/
def channelMove (id : Nat) (new : BreakState) (cause : Option AbandonCause) (s : State) : State :=
  match s.record? id with
  | none => s
  | some r =>
    if moveAllowed r.state new then
      let s := moveState id new s
      let s := if new = .airing then s
        else updateRecord id (fun x => { x with
          removalAt := some (x.cIn + 20000000)
          abandonCause := cause }) s
      compareAll id (setStance id (movedStance new) s)
    else s

/-! ### Leaving the table (R99, R100) -/

/-- A record leaves the break table, the steps in order; it leaves without a HOLD (R100, R150). -/
def removeRecord (id : Nat) (s : State) : State :=
  match s.record? id with
  | none => s
  | some r =>
    let s := match r.channel with
      | some k => unbindChannel (refreshBut id) k s
      | none => s
    let s := forEach (releaseSpot (refreshBut id)) r.spotsNamed s
    let s := { s with cues := { s.cues with table := s.cues.table.filter fun x => x.id != id } }
    let s := refresh (urgent s)
    raise (.breakRemoved id r.state) s

/-- A record that enters ENDED or ABANDONED after its removal instant has passed leaves at once (R96): as the last act of
the rule that ends it (log entry 48). -/
def settleRemoval (id : Nat) (s : State) : State :=
  match s.record? id with
  | none => s
  | some r =>
    if (r.state == .ended || r.state == .abandoned) && isDue s.tb.now r.removalAt then removeRecord id s else s

end Sys2Proof.Machine
end

