-- ==== Sys2Proof/Machine/Splice.lean ====
section
/-! DEFINITION. The insertion channels (Chapter 9): binding and arming, frame passes and gaps, losing step, the end of
a break, and the substitution of cells. -/

namespace Sys2Proof.Machine

open Sys2Proof

/-! ### Binding, arming (R158, R160) -/

/-- The lowest-numbered IDLE channel (R158). -/
def idleChannel (s : State) : Option Nat :=
  channelNumbers.find? fun k => match s.chans.chan[k]? with
    | some c => c.state == .idle
    | none => false

/-- A channel outside IDLE is bound to the service tag (R145). -/
def tagBound (s : State) (tag : Nat) : Bool := s.chans.chan.any fun c => c.state != .idle && c.tag == some tag

/-- A channel's play position (section 9.1). -/
def State.playPosition (s : State) (k : Nat) : Nat :=
  match s.chans.chan[k]? with
  | some c => c.cursor.position
  | none => 0

/-- A bind request: the channel copies the record, protects its spots and becomes RESERVED (R158). The channel's kept
plan, if it has one, stays (R177). -/
def bindChannel (k : Nat) (r : BreakRecord) (s : State) : State :=
  let item := fun x : Spot => (⟨x, 0, 0⟩ : PlayItem)
  let s := updateChan k (fun c => { c with
    bound := some ⟨r.id, r.cOut, r.cIn⟩
    tag := some r.tag
    items := r.spots.map item
    padItem := r.pad.map item
    state := .reserved }) s
  let s := forEach protectSpot r.spotsNamed s
  let s := updateRecord r.id (fun x => { x with channel := some k }) s
  let s := raise (.channelState k r.id .idle .reserved (s.playPosition k)) s
  countChan k (fun n => { n with binds := bump n.binds }) s

/-- The lengths of a spot from the directory entry held with its digest (R160). -/
def playItemOf (st : SpotStore) (x : PlayItem) : PlayItem :=
  match st.named? x.spot with
  | some e => ⟨x.spot, e.segCount, e.lastCells.getD 0⟩
  | none => x

/-- The test at the arming: the play can no longer start at position 0 (R160). -/
def armTestFails (ch : Channels) (b : BoundBreak) : Bool :=
  (match ch.lastPass with | some c => decide (b.cOut ≤ c) | none => false)
    || (match ch.lastGap with | some c => decide (b.cOut < c) | none => false)

/-! ### Losing step and the end of a break (R172 to R176) -/

/-- A channel gives its break up, the steps in order (R172, R173). PLAY_ABANDONED carries the break id, the state and the
play position held before the unbind (log entry 18). A record whose removal instant has passed leaves after
them (R96; log entry 48). -/
def giveUp (cause : AbandonCause) (k : Nat) (s : State) : State :=
  match s.chans.chan[k]? with
  | none => s
  | some c =>
    let s := updateChan k (fun x => { x with plan := none }) s
    let s := channelMove c.breakId .abandoned (some cause) s
    let s := unbind k s
    let s := raise (.playAbandoned k c.breakId cause c.state c.cursor.position) s
    let s := setLatch .split s
    let s := match cause with
      | .lostStep => countChan k (fun n => { n with lostSteps := bump n.lostSteps }) s
      | .override => countChan k (fun n => { n with overrides := bump n.overrides }) s
    settleRemoval c.breakId s

/-- A channel's break ends at a pass at or after C_in: the record's move, then the unbind, the current plan kept
(R164, R174, R177). A record whose removal instant has passed leaves after that (R96; log entry 48). -/
def endPlay (k : Nat) (s : State) : State :=
  match s.chans.chan[k]? with
  | none => s
  | some c =>
    let s := unbind k (channelMove c.breakId .ended none s)
    let s := countChan k (fun n => { n with ended := bump n.ended }) s
    settleRemoval c.breakId s

/-- An arm request: the channel becomes ARMED, freezes its spots, learns their lengths and sets its cursor; it loses
step at once when the play cannot start at position 0 (R160). -/
def armChannel (k : Nat) (s : State) : State :=
  match s.chans.chan[k]? with
  | none => s
  | some c =>
    if c.state ≠ .reserved then s
    else
      let items := c.items.map (playItemOf s.store)
      let pad := c.padItem.map (playItemOf s.store)
      let s := updateChan k (fun x => { x with state := .armed }) s
      let s := raise (.channelState k c.breakId .reserved .armed c.cursor.position) s
      let s := forEach freezeSpot c.spotsNamed s
      let s := updateChan k (fun x => { x with
        items := items
        padItem := pad
        listedLength := listedLength items
        padLength := padLength pad
        cursor := Cursor.start items }) s
      match c.bound with
      | none => s
      | some b => if armTestFails s.chans b then giveUp .lostStep k s else s

/-! ### Frame passes (R163 to R166, R171) -/

/-- What a frame pass event carries (R55). -/
structure FramePass where
  number : Nat
  c : Time
  counts : List (Nat × Nat)
  status : CountStatus
  disposition : Disposition
  deriving DecidableEq, Repr

/-- The pass is of a released frame: EMITTED or CONSUMED (R163). -/
def FramePass.released (p : FramePass) : Bool :=
  match p.disposition with
  | .emitted => true
  | .consumed => true
  | .discarded _ => false

/-- A frame's count for a service tag (R165). -/
def FramePass.countOf (p : FramePass) (tag : Nat) : Nat :=
  match p.counts.find? fun x => x.1 == tag with
  | some x => x.2
  | none => 0

/-- A channel changes state and reports it with the position given. -/
def setChannelState (k : Nat) (new : ChannelState) (position : Nat) (s : State) : State :=
  match s.chans.chan[k]? with
  | none => s
  | some c => raise (.channelState k c.breakId c.state new position) (updateChan k (fun x => { x with state := new }) s)

/-- A PLAYING channel whose position has reached its listed length becomes PADDING, reported at that position (R165 step
4; section 9.10). -/
def padReached (k : Nat) (s : State) : State :=
  match s.chans.chan[k]? with
  | none => s
  | some c =>
    if c.state = .playing ∧ c.listedLength ≤ c.cursor.position then setChannelState k .padding c.listedLength s else s

/-- A PLAYING or PADDING channel takes the positions of a frame within its interval and keeps a plan if the frame is
emitted (R165, step 4; R166). -/
def planFrame (p : FramePass) (k : Nat) (s : State) : State :=
  match s.chans.chan[k]? with
  | none => s
  | some c =>
    let tag := c.tag.getD 0
    let n := p.countOf tag
    let plan : FramePlan := ⟨p.number, tag, c.cursor.position, n, 0, c.cursor, c.breakId, c.items, c.padItem⟩
    let s := updateChan k (fun x => { x with
      cursor := x.cursor.advance x.items x.padItem n
      plan := if p.disposition = .emitted then some plan else x.plan }) s
    padReached k (countChan k (fun x => { x with
      framesPlanned := bump x.framesPlanned
      positionsPlanned := bumpBy x.positionsPlanned n }) s)

/-- A PLAYING or PADDING channel judges a pass, in order (R165). -/
def playPass (p : FramePass) (k : Nat) (b : BoundBreak) (s : State) : State :=
  if b.cIn ≤ p.c then endPlay k s
  else if p.status ≠ .known then giveUp .lostStep k s
  else if p.c < b.cOut then s
  else planFrame p k s

/-- An ARMED channel judges a pass, in order (R164). -/
def armedPass (p : FramePass) (k : Nat) (b : BoundBreak) (s : State) : State :=
  if b.cIn ≤ p.c then endPlay k s
  else if p.c < b.cOut then s
  else if p.status ≠ .known then giveUp .lostStep k s
  else planFrame p k (channelMove b.id .airing none (setChannelState k .playing (s.playPosition k) s))

/-- One channel acts on a pass (R163). -/
def channelPass (p : FramePass) (k : Nat) (s : State) : State :=
  match s.chans.chan[k]? with
  | none => s
  | some c =>
    match c.bound with
    | none => s
    | some b =>
      match c.state with
      | .idle => s
      | .reserved => s
      | .armed => armedPass p k b s
      | .playing => playPass p k b s
      | .padding => playPass p k b s

/-- Every channel's current plan becomes absent (R163). -/
def dropPlans (s : State) : State :=
  { s with chans := { s.chans with chan := s.chans.chan.map fun c => { c with plan := none } } }

/-- A frame pass at the insertion channels, channel 0 first (R163; log entry 53). -/
def framePass (p : FramePass) (s : State) : State :=
  let s := if p.released then dropPlans s else s
  let s := forEach (channelPass p) channelNumbers s
  { s with chans := { s.chans with lastPass := some p.c, passCount := bump s.chans.passCount } }

/-! ### Gaps and OVERRIDE (R170, R173) -/

/-- One channel acts on a FRAME_GAP (R170). -/
def channelGap (c : Time) (k : Nat) (s : State) : State :=
  match s.chans.chan[k]? with
  | none => s
  | some x =>
    match x.state with
    | .idle => s
    | .reserved => s
    | .armed =>
      match x.bound with
      | some b => if b.cOut < c then giveUp .lostStep k s else s
      | none => s
    | .playing => giveUp .lostStep k s
    | .padding => giveUp .lostStep k s

/-- A FRAME_GAP at the insertion channels, with the C it carries, channel 0 first (R170; log entry 53). -/
def frameGapToChannels (c : Time) (s : State) : State :=
  forEach (channelGap c) channelNumbers { s with chans := { s.chans with lastGap := some c } }

/-- One channel acts on OVERRIDE becoming active (R173). -/
def channelOverride (k : Nat) (s : State) : State :=
  match s.chans.chan[k]? with
  | none => s
  | some x => if x.state.frozen then giveUp .override k s else s

/-- OVERRIDE becomes active: every ARMED, PLAYING and PADDING channel gives up its break, channel 0 first (R173; log
entry 53). -/
def overrideChannels (s : State) : State := forEach channelOverride channelNumbers s

/-! ### Substitution (R167 to R169) -/

/-- A plan substitutes this cell of this frame (R167). -/
def FramePlan.takes (p : FramePlan) (frame : Nat) (cell : Cell) : Bool :=
  p.frame == frame && p.tag == cellTag cell && cellKind cell == .programme && decide (p.substituted < p.count)

/-- The channel whose current plan takes a cell (R167). -/
def takingChannel (frame : Nat) (cell : Cell) (s : State) : Option (Nat × FramePlan) :=
  channelNumbers.findSome? fun k => match s.chans.chan[k]? with
    | some c =>
      match c.plan with
      | some p => if p.takes frame cell then some (k, p) else none
      | none => none
    | none => none

/-- A bad verdict: the channel's counters, the failure handed to the store, and the PLAY_READ_FAIL of a segment other
than the last failed one (R169). -/
def readFailed (k : Nat) (p : FramePlan) (id segment : Nat) (s : State) : State :=
  let s := updateStoreCounters (fun n => { n with readFailures := bump n.readFailures }) s
  let s := countChan k (fun n => { n with readFailures := bump n.readFailures, fillers := bump n.fillers }) s
  let s := storeFailure refresh id segment s
  match s.chans.chan[k]? with
  | none => s
  | some c =>
    if c.lastFailed = some (id, segment) then s
    else raise (.playReadFail k p.breakId id segment p.read.position)
      (updateChan k (fun x => { x with lastFailed := some (id, segment) }) s)

/-- The substituted cell of a plan's read cursor, and the state after it (R168, R169). -/
def substitutedCell (k : Nat) (p : FramePlan) (cell : Cell) (s : State) : Cell × State :=
  match p.read.content p.items p.padItem with
  | .filler => (fillerCell, countChan k (fun n => { n with fillers := bump n.fillers }) s)
  | .spotCell x segment index =>
    let s := if p.read.index = .pad then countChan k (fun n => { n with padCells := bump n.padCells }) s else s
    match s.store.read x.id segment index with
    | some body => (makeCell p.tag 1 (cellCount cell) body, s)
    | none => (fillerCell, readFailed k p x.id segment s)

/-- A cell of an EMITTING frame passes the insertion channels (R167): substituted under the plan that takes it, the
plan's count and read cursor advancing by one, or handed back as it came. -/
def passChannels (frame : Nat) (cell : Cell) (s : State) : Cell × State :=
  match takingChannel frame cell s with
  | none => (cell, s)
  | some (k, p) =>
    let r := substitutedCell k p cell s
    let s := updateChan k (fun c => { c with
      plan := c.plan.map fun q => { q with substituted := q.substituted + 1, read := q.read.step q.items q.padItem } }) r.2
    (r.1, countChan k (fun n => { n with substituted := bump n.substituted }) s)

end Sys2Proof.Machine
end

