-- ==== Sys2Proof/Machine/BreakTable.lean ====
section
/-! DEFINITION. The cue decoder and the break table (Chapter 5) with the decision, the lock and the split watch of the
agreement unit (Chapter 8): the handling of a cue, and the commands DECISION_INSTANT, LOCK_INSTANT, END_INSTANT,
REMOVAL_INSTANT, WATCH_OPEN and WATCH_CLOSE. -/

namespace Sys2Proof.Machine

open Sys2Proof

/-! ### Cues (R85 to R92) -/

/-- Change the cue decoder's counters. -/
def countCues (f : CueCounters → CueCounters) (s : State) : State :=
  { s with cues := { s.cues with counters := f s.cues.counters } }

/-- A refusal is reported and counted under its cause (R89). -/
def refuseCue (id version : Nat) (cause : RefusalCause) (s : State) : State :=
  countCues (fun k => { k with refusals := k.refusals.modify cause.code bump }) (raise (.cueRefused id version cause) s)

/-- The splice points of a candidate, each stamp resolved on its own (R88). -/
def splicePoints (b : BreakCue) (arrival : Time) : Time × Time :=
  (resolveStamp arrival b.outS b.outF, resolveStamp arrival b.inS b.inF)

/-- Two half-open intervals intersect when each begins before the other ends (R89). -/
def intersects (out₁ in₁ out₂ in₂ : Time) : Bool := decide (out₁ < in₂) && decide (out₂ < in₁)

/-- The first check that refuses a candidate with resolved splice points (R89). -/
def refusalOf (c : SiteConfig) (b : BreakCue) (cOut cIn arrival : Time) (s : State) : Option RefusalCause :=
  if cIn ≤ cOut ∨ 6000000000 < cIn - cOut then some .badInterval
  else if cOut - arrival < msTime c.decisionMs + msTime c.marginMs then some .lateCue
  else if !c.routing.contains b.tag then some .notRouted
  else if s.cues.table.any fun r => r.id != b.id && r.tag == b.tag && intersects r.cOut r.cIn cOut cIn then
    some .overlap
  else if (s.record? b.id).isNone && decide (Config.breakTableMax ≤ s.cues.table.length) then some .tableFull
  else none

/-- The break record of an accepted cue (R90). -/
def newRecord (c : SiteConfig) (b : BreakCue) (cOut cIn : Time) : BreakRecord where
  id := b.id
  version := b.version
  check := b.check
  tag := b.tag
  cOut := cOut
  cIn := cIn
  spots := b.spots
  pad := b.pad
  state := .openState
  stance := .pending
  decisionAt := cOut - msTime c.decisionMs
  lockAt := cOut - msTime c.lockMs
  endAt := none
  removalAt := none
  channel := none
  abandonCause := none
  splitReported := []
  lateReported := []
  watch := none

/-- A new break is accepted, the steps in order (R90); its first stance is reported as a change from none (R137). -/
def acceptBreak (c : SiteConfig) (b : BreakCue) (cOut cIn : Time) (s : State) : State :=
  let r := newRecord c b cOut cIn
  let r := { r with stance := stanceOf s r }
  let s := { s with cues := { s.cues with table := s.cues.table ++ [r] } }
  let s := forEach protectSpot r.spotsNamed s
  let s := reportStance r.id none r.stance (urgent s)
  let s := raise (.breakAccepted r.id r.version r.tag r.cOut r.cIn) s
  countCues (fun k => { k with accepted := bump k.accepted }) s

/-- An OPEN record takes the content of an accepted update, the steps in order (R91). -/
def updateBreak (c : SiteConfig) (b : BreakCue) (cOut cIn : Time) (old : BreakRecord) (s : State) : State :=
  let n := newRecord c b cOut cIn
  let s := updateRecord b.id (fun r => { r with
    check := n.check
    version := n.version
    tag := n.tag
    cOut := n.cOut
    cIn := n.cIn
    spots := n.spots
    pad := n.pad
    decisionAt := n.decisionAt
    lockAt := n.lockAt }) s
  let s := forEach protectSpot n.spotsNamed s
  let s := forEach (releaseSpot refresh) old.spotsNamed s
  let s := refreshRecord b.id s
  let s := raise (.breakUpdated b.id old.version n.version) s
  countCues (fun k => { k with updates := bump k.updates }) s

/-- A candidate: its splice points resolved, then tested, then accepted (R88, R89). -/
def judgeCandidate (c : SiteConfig) (b : BreakCue) (arrival : Time) (s : State) : State :=
  if s.tb.disc = .unset then refuseCue b.id b.version .noTime s
  else
    let p := splicePoints b arrival
    match refusalOf c b p.1 p.2 arrival s with
    | some cause => refuseCue b.id b.version cause s
    | none =>
      match s.record? b.id with
      | some old => updateBreak c b p.1 p.2 old s
      | none => acceptBreak c b p.1 p.2 s

/-- A matching BREAK cue meets the table: a repeat, a change or a new candidate (R87). -/
def takeBreak (c : SiteConfig) (b : BreakCue) (arrival : Time) (s : State) : State :=
  match s.record? b.id with
  | none => judgeCandidate c b arrival s
  | some r =>
    if r.version = b.version ∧ r.check = b.check then countCues (fun k => { k with repeats := bump k.repeats }) s
    else if r.state = .openState then judgeCandidate c b arrival s
    else refuseCue b.id b.version .changedLate s

/-- A record that a CANCEL takes: OPEN, DECIDED_GO or DECIDED_HOLD (R92). -/
def BreakState.cancellable : BreakState → Bool
  | .openState => true
  | .decidedGo => true
  | .decidedHold => true
  | _ => false

/-- A matching CANCEL cue (R92). -/
def takeCancel (id : Nat) (s : State) : State :=
  match s.record? id with
  | none => countCues (fun k => { k with unknownCancels := bump k.unknownCancels }) s
  | some r =>
    if r.state.cancellable then
      countCues (fun k => { k with cancels := bump k.cancels }) (raise (.breakCancelled id r.state) (removeRecord id s))
    else refuseCue id 0 .cancelLate s

/-- A matching cue with its break id tested (R86). -/
def takeAction (c : SiteConfig) (a : CueAction) (arrival : Time) (s : State) : State :=
  let zero := countCues (fun k => { k with zeroId := bump k.zeroId }) s
  match a with
  | .breakCue b => if b.id = 0 then zero else takeBreak c b arrival s
  | .cancel id => if id = 0 then zero else takeCancel id s

/-- A cue cell at the cue decoder, with its arrival time (R85, R86). -/
def cueTaken (c : SiteConfig) (body : List Byte) (arrival : Time) (s : State) : State :=
  match cueOf body with
  | none => countCues (fun k => { k with malformed := bump k.malformed }) s
  | some cue =>
    let s := countCues (fun k => { k with taken := bump k.taken }) s
    if zoneMatch c.zoneCode cue.zoneCode cue.zoneMask then takeAction c cue.action arrival s
    else countCues (fun k => { k with otherZone := bump k.otherZone }) s

/-! ### The instants of a record (section 5.5 of Chapter 5, R154) -/

/-- The instants watched for a record. -/
inductive BreakInstant where
  | decision | lock | watchOpen | watchClose | endInstant | removal
  deriving DecidableEq, Repr

/-- The record is past its decision and not yet locked. -/
def BreakState.decided : BreakState → Bool
  | .decidedGo => true
  | .decidedHold => true
  | _ => false

/-- The record is locked and has not ended. -/
def BreakState.running : BreakState → Bool
  | .lockedGo => true
  | .lockedHold => true
  | .airing => true
  | _ => false

/-- The record is ENDED or ABANDONED. -/
def BreakState.over : BreakState → Bool
  | .ended => true
  | .abandoned => true
  | _ => false

/-- The watch-open instant (R154). -/
def BreakRecord.watchOpenAt (r : BreakRecord) : Time := r.cOut + 10000000

/-- The watch-close instant (R154). -/
def BreakRecord.watchCloseAt (r : BreakRecord) : Time := r.cIn - 10000000

/-- The instants that can still fall due for a record in its present state. -/
def BreakRecord.instants (r : BreakRecord) : List (Time × BreakInstant) :=
  (if r.state = .openState then [(r.decisionAt, .decision)] else [])
    ++ (if r.state.decided then [(r.lockAt, .lock)] else [])
    ++ (if r.watch = some .waiting then [(r.watchOpenAt, .watchOpen)] else [])
    ++ (if r.watch = some .watching then [(r.watchCloseAt, .watchClose)] else [])
    ++ (if r.state.running then r.endAt.toList.map fun t => (t, .endInstant) else [])
    ++ (if r.state.over then r.removalAt.toList.map fun t => (t, .removal) else [])

/-- The earliest of a list of instants, the first of those at one time. -/
def earliest : List (Time × BreakInstant) → Option (Time × BreakInstant)
  | [] => none
  | x :: rest =>
    match earliest rest with
    | some y => if y.1 < x.1 then some y else some x
    | none => some x

/-- The instant of a record that has fallen due, the earliest first (section 5.5 of Chapter 5). -/
def BreakRecord.dueInstant (r : BreakRecord) (now : Time) : Option BreakInstant :=
  match earliest r.instants with
  | some x => if x.1 ≤ now then some x.2 else none
  | none => none

/-- The record of a break id when the named instant of it has fallen due. -/
def dueRecord (id : Nat) (what : BreakInstant) (s : State) : Option BreakRecord :=
  match s.record? id with
  | some r => if r.dueInstant s.tb.now = some what then some r else none
  | none => none

/-! ### The decision (R143 to R146) -/

/-- A PRESENT roster peer shows ready for a break (R144). -/
def showsReady (r : BreakRecord) (p : Peer) : Bool :=
  match peerEntry p r.id with
  | some e => e.version == r.version && e.check == r.check && (e.stance == .ready || e.stance == .go)
  | none => false

/-- The first PRESENT peer, in site number, that is not ready (R143 test 3, R144). -/
def peerNotReady (r : BreakRecord) (s : State) : Option Peer :=
  s.ros.peers.find? fun p => p.state == .present && !showsReady r p

/-- The channel that a GO decision would take: none when test 4 fails (R145). -/
def reservable (r : BreakRecord) (s : State) : Option Nat := if tagBound s r.tag then none else idleChannel s

/-- The reason of a HOLD by the first two tests (R143). -/
def ownReason (r : BreakRecord) (s : State) : Option HoldReason :=
  match r.stance with
  | .ready => if s.ros.presentCount < s.ros.quorum.getD 0 then some .quorum else none
  | .pending => some .pending
  | _ => some .self

/-- What a decision gives: a HOLD with its reason and the peer that test 3 names, or a GO with its channel. -/
inductive Decided where
  | hold (reason : HoldReason) (peer : Option Nat)
  | holdUnreserved
  | go (channel : Nat)
  deriving DecidableEq, Repr

/-- The tests of a decision, in order (R143). -/
def decide4 (r : BreakRecord) (s : State) : Decided :=
  match ownReason r s with
  | some reason => .hold reason none
  | none =>
    match peerNotReady r s with
    | some p => .hold .peer (some p.site)
    | none =>
      match reservable r s with
      | none => .holdUnreserved
      | some k => .go k

/-- The counter of HOLD decisions for a reason (section 8.7). -/
def countHold (reason : HoldReason) (s : State) : State :=
  match reason with
  | .pending => countAgree (fun k => { k with holdPending := bump k.holdPending }) s
  | .quorum => countAgree (fun k => { k with holdQuorum := bump k.holdQuorum }) s
  | .peer => countAgree (fun k => { k with holdPeer := bump k.holdPeer }) s
  | .self => countAgree (fun k => { k with holdSelf := bump k.holdSelf }) s
  | .heardHold => s

/-- Step 1 of a decision: the state is moved and the stance written, with its report (R146; log entry 12). -/
def moveDecided (r : BreakRecord) (state : BreakState) (stance : Stance) (s : State) : State :=
  let s := updateRecord r.id (fun x => { x with stance := stance }) (moveState r.id state s)
  reportStance r.id (some r.stance) stance s

/-- Steps 3 to 5 of a decision: the split watch, the DECISION event and the urgent cause (R146). -/
def reportDecision (r : BreakRecord) (reason : Option HoldReason) (peer : Option Nat) (s : State) : State :=
  let s := updateRecord r.id (fun x => { x with watch := some .waiting }) s
  urgent (raise (.decision r.id reason s.ros.presentCount (s.ros.quorum.getD 0) peer) s)

/-- A HOLD decision carried out (R146). -/
def decideHold (r : BreakRecord) (reason : HoldReason) (peer : Option Nat) (s : State) : State :=
  let s := moveDecided r .decidedHold (.hold reason) s
  countHold reason (reportDecision r (some reason) peer s)

/-- A GO decision carried out (R145, R146). The OPEN stances are recomputed as its last act (R137), so that a record
decided later at the same site time is tested with its new stance (DESIGN CHOICE, log entry 60). -/
def decideGo (r : BreakRecord) (k : Nat) (s : State) : State :=
  let s := bindChannel k r (moveDecided r .decidedGo .go s)
  let s := reportDecision r none none s
  refresh (countAgree (fun n => { n with goDecisions := bump n.goDecisions }) s)

/-- The decision of a record at its instant (R143 to R146). -/
def decideRecord (r : BreakRecord) (s : State) : State :=
  match decide4 r s with
  | .hold reason peer => decideHold r reason peer s
  | .holdUnreserved =>
    decideHold r .self none (countAgree (fun n => { n with reservationFailures := bump n.reservationFailures }) s)
  | .go k => decideGo r k s

/-- The first OPEN record in table order whose decision instant has fallen due (R93, R145). -/
def decisionDue (s : State) : Option BreakRecord :=
  s.cues.table.find? fun r => r.dueInstant s.tb.now == some .decision

/-- DECISION_INSTANT (R143). -/
def execDecisionInstant (s : State) : Host.Outcome State Fault Refusal :=
  .next (match decisionDue s with
    | some r => decideRecord r s
    | none => s)

/-! ### Lock, end and removal (R94 to R96, R151) -/

/-- A DECIDED_GO record locks: its channel is armed, and the end instant is C_in plus Lmax (R95, R151). -/
def lockGo (r : BreakRecord) (s : State) : State :=
  let lmax := s.setting SiteConfig.lmax 20000000
  let s := updateRecord r.id (fun x => { x with endAt := some (r.cIn + lmax) }) (moveState r.id .lockedGo s)
  let s := compareAll r.id s
  match r.channel with
  | some k => armChannel k s
  | none => s

/-- A DECIDED_HOLD record locks: the end instant is C_in (R95, R151). -/
def lockHold (r : BreakRecord) (s : State) : State :=
  compareAll r.id (updateRecord r.id (fun x => { x with endAt := some r.cIn }) (moveState r.id .lockedHold s))

/-- LOCK_INSTANT of the named break (R94, R151). -/
def execLockInstant (id : Nat) (s : State) : Host.Outcome State Fault Refusal :=
  .next (match dueRecord id .lock s with
    | some r => if r.state = .decidedGo then lockGo r s else lockHold r s
    | none => s)

/-- END_INSTANT of the named break: the record becomes ENDED, and the end is handed to its bound channel (R95, R175). -/
def execEndInstant (id : Nat) (s : State) : Host.Outcome State Fault Refusal :=
  .next (match dueRecord id .endInstant s with
    | some r =>
      match r.channel with
      | some k => endPlay k s
      | none => settleRemoval id (channelMove id .ended none s)
    | none => s)

/-- REMOVAL_INSTANT of the named break: the record leaves the table (R96, R100). -/
def execRemovalInstant (id : Nat) (s : State) : Host.Outcome State Fault Refusal :=
  .next (match dueRecord id .removal s with
    | some _ => removeRecord id s
    | none => s)

/-! ### The split watch (R154) -/

/-- WATCH_OPEN of the named break: the watch opens and every PRESENT peer is compared, or a watch whose close is not
after its opening goes to CLOSED (R154). -/
def execWatchOpen (id : Nat) (s : State) : Host.Outcome State Fault Refusal :=
  .next (match dueRecord id .watchOpen s with
    | some r =>
      if r.watchCloseAt ≤ r.watchOpenAt then updateRecord id (fun x => { x with watch := some .closed }) s
      else compareAll id (updateRecord id (fun x => { x with watch := some .watching }) s)
    | none => s)

/-- WATCH_CLOSE of the named break (R154). -/
def execWatchClose (id : Nat) (s : State) : Host.Outcome State Fault Refusal :=
  .next (match dueRecord id .watchClose s with
    | some _ => updateRecord id (fun x => { x with watch := some .closed }) s
    | none => s)

end Sys2Proof.Machine
end

