-- ==== Sys2Proof/Machine/EmissionOps.lean ====
section
/-! DEFINITION. The emission controller's shared operations (Chapter 3): the queue and its flag, the mute causes and
the emission state, the frame pass, pacing across a step of site time, and the output of a cell. -/

namespace Sys2Proof.Machine

open Sys2Proof

/-! ### Records and counters -/

/-- Change the record of a frame number. -/
def updateFrame (n : Nat) (f : FrameRecord → FrameRecord) (s : State) : State :=
  { s with em := { s.em with table := updateWhere (fun r => r.number == n) f s.em.table } }

/-- The record of a frame number. -/
def State.frame? (s : State) (n : Nat) : Option FrameRecord := s.em.table.find? fun r => r.number == n

/-- The current frame's record (section 3.1). -/
def State.currentFrame (s : State) : Option FrameRecord :=
  match s.em.current with
  | some n => s.frame? n
  | none => none

/-- Change the emission counters. -/
def countEm (f : EmissionCounters → EmissionCounters) (s : State) : State :=
  { s with em := { s.em with counters := f s.em.counters } }

/-- Cells of a released frame whose instants have not been taken. -/
def FrameRecord.left (r : FrameRecord) : Nat := r.declared + 1 - (r.sent + r.consumed + r.cut)

/-- The cell interval P of the record in use (R50). -/
def State.interval (s : State) : Time := s.setting SiteConfig.interval 800

/-! ### The queue (R46, R47) -/

/-- Set the high flag when occupancy has risen to the almost-full threshold (R47). -/
def checkHigh (s : State) : State :=
  let q := s.em.queue
  if !q.high && decide (s.setting SiteConfig.almostFull 57344 ≤ q.occupancy) then
    raise (.queueHigh q.occupancy) { s with em := { s.em with queue := { q with high := true } } }
  else s

/-- Clear the high flag when occupancy has fallen to the almost-empty threshold (R47). -/
def checkLow (s : State) : State :=
  let q := s.em.queue
  if q.high && decide (q.occupancy ≤ s.setting SiteConfig.almostEmpty 4096) then
    raise (.queueLow q.occupancy) { s with em := { s.em with queue := { q with high := false } } }
  else s

/-- The cell at the oldest held slot; a slot nothing has written holds a free value (log entry 2). -/
def CellQueue.front (q : CellQueue) : Cell :=
  match memRead q.slots q.oldest with
  | some c => c
  | none => Config.unwrittenCell q.oldest

/-- Free the oldest held slot (R46). -/
def freeSlot (s : State) : State :=
  let q := s.em.queue
  checkLow { s with em := { s.em with queue := { q with
    oldest := (q.oldest + 1) % Config.queueSlots
    occupancy := q.occupancy - 1 } } }

/-- Free slots in order, from the oldest held slot (R51). -/
def freeSlots (n : Nat) (s : State) : State := iter freeSlot n s

/-- Place a cell at the next free slot (R46). -/
def storeCell (c : Cell) (s : State) : State :=
  let q := s.em.queue
  checkHigh { s with em := { s.em with queue := { q with
    slots := memWrite q.slots q.nextFree c
    nextFree := (q.nextFree + 1) % Config.queueSlots
    occupancy := q.occupancy + 1 } } }

/-- Give back the slots an ASSEMBLING record holds: the next free slot returns to its first-cell position (R42, R46). -/
def giveBack (n : Nat) (s : State) : State :=
  match s.frame? n with
  | none => s
  | some r =>
    match r.firstSlot with
    | none => s
    | some first =>
      let q := s.em.queue
      let s := { s with em := { s.em with queue := { q with
        nextFree := first
        occupancy := q.occupancy - r.slotsHeld } } }
      checkLow (updateFrame n (fun x => { x with slotsHeld := 0, firstSlot := none }) s)

/-! ### The emission state and the mute causes (R56 to R62) -/

/-- Change the emission state: the carrier follows it (R52, R57), the change is reported, and it is handed to the
agreement unit and, as an urgent cause, to the zone line interface (section 3.6). On leaving ON_AIR the carrier stays
asserted to the end of a transfer that began with it. -/
def changeEmission (new : EmissionState) (s : State) : State :=
  let old := s.em.state
  let carrier := match new, s.em.transfer with
    | .onAir, _ => true
    | .fault, _ => false
    | _, some t => s.em.carrier && t.carrier
    | _, none => false
  let s := { s with em := { s.em with state := new, carrier := carrier } }
  urgent (refresh (raise (.emissionState old new s.em.causes) s))

/-- The EMITTING current frame becomes PASSED (R57). -/
def passCurrent (s : State) : State :=
  match s.em.current with
  | none => s
  | some n => updateFrame n (fun r => if r.state = .emitting then { r with state := .passed } else r) s

/-- Entry to MUTED (R57): the current frame becomes PASSED and the AIR latch cause is handed on. -/
def enterMuted (s : State) : State := setLatch .air (changeEmission .muted (passCurrent s))

/-- Add a cause to the mute cause set and report it; in ON_AIR the state becomes MUTED at once (R57, section 3.7). In
FAULT the set is not kept. -/
def addCause (c : MuteCause) (s : State) : State :=
  if s.em.state = .fault ∨ s.em.causes.has c = true then s
  else
    let set := s.em.causes.put c true
    let s := raise (.muteCause c true set) { s with em := { s.em with causes := set } }
    if s.em.state = .onAir then enterMuted s else s

/-- Remove a cause from the mute cause set and report it; the state is not changed (R58, section 3.7). -/
def removeCause (c : MuteCause) (s : State) : State :=
  if s.em.state = .fault ∨ s.em.causes.has c = false then s
  else
    let set := s.em.causes.put c false
    raise (.muteCause c false set) { s with em := { s.em with causes := set } }

/-- U is compared with the emission limit: TIME is added or removed (R60). -/
def compareU (s : State) : State :=
  if s.emissionLimit < s.tb.u then addCause .time s else removeCause .time s

/-- A discarded frame passes: the discard run and the release run move, in ON_AIR or MUTED (R62). -/
def discardPassed (s : State) : State :=
  if s.em.state = .onAir ∨ s.em.state = .muted then
    let run := min (s.em.discardRun + 1) 3
    let release := if run = 3 ∨ s.em.causes.discardRun = true then 0 else s.em.releaseRun
    let s := { s with em := { s.em with discardRun := run, releaseRun := release } }
    if run = 3 then addCause .discardRun s else s
  else s

/-- The causes that a release changes: STARVE is removed, and the discard run and the release run move (R49 step 2,
R61, R62). -/
def releaseCauses (s : State) : State :=
  let s := removeCause .starve s
  let s := { s with em := { s.em with discardRun := 0 } }
  if s.em.causes.discardRun then
    let run := s.em.releaseRun + 1
    let s := { s with em := { s.em with releaseRun := min run 2 } }
    if 2 ≤ run then removeCause .discardRun s else s
  else s

/-- The emission state is decided at a release (R49 step 3, R56, R58). -/
def decideEmission (s : State) : State :=
  match s.em.state with
  | .standby =>
    if s.isValid && !s.em.causes.time && !s.em.causes.inhibit then changeEmission .onAir s else s
  | .muted => if s.em.causes.isEmpty then changeEmission .onAir s else s
  | .onAir => s
  | .fault => s

/-! ### The frame pass (R54, R55) -/

/-- The record has not passed (R48). -/
def FrameRecord.unpassed (r : FrameRecord) : Bool :=
  match r.state with
  | .emitting => false
  | .passed => false
  | _ => true

/-- The pass of a record, handed to the insertion channels (R55). -/
def handPass (r : FrameRecord) (d : Disposition) (s : State) : State :=
  countEm (fun k => { k with passes := bump k.passes }) (framePass ⟨r.number, r.c, r.counts, r.status, d⟩ s)

/-- A record leaves the frame table (R48). -/
def leaveTable (n : Nat) (s : State) : State :=
  { s with em := { s.em with table := s.em.table.filter fun r => r.number != n } }

/-- A DISCARDED record passes and leaves the table (R55). -/
def passDiscarded (r : FrameRecord) (cause : DiscardCause) (s : State) : State :=
  discardPassed (leaveTable r.number (handPass r (.discarded cause) s))

/-- The DISCARDED records at the pass point that have completed or ended SHORT pass, one after another (R54). -/
def runPasses : Nat → State → State
  | 0, s => s
  | n + 1, s =>
    match s.em.table.find? FrameRecord.unpassed with
    | some r =>
      match r.state with
      | .discarded cause => if r.status = .pending then s else runPasses n (passDiscarded r cause s)
      | _ => s
    | none => s

/-- The pass point is judged (R54). -/
def judgePassPoint (s : State) : State := runPasses s.em.table.length s

/-! ### Pacing (R50 to R53) -/

/-- The Q of the next record in the table that is ASSEMBLING or SCHEDULED (R50, R52). -/
def nextRelease (s : State) : Option Time :=
  (s.em.table.find? fun r => r.state == .assembling || r.state == .scheduled).map FrameRecord.q

/-- A cell may not start at an instant less than the cell time before the next Q (R50, R52). -/
def tooClose (t : Time) (s : State) : Bool :=
  match nextRelease s with
  | some q => decide (q < t + Config.cellTime)
  | none => false

/-- The current frame's emission has ended: its record leaves the table and the current frame becomes none (R50). -/
def endEmission (n : Nat) (s : State) : State :=
  let s := leaveTable n s
  { s with em := { s.em with current := none, heldBack := false } }

/-- End the emission of the current frame if every cell has been sent, consumed or cut (R50). -/
def endIfDone (s : State) : State :=
  match s.currentFrame with
  | some r => if r.left = 0 then endEmission r.number s else s
  | none => s

/-- Cut `n` cells of the current frame: their slots are freed in order and they are counted as cut (R51, R53). -/
def cutCells (n : Nat) (r : FrameRecord) (s : State) : State :=
  let s := freeSlots n s
  let s := updateFrame r.number (fun x => { x with cut := x.cut + n, slotsHeld := x.slotsHeld - n }) s
  countEm (fun k => { k with cutCells := bumpBy k.cutCells n }) s

/-- A cell that was held back is cut once the record it waited for has been discarded (R50). -/
def cutHeld (s : State) : State :=
  if s.em.heldBack && (nextRelease s).isNone then
    match s.currentFrame with
    | some r => endIfDone (cutCells 1 r { s with em := { s.em with heldBack := false } })
    | none => { s with em := { s.em with heldBack := false } }
  else s

/-- The current frame's cells whose instants have not come are cut at a release (R51). -/
def cutCurrent (s : State) : State :=
  match s.currentFrame with
  | none => s
  | some r =>
    if r.left = 0 then endEmission r.number s
    else
      let n := r.left
      let s := cutCells n r s
      let s := countEm (fun k => { k with cutFrames := bump k.cutFrames }) s
      endEmission r.number (raise (.frameCut r.number r.sent (r.cut + n)) s)

/-- How many instants t, t + P, t + 2P and so on lie at or before `upTo`. -/
def instantsThrough (t p upTo : Time) : Nat := if upTo < t ∨ p ≤ 0 then 0 else ((upTo - t) / p + 1).toNat

/-- The instants that a forward step has passed over, through `upTo`: cells of the current frame are consumed as cut,
filler instants are let go, and pacing continues at the first instant after (R53). A cell that was held back stood
before the run and is cut with it (R50). -/
def passOver (upTo : Time) (s : State) : State :=
  match s.em.nextCell with
  | none => s
  | some t =>
    let run := instantsThrough t s.interval upTo
    if run = 0 then s
    else
      let n := run + s.em.heldBack.toNat
      let s := { s with em := { s.em with heldBack := false, nextCell := some (t + run * s.interval) } }
      match s.currentFrame with
      | some r => endIfDone (cutCells (min n r.left) r s)
      | none => s

/-- The last instant that pacing passes over in a step to `upTo`: instants at or after the Q of a SCHEDULED record
belong to that record's release (R49, R53). -/
def runLimit (upTo : Time) (s : State) : Time :=
  match s.em.table.find? fun r => r.state == .scheduled && decide (r.q ≤ upTo) with
  | some r => r.q - 1
  | none => upTo

/-- A step or a time set has moved site time: pacing acts on the instants (R53). -/
def stepPacing (old new : Time) (s : State) : State :=
  if old < new then passOver (runLimit new s) { s with em := { s.em with stepRun := some new } }
  else { s with em := { s.em with stepRun := none } }

/-! ### Output (R50, R52) -/

/-- A transfer begins at the emission port; the carrier is on while the state is ON_AIR (R52). A transfer still in
progress then ends with its start (log entry 45). -/
def startTransfer (c : Cell) (carrier : Bool) (s : State) : State :=
  { s with em := { s.em with transfer := some ⟨c, carrier, s.osc + Config.transferSpan⟩, carrier := carrier } }

/-- A filler cell is output, carrier on in ON_AIR and off in MUTED; nothing is output in STANDBY and FAULT (R52). -/
def outputFiller (s : State) : State :=
  match s.em.state with
  | .onAir => countEm (fun k => { k with fillers := bump k.fillers }) (startTransfer fillerCell true s)
  | .muted => countEm (fun k => { k with fillers := bump k.fillers }) (startTransfer fillerCell false s)
  | .standby => s
  | .fault => s

/-- The cell at the oldest held slot of an EMITTING frame goes out through the insertion channels (R50). -/
def emitCell (r : FrameRecord) (s : State) : State :=
  let out := passChannels r.number s.em.queue.front s
  let s := freeSlot (startTransfer out.1 true out.2)
  updateFrame r.number (fun x => { x with sent := x.sent + 1, slotsHeld := x.slotsHeld - 1 }) s

/-- A cell of a PASSED frame is consumed, and in MUTED a filler is output in its place (R50, R57, R58). -/
def consumeCell (r : FrameRecord) (s : State) : State :=
  let s := outputFiller (freeSlot s)
  updateFrame r.number (fun x => { x with consumed := x.consumed + 1, slotsHeld := x.slotsHeld - 1 }) s

end Sys2Proof.Machine
end

