-- ==== Sys2Proof/Machine/Emission.lean ====
section
/-! DEFINITION. The commands of the emission controller (Chapter 3): ASSEMBLING_LATE, FRAME_RELEASE, CELL_INSTANT,
FILLER_INSTANT, STARVE_EXPIRY and TRANSFER_END. A command whose instant has not come changes nothing (log entry 7). -/

namespace Sys2Proof.Machine

open Sys2Proof

/-! ### Discards of an ASSEMBLING record (R42, R43) -/

/-- The discard counter of a cause increases by 1 (R34, R40, R42, R43). -/
def countDiscard (cause : DiscardCause) (s : State) : State :=
  let k := s.intake.counters
  let k := match cause with
    | .noTime => { k with noTime := bump k.noTime }
    | .tableFull => { k with tableFull := bump k.tableFull }
    | .late => { k with late := bump k.late }
    | .early => { k with early := bump k.early }
    | .order => { k with order := bump k.order }
    | .queueFull => { k with queueFull := bump k.queueFull }
    | .short => { k with short := bump k.short }
  { s with intake := { s.intake with counters := k } }

/-- A discard is reported with its frame number and cause, and counted (R40). -/
def reportDiscard (n : Nat) (cause : DiscardCause) (s : State) : State :=
  countDiscard cause (raise (.frameDiscard n cause) s)

/-- An ASSEMBLING record becomes DISCARDED: its slots are given back, the discard is reported and counted, and a cell
that waited for its Q is cut (R42, R43, R50). -/
def discardAssembling (n : Nat) (cause : DiscardCause) (s : State) : State :=
  let s := updateFrame n (fun r => { r with state := .discarded cause }) s
  cutHeld (reportDiscard n cause (giveBack n s))

/-- The ASSEMBLING record whose Q site time has reached (R43). -/
def lateFrame (s : State) : Option FrameRecord :=
  s.em.table.find? fun r => r.state == .assembling && decide (r.q ≤ s.tb.now)

/-- ASSEMBLING_LATE: the record becomes DISCARDED(LATE), and the pass point is judged (R43, R54). -/
def execAssemblingLate (s : State) : Host.Outcome State Fault Refusal :=
  .next (match lateFrame s with
    | some r => judgePassPoint (discardAssembling r.number .late s)
    | none => s)

/-! ### Release (R49) -/

/-- The SCHEDULED record whose Q site time has reached, the oldest in the table first (R49). -/
def releaseDue (s : State) : Option FrameRecord :=
  s.em.table.find? fun r => r.state == .scheduled && decide (r.q ≤ s.tb.now)

/-- The starve timer is loaded at a release in ON_AIR or MUTED (R49, R61). -/
def loadStarve (q : Time) (s : State) : State :=
  if s.em.state = .onAir ∨ s.em.state = .muted then
    { s with em := { s.em with starve := some (q + msTime (s.setting SiteConfig.starveMs 2000)) } }
  else s

/-- The record becomes EMITTING in ON_AIR and PASSED otherwise, and the release is counted (R49 step 3). -/
def markReleased (n : Nat) (s : State) : State :=
  if s.em.state = .onAir then
    countEm (fun k => { k with toAir := bump k.toAir }) (updateFrame n (fun r => { r with state := .emitting }) s)
  else
    countEm (fun k => { k with consumedReleases := bump k.consumedReleases })
      (updateFrame n (fun r => { r with state := .passed }) s)

/-- The released record passes with its disposition (R49 step 4, R55). -/
def passReleased (n : Nat) (s : State) : State :=
  match s.frame? n with
  | some r => handPass r (if r.state = .emitting then .emitted else .consumed) s
  | none => s

/-- The record becomes the current frame, its head's instant its Q (R49 step 5). -/
def makeCurrent (r : FrameRecord) (s : State) : State :=
  { s with em := { s.em with current := some r.number, nextCell := some r.q, heldBack := false } }

/-- Pacing after a release whose Q lies at or before the time that the last forward step has reached: when no other
record is due, the released frame's instants up to that time are passed over (R49, R53; log entry 24). -/
def paceReleased (r : FrameRecord) (s : State) : State :=
  match s.em.stepRun with
  | some new => if r.q ≤ new ∧ (releaseDue s).isNone then passOver new s else s
  | none => s

/-- The release of a record, its steps in order (R49). Discarded records behind it pass after step 5, when it is the
current frame (DESIGN CHOICE, log entry 57); older ones between steps 3 and 4 (log entry 35). -/
def releaseFrame (r : FrameRecord) (s : State) : State :=
  let s := decideEmission (releaseCauses (cutCurrent s))
  let s := markReleased r.number (judgePassPoint (loadStarve r.q s))
  let s := makeCurrent r (passReleased r.number s)
  paceReleased r (judgePassPoint s)

/-- FRAME_RELEASE: the oldest SCHEDULED record whose Q has come is released (R49). -/
def execFrameRelease (s : State) : Host.Outcome State Fault Refusal :=
  .next (match releaseDue s with
    | some r => releaseFrame r s
    | none => s)

/-! ### Instants (R50, R52) -/

/-- The next cell instant when it has come; a record whose Q has come is taken first (R49, R50). -/
def instantDue (s : State) : Option Time :=
  if (releaseDue s).isSome || (lateFrame s).isSome then none
  else match s.em.nextCell with
    | some t => if t ≤ s.tb.now then some t else none
    | none => none

/-- Pacing goes on to the instant after `t` (R50, R52). -/
def advanceInstant (t : Time) (s : State) : State :=
  { s with em := { s.em with nextCell := some (t + s.interval) } }

/-- A cell of the current frame at its instant: held back when it may not start, otherwise output or consumed (R50). -/
def paceCell (t : Time) (r : FrameRecord) (s : State) : State :=
  if tooClose t s then { s with em := { s.em with heldBack := true } }
  else if r.state = .emitting then endIfDone (emitCell r s)
  else endIfDone (consumeCell r s)

/-- CELL_INSTANT: the cell of the current frame at the present instant (R50). -/
def execCellInstant (s : State) : Host.Outcome State Fault Refusal :=
  .next (match instantDue s, s.currentFrame with
    | some t, some r => advanceInstant t (paceCell t r s)
    | _, _ => s)

/-- FILLER_INSTANT: the filler grid at the present instant, with no current frame (R52). -/
def execFillerInstant (s : State) : Host.Outcome State Fault Refusal :=
  .next (match instantDue s, s.currentFrame with
    | some t, none => advanceInstant t (if tooClose t s then s else outputFiller s)
    | _, _ => s)

/-! ### Timers (R57, R61) -/

/-- STARVE_EXPIRY: STARVE is added and the timer stops (R61). -/
def execStarveExpiry (s : State) : Host.Outcome State Fault Refusal :=
  .next (if isDue s.tb.now s.em.starve then
    let s := countEm (fun k => { k with starves := bump k.starves }) { s with em := { s.em with starve := none } }
    addCause .starve s
  else s)

/-- The transfer at the emission port has ended. -/
def transferDue (s : State) : Bool :=
  match s.em.transfer with
  | some t => decide (t.endsAt ≤ s.osc)
  | none => false

/-- TRANSFER_END: the transfer ends, and the carrier-on output is then asserted in ON_AIR alone (R52, R57). -/
def execTransferEnd (s : State) : Host.Outcome State Fault Refusal :=
  .next (if transferDue s then
    { s with em := { s.em with transfer := none, carrier := s.em.state == .onAir } }
  else s)

end Sys2Proof.Machine
end

