-- ==== Sys2Proof/Machine/SpotStore.lean ====
section
/-! DEFINITION. The spot store controller (Chapter 4): segment heads and bodies, entries and their versions, the
completion of a check, expiry at a second boundary, and the RESTART line; the command CHECK_COMPLETE. -/

namespace Sys2Proof.Machine

open Sys2Proof

/-! ### Heads (R64 to R69) -/

/-- The assembler passes over a head's bodies (section 4.3). -/
def skipHead (h : SegmentHead) (s : State) : State := setAssembler (.skip ⟨h.spot, h.segment, h.cells, 0⟩) s

/-- The head disagrees with the entry of its spot (R67). -/
def headInconsistent (h : SegmentHead) (e : Entry) : Bool :=
  h.segCount != e.segCount ||
    (h.isLast && match e.lastCells with
      | some n => n != h.cells
      | none => false)

/-- A consistent head whose segment is missing enters CAPTURE with the page at the front of the free list, or meets
STORE_FULL(PAGES) (R67). A segment that meets STORE_FULL(PAGES) is not counted as a dropped segment (DESIGN CHOICE, log
entry 58). -/
def captureHead (h : SegmentHead) (s : State) : State :=
  match s.store.freePages with
  | [] => raise (.storeFullPages h.spot.id h.segment) (skipHead h s)
  | page :: rest =>
    setAssembler (.capture ⟨h.spot, h.segment, h.cells, 0⟩ page crc32Start h.check)
      { s with store := { s.store with freePages := rest } }

/-- A head that names an entry of its spot and digest (R67). -/
def takeHead (h : SegmentHead) (s : State) : State :=
  match s.store.named? h.spot with
  | none => s
  | some e =>
    if headInconsistent h e then raise (.segmentMismatch h.spot.id h.segment) (skipHead h s)
    else
      let s := if h.isLast ∧ e.lastCells = none then
        updateEntry h.spot.id (fun x => { x with lastCells := some h.cells }) s else s
      if (e.segs.getD h.segment none).isSome then
        updateStoreCounters (fun k => { k with skipped := bump k.skipped }) (skipHead h s)
      else captureHead h s

/-- The break records and bound channels that name a spot (R69, R76). -/
def namers (s : State) (x : Spot) : Nat :=
  s.cues.table.countP (fun r => r.spotsNamed.contains x)
    + s.chans.chan.countP fun c => c.bound.isSome && c.spotsNamed.contains x

/-- A fresh FILLING entry for a head's spot (R69). -/
def freshEntry (h : SegmentHead) (s : State) : Entry where
  spot := h.spot
  segCount := h.segCount
  lastCells := none
  expiry := h.expiry
  state := .filling
  segs := List.replicate h.segCount none
  prot := namers s h.spot
  freeze := 0
  pending := []
  expirePending := false

/-- Put an entry into the directory, which is kept in ascending spot id. -/
def insertEntry (e : Entry) : List Entry → List Entry
  | [] => [e]
  | x :: rest => if e.spot.id < x.spot.id then e :: x :: rest else x :: insertEntry e rest

/-- A head of an absent spot creates its entry, or meets STORE_FULL(DIRECTORY) (R69). -/
def createEntry (h : SegmentHead) (s : State) : State :=
  if s.store.directory.length < Config.directoryMax then
    let s := { s with store := { s.store with directory := insertEntry (freshEntry h s) s.store.directory } }
    takeHead h (refresh s)
  else raise (.storeFullDirectory h.spot.id) (skipHead h s)

/-- A head of a spot held with another digest replaces the entry, or is deferred (R68). -/
def newVersion (h : SegmentHead) (e : Entry) (s : State) : State :=
  if s.store.unprotected e then
    createEntry h (raise (.spotRemoved e.spot .replaced) (removeEntry refresh e.spot.id s))
  else raise (.versionDeferred h.spot.id e.spot.digest h.spot.digest) (skipHead h s)

/-- A head that has passed R65 goes to the directory (R67 to R69). -/
def directoryHead (h : SegmentHead) (s : State) : State :=
  match s.store.entry? h.spot.id with
  | none => createEntry h s
  | some e => if e.spot = h.spot then takeHead h s else newVersion h e s

/-- A head's expiry is at or below the current S, while time is set (R65). -/
def staleHead (h : SegmentHead) (s : State) : Bool :=
  s.tb.disc != .unset && decide ((h.expiry : Int) ≤ secondOf s.tb.now)

/-- A SEGMENT_HEAD cell at the controller (R64 to R66). -/
def segmentHead (c : SiteConfig) (body : List Byte) (s : State) : State :=
  let h := segmentHeadOf body
  let s := endSegment s
  if !h.ok then updateStoreCounters (fun k => { k with malformed := bump k.malformed }) s
  else if !zoneMatch c.zoneCode h.zoneCode h.zoneMask then
    skipHead h (updateStoreCounters (fun k => { k with otherZone := bump k.otherZone }) s)
  else if staleHead h s then
    skipHead h (updateStoreCounters (fun k => { k with stale := bump k.stale }) s)
  else directoryHead h s

/-! ### Bodies (R70 to R72) -/

/-- A captured segment whose check holds becomes held; an entry whose every segment is held becomes COMPLETE and joins
the check queue (R71, R79). -/
def holdSegment (g : SegmentInFlight) (page : Nat) (s : State) : State :=
  let s := updateEntry g.spot.id (fun e => { e with segs := e.segs.set g.segment (some page) }) s
  match s.store.entry? g.spot.id with
  | none => s
  | some e =>
    if e.held = e.segCount then
      let s := updateEntry g.spot.id (fun x => { x with state := .complete }) s
      startCheck refresh (refresh { s with store := { s.store with checkQueue := s.store.checkQueue ++ [g.spot.id] } })
    else s

/-- A captured segment completes (R71). -/
def completeSegment (g : SegmentInFlight) (page : Nat) (running check : Word32) (s : State) : State :=
  let s := setAssembler .idle s
  if crc32Result running = check then holdSegment g page s
  else updateStoreCounters (fun k => { k with checkFailures := bump k.checkFailures }) (returnPages [page] s)

/-- A SEGMENT_BODY cell at the controller, with its continuity verdict (R70, R72). -/
def segmentBody (body : List Byte) (continuous : Bool) (s : State) : State :=
  match s.store.assembler with
  | .idle => updateStoreCounters (fun k => { k with stray := bump k.stray }) s
  | .skip g =>
    let g := { g with received := g.received + 1 }
    if g.received = g.expected ∨ continuous = false then setAssembler .idle s else setAssembler (.skip g) s
  | .capture g page running check =>
    if continuous then
      let s := writeSlot (slotAddress page g.received) body s
      let running := crc32Run running body
      let g := { g with received := g.received + 1 }
      if g.received = g.expected then completeSegment g page running check s
      else setAssembler (.capture g page running check) s
    else endSegment s

/-! ### The completion of a check (R80) -/

/-- The number of slots of a segment that a check judges (R80). -/
def Entry.slotsOf (e : Entry) (segment : Nat) : Nat :=
  if segment + 1 = e.segCount then e.lastCells.getD 256 else 256

/-- The bad slots of one segment; none in a segment that is not held (R80). -/
def badSlotsOf (st : SpotStore) (e : Entry) (segment : Nat) : Nat :=
  match e.segs.getD segment none with
  | none => 0
  | some page => (List.range (e.slotsOf segment)).countP fun i => !(st.slotAt (slotAddress page i)).good

/-- The bad segments of an entry, ascending (R80). -/
def badSegments (st : SpotStore) (e : Entry) : List Nat :=
  (List.range e.segs.length).filter fun k => decide (0 < badSlotsOf st e k)

/-- The bad slots of all segments of an entry (R80). -/
def badSlots (st : SpotStore) (e : Entry) : Nat := ((List.range e.segs.length).map (badSlotsOf st e)).sum

/-- The result of an entry's check (R80). An entry that a failure at playout has made FILLING meanwhile is not proved
by the check (log entry 15). SPOT_VERIFIED is raised before the change is handed to the agreement unit (log entry
46). -/
def judgeCheck (e : Entry) (s : State) : State :=
  let bad := badSegments s.store e
  if bad = [] then
    if e.state = .checking then
      refresh (raise (.spotVerified e.spot) (updateEntry e.spot.id (fun x => { x with state := .verified }) s))
    else s
  else
    let n := badSlots s.store e
    makeMissing refresh (some .check) e.spot.id bad
      (updateStoreCounters (fun k => { k with badSlots := bumpBy k.badSlots n }) s)

/-- A check has completed: its result, the removal of R82, and the next check (R79, R80). -/
def finishCheck (c : CheckInFlight) (s : State) : State :=
  let s := { s with store := { s.store with check := none } }
  match s.store.entry? c.spotId with
  | none => startCheck refresh s
  | some e => startCheck refresh (tryExpire refresh c.spotId (judgeCheck e s))

/-- The check in flight when site time has reached its completion time (R80). -/
def checkDue (s : State) : Option CheckInFlight :=
  match s.store.check with
  | some c => if c.completes ≤ s.tb.now then some c else none
  | none => none

/-- CHECK_COMPLETE (R80). -/
def execCheckComplete (s : State) : Host.Outcome State Fault Refusal :=
  .next (match checkDue s with
    | some c => finishCheck c s
    | none => s)

/-! ### Expiry (R81) and the RESTART line (R84) -/

/-- One entry at a second boundary that carries S: removed, or flagged expire-pending (R81). -/
def expireEntry (second : Int) (id : Nat) (s : State) : State :=
  match s.store.entry? id with
  | none => s
  | some e =>
    if second < (e.expiry : Int) then s
    else if s.store.unprotected e then raise (.spotRemoved e.spot .expired) (removeEntry refresh id s)
    else updateEntry id (fun x => { x with expirePending := true }) s

/-- The spot ids of the directory, ascending. -/
def SpotStore.ids (st : SpotStore) : List Nat := st.directory.map fun e => e.spot.id

/-- Expiry at a second boundary that carries S, entries in ascending spot id (R81). -/
def expireAll (second : Int) (s : State) : State := forEach (expireEntry second) s.store.ids s

/-- The check in flight is aborted: its entry becomes COMPLETE and joins the back of the check queue (R84 step 2). An
entry that a playout failure has taken out of CHECKING meanwhile stays as it is, in the queue if it is there already
(R79; log entry 47). -/
def abortCheck (s : State) : State :=
  match s.store.check with
  | none => s
  | some c =>
    let s := { s with store := { s.store with check := none } }
    match s.store.entry? c.spotId with
    | some e =>
      if e.state = .checking then
        updateEntry c.spotId (fun x => { x with state := .complete })
          { s with store := { s.store with checkQueue := s.store.checkQueue ++ [c.spotId] } }
      else s
    | none => s

/-- Every protection and freeze count becomes 0 (R84 step 3). -/
def dropHolds (s : State) : State :=
  { s with store := { s.store with directory := s.store.directory.map fun e => { e with prot := 0, freeze := 0 } } }

/-- The spot ids of the entries that satisfy a test, ascending. -/
def SpotStore.idsWhere (st : SpotStore) (p : Entry → Bool) : List Nat :=
  (st.directory.filter p).map fun e => e.spot.id

/-- The spot store at the RESTART line, its steps in order (R84). The counters become 0 first, so that a check that starts
at the RESTART itself counts 1 (R79; DESIGN CHOICE, log entry 64). -/
def restartStore (s : State) : State :=
  let s := dropHolds (abortCheck (endSegment s))
  let s := forEach (applyPending refresh none) s.store.ids s
  let s := forEach (removeEntry refresh) (s.store.idsWhere fun e => e.state == .filling) s
  let s := forEach (removeEntry refresh) (s.store.idsWhere Entry.expirePending) s
  startCheck refresh { s with store := { s.store with counters := StoreCounters.zero } }

end Sys2Proof.Machine
end

