-- ==== Sys2Proof/WellFormed.lean ====
section
/-! DEFINITION. Which commands are events of the part: the operand lists have the lengths the manual gives. A list
of another length is no event of the row (a short cell is a RUNT_CELL, a short message is MESSAGE_BROKEN), and the
machine stops on it with the fault `illFormed` (log entry 5). -/

namespace Sys2Proof

/-- The length of a received zone message is the one its entry count asks for (R106): 7 + 8 × n bytes for a count
of at most 8, and 5 bytes, up to the count itself, for a count above 8. -/
def messageLengthOk (bytes : List Byte) : Bool :=
  let n := (bytes.getD 4 0).toNat
  if n > 8 then bytes.length == 5 else bytes.length == 7 + 8 * n

/-- The operands of a command have the lengths the manual gives (R3, R23, R106, R180). -/
def Instr.wellFormed : Instr → Bool
  | .configReadComplete record => record.length == 78
  | .labelRecord _ record => record.length == 6
  | .cellTaken cell => cell.length == 240
  | .zoneMessage bytes => messageLengthOk bytes
  | .powerOnReset => true
  | .restart => true
  | .loadStart => true
  | .noRecord _ => true
  | .inhibitChange _ => true
  | .overrideChange _ => true
  | .latchClear => true
  | .markArrival _ => true
  | .missingVerdict _ => true
  | .secondBoundary => true
  | .reportSpanExpiry => true
  | .runtCell => true
  | .feedLoss => true
  | .assemblingLate => true
  | .frameRelease => true
  | .cellInstant => true
  | .fillerInstant => true
  | .starveExpiry => true
  | .checkComplete => true
  | .decisionInstant => true
  | .lockInstant _ => true
  | .endInstant _ => true
  | .removalInstant _ => true
  | .watchOpen _ => true
  | .watchClose _ => true
  | .attemptStart => true
  | .deferral _ => true
  | .echoWindowClose => true
  | .attemptEnd => true
  | .retryStart => true
  | .lineIdle => true
  | .periodicDue => true
  | .messageBroken => true
  | .silenceTimerExpiry _ => true
  | .monitorRecordEnd => true
  | .lineBusy _ => true
  | .openingMark _ => true
  | .echoWindowOpen => true
  | .transferEnd => true
  | .latchClearRelease => true

end Sys2Proof
end

