-- ==== Sys2Proof/Machine/Intake.lean ====
section
/-! DEFINITION. Feed intake (Chapter 2): framing, continuity, sorting, frame assembly, the scheduling of a frame and
the loss of the feed; the commands RUNT_CELL, CELL_TAKEN and FEED_LOSS. -/

namespace Sys2Proof.Machine

open Sys2Proof

/-! ### Records and counters -/

/-- Change the intake counters. -/
def countIntake (f : IntakeCounters → IntakeCounters) (s : State) : State :=
  { s with intake := { s.intake with counters := f s.intake.counters } }

/-- Put the frame in assembly. -/
def setAssembly (a : Option Assembly) (s : State) : State := { s with intake := { s.intake with assembly := a } }

/-! ### Continuity (R27) -/

/-- A cell of a tag is continuous: the tag has no expectation, or the cell's count equals it (R27). -/
def isContinuous (cell : Cell) (s : State) : Bool :=
  match (s.intake.continuity.getD (cellTag cell) ⟨none, 0⟩).expect with
  | none => true
  | some n => n == cellCount cell

/-- The expectation of a cell's tag moves on, and a discontinuity is counted (R27). -/
def trackContinuity (cell : Cell) (s : State) : State :=
  let next := some ((cellCount cell + 1) % 16)
  let step := fun k : Continuity =>
    if isContinuous cell s then { k with expect := next } else ⟨next, bump k.breaks⟩
  { s with intake := { s.intake with continuity := s.intake.continuity.modify (cellTag cell) step } }

/-! ### Sorting (R28) -/

/-- What a frame cell is, by its tag and kind (R28). -/
inductive CellSort where
  | filler | programme | cue | segmentHead | segmentBody | misfit
  deriving DecidableEq, Repr

/-- The sorting of a frame cell (R28). -/
def sortCell (c : SiteConfig) (cell : Cell) : CellSort :=
  let tag := cellTag cell
  match cellKind cell with
  | .programme => if tag = 0 ∨ tag = c.controlTag ∨ tag = c.assetTag then .misfit else .programme
  | .filler => if tag = 0 then .filler else .misfit
  | .cue => if tag = c.controlTag then .cue else .misfit
  | .segmentHead => if tag = c.assetTag then .segmentHead else .misfit
  | .segmentBody => if tag = c.assetTag then .segmentBody else .misfit
  | .frameHead => .misfit
  | .other => .misfit

/-- What stands in the frame in a cell's place: the cell itself, or an inserted filler cell (R28, R29). -/
def standsAs (k : CellSort) (cell : Cell) : Cell :=
  match k with
  | .filler => cell
  | .programme => cell
  | _ => fillerCell

/-- A sorted frame cell is handed to its consumer, or counted as a misfit (R28, R30). -/
def handCell (c : SiteConfig) (k : CellSort) (cell : Cell) (continuous : Bool) (s : State) : State :=
  match k with
  | .filler => s
  | .programme => s
  | .cue => cueTaken c (cellBody cell) s.tb.now s
  | .segmentHead => segmentHead c (cellBody cell) s
  | .segmentBody => segmentBody (cellBody cell) continuous s
  | .misfit => countIntake (fun n => { n with misfits := bump n.misfits }) s

/-! ### The end of a frame (R33, R34, R37, R44) -/

/-- The state of a record that ends SHORT (R34). -/
def shortState (r : FrameRecord) : FrameRecord := { r with status := .unknown, state := .discarded .short }

/-- A frame with a record ends SHORT: its slots are given back if it was ASSEMBLING, and the emission controller is told
at once (R34, R54). -/
def shortRecord (n : Nat) (s : State) : State :=
  match s.frame? n with
  | none => s
  | some r =>
    let s := updateFrame n shortState (if r.state = .assembling then giveBack n s else s)
    cutHeld (reportDiscard n .short s)

/-- The frame in assembly, if there is one, ends as SHORT (R34); so it does at or after its Q too, where ASSEMBLING_LATE
has not acted yet, and no LATE is then reported (R43; DESIGN CHOICE, log entry 62). -/
def endShort (s : State) : State :=
  match s.intake.assembly with
  | none => s
  | some a =>
    let s := match a.record with
      | none => countDiscard .short s
      | some n => shortRecord n s
    judgePassPoint (setAssembly none s)

/-- The numbering check at a completion: a gap is reported, counted and handed to the channels (R37). -/
def checkNumbering (r : FrameRecord) (s : State) : State :=
  let s := match s.intake.lastComplete with
    | none => s
    | some m =>
      if r.number = (m + 1) % 65536 then s
      else
        let s := raise (.frameGap m ((m + 1) % 65536) r.number) s
        frameGapToChannels r.c (countIntake (fun k => { k with gaps := bump k.gaps }) s)
  { s with intake := { s.intake with lastComplete := some r.number } }

/-- The completion of a record handed on: an ASSEMBLING record becomes SCHEDULED, or LATE when site time has reached
its Q (R43, R44). -/
def handCompletion (n : Nat) (s : State) : State :=
  match s.frame? n with
  | none => s
  | some r =>
    if r.state ≠ .assembling then s
    else if r.q ≤ s.tb.now then discardAssembling n .late s
    else updateFrame n (fun x => { x with state := .scheduled }) s

/-- The frame in assembly is complete (R33, R37, R44). -/
def completeFrame (record : Option Nat) (s : State) : State :=
  let s := setAssembly none s
  match record with
  | none => s
  | some n =>
    let s := updateFrame n (fun x => { x with status := .known }) s
    match s.frame? n with
    | none => s
    | some r => judgePassPoint (handCompletion n (checkNumbering r s))

/-! ### Frame cells (R33, R36, R42) -/

/-- Store a cell of an ASSEMBLING record, or discard the frame when the queue is full (R42); at or after its Q too, where
ASSEMBLING_LATE has not acted yet, the cause is QUEUE_FULL (R43; DESIGN CHOICE, log entry 62). -/
def storeFrameCell (n : Nat) (cell : Cell) (s : State) : State :=
  match s.frame? n with
  | none => s
  | some r =>
    if r.state ≠ .assembling then s
    else if s.em.queue.occupancy < Config.queueSlots then
      let slot := s.em.queue.nextFree
      updateFrame n (fun x => { x with slotsHeld := x.slotsHeld + 1, firstSlot := some (x.firstSlot.getD slot) })
        (storeCell cell s)
    else discardAssembling n .queueFull s

/-- The service counts with one more cell of a tag (R36). -/
def countTag (tag : Nat) (counts : List (Nat × Nat)) : List (Nat × Nat) :=
  counts.map fun x => if x.1 = tag then (x.1, x.2 + 1) else x

/-- A record's figures after one more frame cell (R33, R36). -/
def countCell (k : CellSort) (cell : Cell) (r : FrameRecord) : FrameRecord :=
  { r with
    taken := r.taken + 1
    counts := if k = .programme then countTag (cellTag cell) r.counts else r.counts }

/-- A frame cell takes its place in the frame in assembly (R28, R33, R36, R42). -/
def placeCell (k : CellSort) (cell : Cell) (a : Assembly) (s : State) : State :=
  let s := match a.record with
    | none => s
    | some n => storeFrameCell n (standsAs k cell) (updateFrame n (countCell k cell) s)
  if a.remaining ≤ 1 then completeFrame a.record s
  else setAssembly (some { a with remaining := a.remaining - 1 }) s

/-- A good cell, other than a frame head of tag 0, taken while RUNNING: a frame cell or an extra cell (R28, R35). -/
def bodyCell (c : SiteConfig) (cell : Cell) (continuous : Bool) (s : State) : State :=
  match s.intake.assembly with
  | none => countIntake (fun n => { n with extra := bump n.extra }) s
  | some a =>
    let k := sortCell c cell
    placeCell k cell a (handCell c k cell continuous s)

/-! ### Frame heads (R31, R32, R38 to R42) -/

/-- How a frame head is judged: without a record, or with a record in a state (R40). -/
inductive HeadJudgement where
  | noRecord (cause : DiscardCause)
  | discarded (cause : DiscardCause)
  | accepted
  deriving DecidableEq, Repr

/-- The times of a frame head taken at the arrival time (R38, R39). -/
structure FrameTimes where
  c : Time
  e : Time
  q : Time
  lead : Int
  deriving DecidableEq, Repr

/-- C, E, Q and L of a head (R38, R39). -/
def frameTimes (c : SiteConfig) (h : FrameHead) (arrival : Time) : FrameTimes :=
  let zone := resolveStamp arrival h.stampS h.stampF
  ⟨zone, zone + c.offset, zone + c.offset - c.latency, zone + c.offset - c.latency - arrival⟩

/-- Q is at or before the last accepted release time (R40 check 7). -/
def outOfOrder (q : Time) (s : State) : Bool :=
  match s.intake.lastAccepted with
  | some last => decide (q ≤ last)
  | none => false

/-- The judgement of a frame head, its checks in order (R40). -/
def judgeHead (c : SiteConfig) (h : FrameHead) (t : FrameTimes) (s : State) : HeadJudgement :=
  if s.tb.disc = .unset then .noRecord .noTime
  else if Config.frameTableMax ≤ s.em.table.length then .noRecord .tableFull
  else if (s.frame? h.number).isSome then .noRecord .order
  else if s.tb.disc = .acquire then .discarded .noTime
  else if t.lead < c.lmin then .discarded .late
  else if c.lmax < t.lead then .discarded .early
  else if outOfOrder t.q s then .discarded .order
  else .accepted

/-- The frame record created at a head (R41). -/
def frameRecord (c : SiteConfig) (h : FrameHead) (t : FrameTimes) (state : FrameState) : FrameRecord where
  number := h.number
  c := t.c
  e := t.e
  q := t.q
  lead := t.lead
  declared := h.declared
  taken := 0
  counts := c.routing.map fun tag => (tag, 0)
  status := .pending
  state := state
  firstSlot := none
  slotsHeld := 0
  sent := 0
  consumed := 0
  cut := 0

/-- A record joins the frame table at its newest end (R41, R48). -/
def joinTable (r : FrameRecord) (s : State) : State := { s with em := { s.em with table := s.em.table ++ [r] } }

/-- A well-formed frame head is taken, the steps in order (R31). -/
def takeFrameHead (c : SiteConfig) (h : FrameHead) (cell : Cell) (s : State) : State :=
  let s := endShort s
  let t := frameTimes c h s.tb.now
  match judgeHead c h t s with
  | .noRecord cause => setAssembly (some ⟨none, h.declared⟩) (reportDiscard h.number cause s)
  | .discarded cause =>
    setAssembly (some ⟨some h.number, h.declared⟩)
      (joinTable (frameRecord c h t (.discarded cause)) (reportDiscard h.number cause s))
  | .accepted =>
    let s := { s with intake := { s.intake with lastAccepted := some t.q } }
    setAssembly (some ⟨some h.number, h.declared⟩)
      (storeFrameCell h.number cell (joinTable (frameRecord c h t .assembling) s))

/-- A malformed head is counted and ends the frame in assembly (R32). -/
def malformedHead (s : State) : State := endShort (countIntake (fun n => { n with malformed := bump n.malformed }) s)

/-! ### Good cells (R24, R26) -/

/-- A cell of tag 0 and kind FRAME_HEAD (R31). -/
def isFrameHead (cell : Cell) : Bool := cellTag cell == 0 && cellKind cell == .frameHead

/-- The feed-loss timer is loaded from a good cell at its arrival (R24, R26). -/
def loadLossTimer (c : SiteConfig) (s : State) : State :=
  { s with intake := { s.intake with
    lossTimer := some (s.tb.now + msTime c.feedLossMs)
    lastGood := some s.tb.now } }

/-- A good cell is counted as an outside-frame cell and dropped (R24). -/
def outsideCell (s : State) : State := countIntake (fun n => { n with outside := bump n.outside }) s

/-- A good cell taken while the feed is RUNNING (R24, R28, R31, R32, R35). -/
def runningCell (c : SiteConfig) (cell : Cell) (continuous : Bool) (s : State) : State :=
  let s := loadLossTimer c s
  let h := frameHeadOf (cellBody cell)
  if isFrameHead cell then
    if h.ok then takeFrameHead c h cell s else malformedHead s
  else bodyCell c cell continuous s

/-- A well-formed frame head returns the feed to RUNNING and is then taken (R26). -/
def resumeFeed (c : SiteConfig) (h : FrameHead) (cell : Cell) (s : State) : State :=
  let s := loadLossTimer c { s with intake := { s.intake with feed := .running } }
  takeFrameHead c h cell (raise (.feedResume h.number) s)

/-- A good cell taken while the feed is LOST (R24, R26); a malformed head is counted as one too (R32; log entry 13). -/
def lostCell (c : SiteConfig) (cell : Cell) (s : State) : State :=
  let h := frameHeadOf (cellBody cell)
  if isFrameHead cell then
    if h.ok then resumeFeed c h cell s else outsideCell (malformedHead s)
  else outsideCell s

/-- A good cell, in a configuration that is VALID or not (R24, R27). -/
def goodCell (cell : Cell) (s : State) : State :=
  match s.validConfig with
  | none => outsideCell s
  | some c =>
    let continuous := isContinuous cell s
    let s := trackContinuity cell s
    match s.intake.feed with
    | .running => runningCell c cell continuous s
    | .lost => lostCell c cell s

/-- A framing error is counted (R23). -/
def framingError (s : State) : State := countIntake (fun n => { n with framing := bump n.framing }) s

/-- Put the cell in reception. -/
def setReception (n : Option Nat) (s : State) : State := { s with intake := { s.intake with reception := n } }

/-- CELL_TAKEN: a whole cell has been received (R23). -/
def execCellTaken (cell : Cell) (s : State) : Host.Outcome State Fault Refusal :=
  if (Instr.cellTaken cell).wellFormed then
    let s := setReception none s
    .next (if cell.head? = some Config.syncValue then goodCell cell s else framingError s)
  else .fault .illFormed

/-- RUNT_CELL: the cell in reception is dropped, and the new cell's first byte has been taken (R23). -/
def execRuntCell (s : State) : Host.Outcome State Fault Refusal :=
  .next (setReception (some 1) (framingError s))

/-! ### Feed loss (R25) -/

/-- Every continuity expectation becomes none (R25). -/
def dropExpectations (s : State) : State :=
  { s with intake := { s.intake with continuity := s.intake.continuity.map fun k => { k with expect := none } } }

/-- The feed becomes LOST (R25). -/
def loseFeed (s : State) : State :=
  let s := { s with intake := { s.intake with feed := .lost, lossTimer := none } }
  let s := endSegment (dropExpectations (endShort s))
  countIntake (fun n => { n with losses := bump n.losses }) (raise (.feedLoss s.intake.lastGood) s)

/-- The feed-loss timer has expired. -/
def feedLossDue (s : State) : Bool := s.intake.feed == .running && isDue s.tb.now s.intake.lossTimer

/-- FEED_LOSS: the feed-loss timer expires (R25). -/
def execFeedLoss (s : State) : Host.Outcome State Fault Refusal :=
  .next (if feedLossDue s then loseFeed s else s)

end Sys2Proof.Machine
end

