-- ==== Sys2Proof/Machine/Wrap.lean ====
section
/-! DEFINITION. Site time across the wrap of S (R1, R2): every instant that a block holds, block by block, and how it
moves with site time when S returns to 0 (log entry 44). What the part has only said, in an event or a report, stays
as it was said; a spot's expiry is a value of S and is compared with S as it is (R81). -/

namespace Sys2Proof.Machine

open Sys2Proof

/-! ### The time base -/

/-- An instant moved by `k` wraps of S. -/
def shiftTime (k : Int) (t : Time) : Time := t + k * Config.timeWrap

/-- A second, counted on across the wrap, moved by `k` wraps of S. -/
def shiftSecond (k : Int) (n : Int) : Int := n + k * Config.secondsWrap

/-- A reference's instants and boundaries moved. -/
def RefRecord.shift (k : Int) (r : RefRecord) : RefRecord :=
  { r with
    lastMark := r.lastMark.map fun m => (shiftTime k m.1, m.2)
    expected := r.expected.map fun e => (shiftTime k e.1, e.2)
    windowMark := r.windowMark.map (shiftSecond k)
    windowClosed := shiftSecond k r.windowClosed }

/-- Site time moved by `k` wraps of S, and with it every instant and second that the time base holds: the next mark then
meets the instant expected of it, and second 0 lies above the highest announced one (R2, R5, R6). -/
def TimeBase.shift (k : Int) (t : TimeBase) : TimeBase :=
  { t with
    now := shiftTime k t.now
    refA := t.refA.shift k
    refB := t.refB.shift k
    lastTaken := t.lastTaken.map (shiftTime k)
    announced := t.announced.map (shiftSecond k) }

/-! ### Feed intake and the emission controller -/

/-- Feed intake's instants moved. -/
def Intake.shift (k : Int) (i : Intake) : Intake :=
  { i with
    lossTimer := i.lossTimer.map (shiftTime k)
    lastGood := i.lastGood.map (shiftTime k)
    lastAccepted := i.lastAccepted.map (shiftTime k) }

/-- A frame's C, E and Q moved; its lead is a difference and stays. -/
def FrameRecord.shift (k : Int) (r : FrameRecord) : FrameRecord :=
  { r with c := shiftTime k r.c, e := shiftTime k r.e, q := shiftTime k r.q }

/-- The emission controller's instants moved. -/
def Emission.shift (k : Int) (m : Emission) : Emission :=
  { m with
    table := m.table.map (FrameRecord.shift k)
    nextCell := m.nextCell.map (shiftTime k)
    starve := m.starve.map (shiftTime k)
    stepRun := m.stepRun.map (shiftTime k) }

/-! ### The spot store, the break table and the channels -/

/-- The completion of the check in flight moved. -/
def SpotStore.shift (k : Int) (st : SpotStore) : SpotStore :=
  { st with check := st.check.map fun c => { c with completes := shiftTime k c.completes } }

/-- A break record's instants moved. -/
def BreakRecord.shift (k : Int) (r : BreakRecord) : BreakRecord :=
  { r with
    cOut := shiftTime k r.cOut
    cIn := shiftTime k r.cIn
    decisionAt := shiftTime k r.decisionAt
    lockAt := shiftTime k r.lockAt
    endAt := r.endAt.map (shiftTime k)
    removalAt := r.removalAt.map (shiftTime k) }

/-- The break table's instants moved. -/
def CueDecoder.shift (k : Int) (d : CueDecoder) : CueDecoder := { d with table := d.table.map (BreakRecord.shift k) }

/-- A channel's copies of C_out and C_in moved. -/
def Channel.shift (k : Int) (c : Channel) : Channel :=
  { c with bound := c.bound.map fun b => { b with cOut := shiftTime k b.cOut, cIn := shiftTime k b.cIn } }

/-- The channels' instants moved. -/
def Channels.shift (k : Int) (ch : Channels) : Channels :=
  { ch with
    chan := ch.chan.map (Channel.shift k)
    lastPass := ch.lastPass.map (shiftTime k)
    lastGap := ch.lastGap.map (shiftTime k) }

/-! ### The zone line and the roster -/

/-- The instants of a message in reception moved. -/
def Receiver.shift (k : Int) : Receiver → Receiver
  | .off => .off
  | .hunt => .hunt
  | .message m => .message { m with arrival := shiftTime k m.arrival, middle := shiftTime k m.middle }

/-- The echo window moved. -/
def EchoWindow.shift (k : Int) : EchoWindow → EchoWindow
  | .closed => .closed
  | .opened opens closes found => .opened (shiftTime k opens) (shiftTime k closes) found

/-- The zone line interface's instants moved. -/
def ZoneLine.shift (k : Int) (z : ZoneLine) : ZoneLine :=
  { z with
    busySince := z.busySince.map (shiftTime k)
    idleSince := z.idleSince.map (shiftTime k)
    receiver := z.receiver.shift k
    flight := z.flight.map fun f => { f with guardAt := shiftTime k f.guardAt }
    echo := z.echo.shift k
    schedule := z.schedule.map (shiftTime k)
    waitFrom := z.waitFrom.map (shiftTime k) }

/-- A peer's instants moved. -/
def Peer.shift (k : Int) (p : Peer) : Peer :=
  { p with lastHeard := p.lastHeard.map (shiftTime k), timer := p.timer.map (shiftTime k) }

/-- The roster's instants moved. -/
def PeerRoster.shift (k : Int) (r : PeerRoster) : PeerRoster := { r with peers := r.peers.map (Peer.shift k) }

/-! ### The whole machine -/

/-- Site time moved by `k` wraps of S, and with it every instant that any block holds. -/
def State.shift (k : Int) (s : State) : State :=
  { s with
    tb := s.tb.shift k
    intake := s.intake.shift k
    em := s.em.shift k
    store := s.store.shift k
    cues := s.cues.shift k
    zone := s.zone.shift k
    ros := s.ros.shift k
    chans := s.chans.shift k }

/-- Site time brought back into its range when S has passed its maximum, or when a backward step has gone below (0, 0)
(R1, R2, R16). Every block reads the same site time, so that the instants they hold move with it, and fall due when
site time reaches them (log entry 44). -/
def State.wrapTime (s : State) : State :=
  if Config.timeWrap ≤ s.tb.now then s.shift (-1)
  else if s.tb.now < 0 then s.shift 1
  else s

end Sys2Proof.Machine
end

