-- ==== Sys2Proof/Machine/Roster.lean ====
section
/-! DEFINITION. Announcements and the peer roster (Chapter 7), with what a peer's message and the duplicate latch do at
the agreement unit (R147, R152): the content of an announcement, the taking of an intact message, and the command
SILENCE_TIMER_EXPIRY. -/

namespace Sys2Proof.Machine

open Sys2Proof

/-! ### The content of an announcement (R120, R121) -/

/-- The entry of one break record: while the duplicate latch is set its stance is NOT_READY(DUPLICATE) (R121). -/
def announcedEntry (duplicate : Bool) (r : BreakRecord) : BreakEntry :=
  ⟨r.id, r.version, if duplicate then .notReady .duplicate else r.stance, r.check⟩

/-- The content of an announcement formed now (R120). -/
def announce (c : SiteConfig) (kind : AnnouncementKind) (s : State) : Announcement where
  kind := kind
  override := s.sc.overrideLine
  duplicate := s.ros.duplicate
  emission := s.em.state
  grade := s.tb.grade
  zoneCode := c.zoneCode
  site := c.site
  entries := s.cues.table.map (announcedEntry s.ros.duplicate)

/-! ### What a peer's announcement does to the records (R147, R152, R154) -/

/-- A stance that turns a GO to HOLD: HOLD, NOT_READY or ABANDONED (R147). -/
def Stance.refuses : Stance → Bool
  | .hold _ => true
  | .notReady _ => true
  | .abandoned => true
  | .pending => false
  | .ready => false
  | .go => false
  | .airing => false
  | .ended => false

/-- The entry of an announcement that carries a record's break id and break check with a refusing stance (R147). -/
def refusal (r : BreakRecord) (a : Announcement) : Option BreakEntry :=
  match a.entries.find? fun e => e.id == r.id with
  | some e => if e.check = r.check ∧ e.stance.refuses = true then some e else none
  | none => none

/-- A late hold: reported once for each peer (R152). -/
def lateHold (r : BreakRecord) (site : Nat) (stance : Stance) (s : State) : State :=
  if r.lateReported.contains site then s
  else
    let s := raise (.lateHold r.id site stance) s
    let s := updateRecord r.id (fun x => { x with lateReported := insertSite site x.lateReported }) s
    countAgree (fun k => { k with lateHolds := bump k.lateHolds }) s

/-- One record examines a peer's announcement for a refusal (R147, R152). -/
def hearRefusal (site : Nat) (a : Announcement) (id : Nat) (s : State) : State :=
  match s.record? id with
  | none => s
  | some r =>
    match refusal r a with
    | none => s
    | some e =>
      match r.state with
      | .decidedGo => refresh (holdRecord id .heardHold s)
      | .lockedGo => lateHold r site e.stance s
      | _ => s

/-- One record takes a peer's new announcement: a refusal, and the comparison of a WATCHING record (R154). -/
def hearPeer (p : Peer) (a : Announcement) (id : Nat) (s : State) : State :=
  comparePeer id p (hearRefusal p.site a id s)

/-! ### The taking of a message (R124 to R128, R132) -/

/-- Change the roster's counters and latch. -/
def updateRoster (f : PeerRoster → PeerRoster) (s : State) : State := { s with ros := f s.ros }

/-- Change the record of a peer. -/
def updatePeer (site : Nat) (f : Peer → Peer) (s : State) : State :=
  updateRoster (fun r => { r with peers := updateWhere (fun p => p.site == site) f r.peers }) s

/-- The record of a peer. -/
def State.peer? (s : State) (site : Nat) : Option Peer := s.ros.peers.find? fun p => p.site == site

/-- The liveness span (R128). -/
def livenessSpan (c : SiteConfig) : Time := c.liveness * c.period * 100000

/-- A peer's record after a message of it, but for the message counters (R128 steps 1 to 4). -/
def Peer.heard (p : Peer) (a : Announcement) (arrival expiry : Time) : Peer :=
  { p with last := some a, lastHeard := some arrival, timer := some expiry, state := .present }

/-- The message counters of a peer's record (R128 step 5). -/
def Peer.counted (p : Peer) (kind : AnnouncementKind) : Peer :=
  match kind with
  | .periodic => { p with periodicTaken := bump p.periodicTaken }
  | .urgent => { p with urgentTaken := bump p.urgentTaken }

/-- A roster peer's message is taken into its record, the steps in order (R128). The break records it concerns act in
break-table order, each with its refusal and then its split comparison (log entry 49). -/
def peerMessage (c : SiteConfig) (a : Announcement) (arrival : Time) (s : State) : State :=
  match s.peer? a.site with
  | none => s
  | some p =>
    let s := updatePeer a.site (fun x => x.heard a arrival (s.tb.now + livenessSpan c)) s
    let s := if p.state = .present then s else raise (.peerPresent a.site) s
    let s := updatePeer a.site (fun x => x.counted a.kind) s
    forEach (hearPeer (p.heard a arrival (s.tb.now + livenessSpan c)) a) s.breakIds s

/-- The own number heard outside the echo: a duplicate (R132). -/
def duplicateHeard (arrival : Time) (s : State) : State :=
  let s := updateRoster (fun r => { r with duplicates := bump r.duplicates }) s
  if s.ros.duplicate then s
  else
    let s := updateRoster (fun r => { r with duplicate := true }) s
    refresh (urgent (setLatch .fault (raise (.duplicateSite arrival) s)))

/-- A well-formed message is sorted by its zone code, its site number and its echo mark (R125 to R128). -/
def sortMessage (c : SiteConfig) (a : Announcement) (arrival : Time) (echo : Bool) (s : State) : State :=
  if a.zoneCode ≠ c.zoneCode then updateRoster (fun r => { r with otherZone := bump r.otherZone }) s
  else if a.site = c.site then
    if echo then updateRoster (fun r => { r with ownEchoes := bump r.ownEchoes }) s else duplicateHeard arrival s
  else if s.ros.roster.contains a.site then peerMessage c a arrival s
  else updateRoster (fun r => { r with strangers := bump r.strangers }) s

/-- An intact message at the peer roster (R124). -/
def takeMessage (c : SiteConfig) (bytes : List Byte) (arrival : Time) (echo : Bool) (s : State) : State :=
  match announcementOf bytes with
  | some a => sortMessage c a arrival echo s
  | none => updateRoster (fun r => { r with malformed := bump r.malformed }) s

/-! ### The silence timer (R130) -/

/-- The record of a PRESENT peer whose silence timer has fallen due. -/
def silentPeer (site : Nat) (s : State) : Option Peer :=
  match s.peer? site with
  | some p => if p.state = .present ∧ isDue s.tb.now p.timer = true then some p else none
  | none => none

/-- SILENCE_TIMER_EXPIRY of the named peer (R130). Nothing of the agreement unit's changes at a peer's absence (R147,
R154). -/
def execSilenceTimerExpiry (site : Nat) (s : State) : Host.Outcome State Fault Refusal :=
  .next (match silentPeer site s with
    | some p =>
      raise (.peerAbsent site p.lastHeard)
        (updatePeer site (fun x => { x with state := .absent, timer := none, absences := bump x.absences }) s)
    | none => s)

end Sys2Proof.Machine
end

