-- ==== Sys2Proof/Machine/ZoneLine.lean ====
section
/-! DEFINITION. The zone line interface (Chapter 6): line activity, reception, sending and the announcement schedule;
the commands LINE_BUSY, LINE_IDLE, OPENING_MARK, ZONE_MESSAGE, MESSAGE_BROKEN, ATTEMPT_START, DEFERRAL,
ECHO_WINDOW_OPEN, ECHO_WINDOW_CLOSE, ATTEMPT_END, RETRY_START and PERIODIC_DUE. -/

namespace Sys2Proof.Machine

open Sys2Proof

/-- Change the zone line interface. -/
def updateZone (f : ZoneLine → ZoneLine) (s : State) : State := { s with zone := f s.zone }

/-- Change the interface's counters. -/
def countZone (f : LineCounters → LineCounters) (s : State) : State :=
  updateZone (fun z => { z with counters := f z.counters }) s

/-! ### Line activity (R104, R108) -/

/-- The line state outside TRANSMITTING and BACKOFF: IDLE or RECEIVING, as the line stands (R108). -/
def ZoneLine.standing (z : ZoneLine) : LineState := if z.idleSince.isSome then .idle else .receiving

/-- The instant at which the attempt's opening mark begins, at the end of its guard of 2 bit times (R103, R112). -/
def InFlight.opensAt (f : InFlight) : Time := f.guardAt + 2 * Config.bitTime

/-- The attempt whose guard has not ended (R110). -/
def ZoneLine.guarded (z : ZoneLine) : Option InFlight :=
  match z.line, z.flight with
  | .transmitting, some f => if f.inGuard then some f else none
  | _, _ => none

/-- The site is in its own guard, the instant its opening mark would begin included (R111). -/
def ZoneLine.guarding (z : ZoneLine) (now : Time) : Bool :=
  match z.guarded with
  | some f => decide (now ≤ f.opensAt)
  | none => false

/-- A message that waits for a retry keeps its kind alone (R110, R111, R113). -/
def InFlight.waiting (f : InFlight) : InFlight := { f with bytes := [], inGuard := false, verdict := none }

/-- The attempt in its guard is deferred: a first attempt goes back to the slot, a retry to BACKOFF (R111). -/
def deferAttempt (s : State) : State :=
  match s.zone.flight with
  | none => s
  | some f =>
    let s := countZone (fun k => { k with deferrals := bump k.deferrals }) s
    match f.attempt with
    | .first => joinSlot f.kind (updateZone (fun z => { z with flight := none, line := .receiving }) s)
    | .retry => updateZone (fun z => { z with flight := some f.waiting, line := .backoff, waitFrom := none }) s

/-- The line activity after a transition: busy from now, a back-off count ended, IDLE left for RECEIVING (R104, R108,
R114); a message in reception takes the transition (R105). -/
def ZoneLine.busyAt (z : ZoneLine) (now : Time) (level : Bool) : ZoneLine :=
  { z with
    rxLevel := level
    busySince := some now
    idleSince := none
    waitFrom := none
    receiver := z.receiver.transition now level
    line := if z.line = .idle then .receiving else z.line }

/-- A transition of the receive line; while the receiver is OFF the level alone is kept (R104, R111; log entry 16). -/
def lineTransition (level : Bool) (s : State) : State :=
  if s.zone.receiver = .off then updateZone (fun z => { z with rxLevel := level }) s
  else
    let guarding := s.zone.guarding s.tb.now
    let s := updateZone (fun z => z.busyAt s.tb.now level) s
    if guarding then deferAttempt s else s

/-- LINE_BUSY: a transition of the receive line to a level it does not have (R104). -/
def execLineBusy (level : Bool) (s : State) : Host.Outcome State Fault Refusal :=
  .next (if s.zone.rxLevel = level then s else lineTransition level s)

/-- DEFERRAL: a transition during the site's own guard (R111). -/
def execDeferral (level : Bool) (s : State) : Host.Outcome State Fault Refusal :=
  .next (if s.zone.guarding s.tb.now = true ∧ s.zone.rxLevel ≠ level then lineTransition level s else s)

/-! ### The verdict of an attempt and the end of a message (R107, R113) -/

/-- The verdict of the attempt in flight, given once (R113). -/
def giveVerdict (delivered : Bool) (s : State) : State :=
  updateZone (fun z => { z with flight := z.flight.map fun f =>
    if f.verdict.isNone then { f with verdict := some delivered } else f }) s

/-- The receiver returns to HUNT. -/
def hunt (s : State) : State := updateZone (fun z => { z with receiver := .hunt }) s

/-- A message in reception ends broken (R107); a broken echo fails its attempt (R113). -/
def breakMessage (s : State) : State :=
  match s.zone.receiver with
  | .message m =>
    let s := hunt (countZone (fun k => { k with broken := bump k.broken }) s)
    if m.echo then giveVerdict false s else s
  | .hunt => s
  | .off => s

/-- MESSAGE_BROKEN (R107). -/
def execMessageBroken (s : State) : Host.Outcome State Fault Refusal := .next (breakMessage s)

/-! ### The line becomes idle (R104) -/

/-- The span after the last transition at which the line becomes idle: 2 bit times low, 3 bit times high (R104). -/
def ZoneLine.idleSpan (z : ZoneLine) : Time := if z.rxLevel then 3 * Config.bitTime else 2 * Config.bitTime

/-- The line has been without a transition for its span (R104). -/
def lineIdleDue (s : State) : Bool :=
  match s.zone.busySince with
  | some t => decide (t + s.zone.idleSpan ≤ s.tb.now)
  | none => false

/-- The line is idle from now: RECEIVING becomes IDLE, and a back-off wait starts (R104, R108, R114). -/
def ZoneLine.idleAt (z : ZoneLine) (now : Time) : ZoneLine :=
  { z with
    busySince := none
    idleSince := some now
    waitFrom := if z.line = .backoff then some now else none
    line := if z.line = .receiving then .idle else z.line }

/-- LINE_IDLE: the line becomes idle, and a message in reception ends broken (R104, R107). -/
def execLineIdle (s : State) : Host.Outcome State Fault Refusal :=
  .next (if lineIdleDue s then breakMessage (updateZone (fun z => z.idleAt s.tb.now) s) else s)

/-! ### Reception (R105, R106, R112) -/

/-- A rising edge at this instant is the echo: it falls within the window, and none has been found (R112). -/
def EchoWindow.covers : EchoWindow → Time → Bool
  | .opened opens closes found, t => !found && decide (opens ≤ t) && decide (t ≤ closes)
  | .closed, _ => false

/-- The window once an echo has been found. -/
def EchoWindow.found : EchoWindow → EchoWindow
  | .opened opens closes _ => .opened opens closes true
  | .closed => .closed

/-- The receiver enters MESSAGE at the falling edge of an opening mark whose rising edge was at `arrival`; the message is
the site's echo when that instant falls within the window (R105, R112). -/
def enterMessage (arrival : Time) (s : State) : State :=
  let echo := s.zone.echo.covers arrival
  updateZone (fun z => { z with
    receiver := .message (Reception.start arrival echo)
    echo := if echo then z.echo.found else z.echo }) s

/-- A high level of this length is an opening mark: 1.5 to 2.5 bit times (R105). -/
def isOpeningMark (high : Nat) : Bool := decide (60 ≤ high) && decide (high ≤ 100)

/-- OPENING_MARK: the falling edge of a high level that lasted `high` TU; a message in reception was broken by it (R105,
R107). -/
def execOpeningMark (high : Nat) (s : State) : Host.Outcome State Fault Refusal :=
  let s := if s.zone.rxLevel then lineTransition false s else s
  .next (if isOpeningMark high = true ∧ s.zone.receiver ≠ .off then enterMessage (s.tb.now - high) (breakMessage s)
    else s)

/-- A message in reception is discarded: a discarded echo fails its attempt (R106, R113). -/
def discardMessage (echo : Bool) (s : State) : State := if echo then giveVerdict false s else s

/-- The bytes sent by the attempt in flight. -/
def State.sentBytes (s : State) : List Byte :=
  match s.zone.flight with
  | some f => f.bytes
  | none => []

/-- A message at its end: over-count, a failed check, or intact (R106). The echo is judged before the message is handed
to the roster (R113). -/
def endMessage (c : SiteConfig) (bytes : List Byte) (arrival : Time) (echo : Bool) (s : State) : State :=
  let s := hunt s
  if 8 < byteAt bytes 4 then discardMessage echo (countZone (fun k => { k with overCount := bump k.overCount }) s)
  else if !messageCheckOk bytes then
    discardMessage echo (countZone (fun k => { k with checkFailures := bump k.checkFailures }) s)
  else
    let s := countZone (fun k => { k with intact := bump k.intact }) s
    let s := if echo then giveVerdict (bytes == s.sentBytes) s else s
    takeMessage c bytes arrival echo s

/-- The message in reception that has reached its end by the transitions taken, with its bytes (R106). -/
def messageEnded (s : State) : Option (List Byte) :=
  match s.zone.receiver with
  | .message m => m.complete
  | .hunt => none
  | .off => none

/-- The message in reception has missed the middle of a cell (R107). -/
def cellMissed (s : State) : Bool :=
  match s.zone.receiver with
  | .message m => m.missed s.tb.now
  | .hunt => false
  | .off => false

/-- ZONE_MESSAGE: the message in reception reaches its end, its bytes given whole (R106; log entry 6). -/
def execZoneMessage (bytes : List Byte) (s : State) : Host.Outcome State Fault Refusal :=
  if (Instr.zoneMessage bytes).wellFormed then
    .next (match s.validConfig, s.zone.receiver with
      | some c, .message m => endMessage c bytes m.arrival m.echo s
      | _, _ => s)
  else .fault .illFormed

/-! ### Sending (R110 to R114) -/

/-- An attempt begins: the content is formed, the guard begins and the attempt is counted (R110). -/
def beginAttempt (c : SiteConfig) (kind : AnnouncementKind) (attempt : Attempt) (s : State) : State :=
  let flight : InFlight := ⟨kind, attempt, (announce c kind s).bytes, s.tb.now, true, none⟩
  let s := updateZone (fun z => { z with
    flight := some flight
    slot := none
    line := .transmitting
    waitFrom := none }) s
  countZone (fun k => { k with attempts := bump k.attempts }) s

/-- The slot's announcement when a first attempt may begin: no message in flight, and the line idle for the recovery gap
(R110). -/
def attemptDue (s : State) : Option (SiteConfig × AnnouncementKind) :=
  match s.validConfig, s.zone.slot, s.zone.flight, s.zone.idleSince with
  | some c, some kind, none, some t => if t + c.gap * Config.bitTime ≤ s.tb.now then some (c, kind) else none
  | _, _, _, _ => none

/-- ATTEMPT_START: a first attempt begins (R110). -/
def execAttemptStart (s : State) : Host.Outcome State Fault Refusal :=
  .next (match attemptDue s with
    | some (c, kind) => beginAttempt c kind .first s
    | none => s)

/-- The back-off wait, in TU (R114). -/
def backoffWait (c : SiteConfig) : Time := max (((c.site : Int) + 1) * 48) c.gap * Config.bitTime

/-- The message whose back-off wait is over (R114). -/
def retryDue (s : State) : Option (SiteConfig × InFlight) :=
  match s.validConfig, s.zone.line, s.zone.flight, s.zone.waitFrom with
  | some c, .backoff, some f, some t => if t + backoffWait c ≤ s.tb.now then some (c, f) else none
  | _, _, _, _ => none

/-- The kind of a retry, and the merge counter, after the slot has merged into it (R114). -/
def retryKind (f : InFlight) (s : State) : AnnouncementKind × State :=
  match s.zone.slot with
  | some w => (mergeKind w f.kind, countZone (fun k => { k with merges := bump k.merges }) s)
  | none => (f.kind, s)

/-- RETRY_START: the retry begins with fresh content (R114). -/
def execRetryStart (s : State) : Host.Outcome State Fault Refusal :=
  .next (match retryDue s with
    | some (c, f) =>
      let r := retryKind f s
      beginAttempt c r.1 .retry (countZone (fun k => { k with retries := bump k.retries }) r.2)
    | none => s)

/-- The attempt whose guard has ended: its last instant, at which a transition still defers it, is past (R103, R111,
R112; log entry 55). -/
def guardEnded (s : State) : Option (SiteConfig × InFlight) :=
  match s.validConfig, s.zone.guarded with
  | some c, some f => if f.opensAt < s.tb.now then some (c, f) else none
  | _, _ => none

/-- ECHO_WINDOW_OPEN: the opening mark has begun, and the echo window is open from its beginning (R112). -/
def execEchoWindowOpen (s : State) : Host.Outcome State Fault Refusal :=
  .next (match guardEnded s with
    | some (c, f) =>
      updateZone (fun z => { z with
        flight := some { f with inGuard := false }
        echo := .opened f.opensAt (f.opensAt + (c.loopDelay + 8) * Config.bitTime) false }) s
    | none => s)

/-- A high level that rose within the window may yet prove to be an opening mark (R105, R112). -/
def markPending (closes : Time) (s : State) : Bool :=
  s.zone.rxLevel && match s.zone.busySince with
    | some t => decide (t ≤ closes) && decide (s.tb.now ≤ t + 100)
    | none => false

/-- The echo window whose closing instant, which belongs to it, is past; a rising edge within it is first judged (R112;
log entry 55). -/
def windowClosing (s : State) : Option Bool :=
  match s.zone.echo with
  | .opened _ closes found =>
    if closes < s.tb.now ∧ (found = true ∨ markPending closes s = false) then some found else none
  | .closed => none

/-- ECHO_WINDOW_CLOSE: the window closes; with no echo found the attempt has failed (R112, R113). -/
def execEchoWindowClose (s : State) : Host.Outcome State Fault Refusal :=
  .next (match windowClosing s with
    | some found =>
      let s := updateZone (fun z => { z with echo := .closed }) s
      if found then s else giveVerdict false s
    | none => s)

/-- The attempt that has its verdict and has released the line, with the verdict (R113). -/
def attemptEnded (s : State) : Option (InFlight × Bool) :=
  match s.zone.line, s.zone.flight with
  | .transmitting, some f =>
    match f.verdict with
    | some v => if f.inGuard = false ∧ f.guardAt + signalTime f.bytes ≤ s.tb.now then some (f, v) else none
    | none => none
  | _, _ => none

/-- The message in flight is delivered (R113). -/
def deliver (f : InFlight) (s : State) : State :=
  countZone (fun k => { k with
    delivered := bump k.delivered
    urgentDelivered := if f.kind = .urgent then bump k.urgentDelivered else k.urgentDelivered })
    (updateZone (fun z => { z with flight := none, line := z.standing }) s)

/-- A first attempt has failed: the message waits in BACKOFF, its wait counted once the line is idle (R113, R114). -/
def collide (f : InFlight) (s : State) : State :=
  countZone (fun k => { k with collisions := bump k.collisions })
    (updateZone (fun z => { z with
      flight := some f.waiting
      line := .backoff
      waitFrom := if z.idleSince.isSome then some s.tb.now else none }) s)

/-- A retry has failed: the message is lost and reported (R114). -/
def loseMessage (f : InFlight) (s : State) : State :=
  let s := updateZone (fun z => { z with flight := none, line := z.standing }) s
  raise (.announcementLost f.kind (byteAt f.bytes 4)) (countZone (fun k => { k with lost := bump k.lost }) s)

/-- ATTEMPT_END: the attempt ends delivered, failed into BACKOFF, or lost (R113, R114). -/
def execAttemptEnd (s : State) : Host.Outcome State Fault Refusal :=
  .next (match attemptEnded s with
    | some (f, true) => deliver f s
    | some (f, false) =>
      match f.attempt with
      | .first => collide f s
      | .retry => loseMessage f s
    | none => s)

/-! ### The schedule (R115, R116) -/

/-- The announcement period in TU (R115). -/
def announcementPeriod (c : SiteConfig) : Time := c.period * 100000

/-- The schedule starts at the first second boundary after a VALID load (R115). -/
def startSchedule (second : Int) (s : State) : State :=
  match s.validConfig, s.zone.schedule with
  | some c, none =>
    updateZone (fun z => { z with schedule := some (second * Config.second + c.site * (c.period * 6250)) }) s
  | _, _ => s

/-- The next due instant: the present one plus the period, as many times as needed to lie after `now` (R115). -/
def nextPeriodic (period due now : Time) : Time := due + period * ((now - due) / period + 1)

/-- The periodic due instant that has come (R116). -/
def periodicDue (s : State) : Option (SiteConfig × Time) :=
  match s.validConfig, s.zone.schedule with
  | some c, some t => if t ≤ s.tb.now then some (c, t) else none
  | _, _ => none

/-- PERIODIC_DUE: a PERIODIC announcement joins the slot, and the next due instant is set (R115, R116). -/
def execPeriodicDue (s : State) : Host.Outcome State Fault Refusal :=
  .next (match periodicDue s with
    | some (c, t) =>
      updateZone (fun z => { z with schedule := some (nextPeriodic (announcementPeriod c) t s.tb.now) })
        (joinSlot .periodic s)
    | none => s)

/-- The level at which the site drives its transmit line now; none while the line is released (R103). -/
def State.transmitLevel (s : State) : Option Bool :=
  match s.zone.line, s.zone.flight with
  | .transmitting, some f => lineLevelAt f.bytes (s.tb.now - f.guardAt)
  | _, _ => none

end Sys2Proof.Machine
end

