-- ==== Sys2Proof/Machine/TimeBase.lean ====
section
/-! DEFINITION. The time base (Chapter 1): the count of site time, the references' records and verdicts, the discipline
states, the uncertainty and the grade; the commands LABEL_RECORD, MARK_ARRIVAL, MISSING_VERDICT and SECOND_BOUNDARY. -/

namespace Sys2Proof.Machine

open Sys2Proof

/-- Change the time base. -/
def updateTime (f : TimeBase → TimeBase) (s : State) : State := { s with tb := f s.tb }

/-- The record of one reference. -/
def TimeBase.ref (t : TimeBase) : Ref → RefRecord
  | .a => t.refA
  | .b => t.refB

/-- Change the record of one reference. -/
def TimeBase.updateRef (t : TimeBase) (r : Ref) (f : RefRecord → RefRecord) : TimeBase :=
  match r with
  | .a => { t with refA := f t.refA }
  | .b => { t with refB := f t.refB }

/-- Change the record of one reference of the state. -/
def updateRef (r : Ref) (f : RefRecord → RefRecord) (s : State) : State := updateTime (fun t => t.updateRef r f) s

/-! ### The count of site time (R1, R17) -/

/-- The trim carry after one TU of the oscillator (R1). -/
def nextCarry (trim : Int) (carry : Nat) : Nat :=
  let c := carry + trim.natAbs
  if Config.carryPart ≤ c then c - Config.carryPart else c

/-- A part of the trim's correction is made at this TU of the oscillator (R1). -/
def trimPart (trim : Int) (carry : Nat) : Bool := decide (Config.carryPart ≤ carry + trim.natAbs)

/-- The advance of site time at one TU of the oscillator, without a slew (R1). -/
def baseAdvance (trim : Int) (carry : Nat) : Nat :=
  if trimPart trim carry then if 0 < trim then 2 else 0 else 1

/-- The site time after the mark at which part `j` of a slew of `k` TU is made: ⌈j × 10,000,000 / |k|⌉ (R17). -/
def slewPoint (k : Int) (j : Nat) : Nat := (j * 10000000 + (k.natAbs - 1)) / k.natAbs

/-- The slew after site time has advanced by `n` without it, and the part that this makes: +1, −1 or 0 TU (R17). -/
def Slew.advance (w : Slew) (n : Nat) : Slew × Int :=
  if w.made < w.amount.natAbs then
    let advanced := w.advanced + n
    if slewPoint w.amount (w.made + 1) ≤ advanced then
      (if w.made + 1 = w.amount.natAbs then Slew.none else ⟨w.amount, w.made + 1, advanced⟩, w.amount.sign)
    else (⟨w.amount, w.made, advanced⟩, 0)
  else (w, 0)

/-- One TU of the local oscillator at the time base (R1, R17). -/
def TimeBase.tick (t : TimeBase) : TimeBase :=
  let n := baseAdvance t.trim t.carry
  let w := t.slew.advance n
  { t with now := t.now + n + w.2, carry := nextCarry t.trim t.carry, slew := w.1 }

/-- One TU of the local oscillator passes; when S passes its maximum it returns to 0 (R1). -/
def tick (s : State) : State := ({ s with osc := s.osc + 1, tb := s.tb.tick } : State).wrapTime

/-! ### The test in force (R4) -/

/-- The local window test is in force; otherwise the mark-to-mark test is (R4). -/
def localTest (t : TimeBase) : Bool :=
  match t.disc with
  | .acquire => true
  | .track => true
  | .holdover => decide (t.u ≤ 10000)
  | .unset => false

/-- The last second boundary whose window has closed (R4, R6). -/
def lastClosed (now : Time) : Int := (now - Config.markWindow) / Config.second

/-- A reference's record when the test becomes mark-to-mark: no last mark, no expected instant, good run 0 (R4). -/
def RefRecord.forget (r : RefRecord) : RefRecord := { r with lastMark := none, expected := none, goodRun := 0 }

/-- A reference's window bookkeeping when the local window test comes into force (log entry 11). -/
def RefRecord.openWindows (r : RefRecord) (now : Time) : RefRecord :=
  { r with windowMark := none, windowClosed := lastClosed now }

/-- The test in force has changed or not between two states of the time base (R4). -/
def TimeBase.changeTest (t before : TimeBase) : TimeBase :=
  match localTest before, localTest t with
  | true, false => { t with refA := t.refA.forget, refB := t.refB.forget }
  | false, true => { t with refA := t.refA.openWindows t.now, refB := t.refB.openWindows t.now }
  | _, _ => t

/-! ### What follows a change of the discipline state or of U (R18 to R20) -/

/-- The grade is computed afresh; a change is reported (R19). -/
def regrade (s : State) : State :=
  let new := gradeOf s.tb.u s.tb.disc
  if new = s.tb.grade then s
  else raise (.gradeChange s.tb.grade new s.tb.u) (updateTime (fun t => { t with grade := new }) s)

/-- A TIME-latch cause: an entry to HOLDOVER, or a fall of the grade into D (R20). -/
def timeCause (before after : TimeBase) : Bool :=
  (after.disc == .holdover && before.disc != .holdover) || (after.grade == .d && before.grade != .d)

/-- The change of the time base is handed on: the test in force, the grade, the TIME latch, U to the emission
controller, the grade to the agreement unit and the zone line (R4, R18 to R20). The emission controller has the new U
before the agreement unit has the new grade (log entry 51). -/
def settleTime (before : TimeBase) (s : State) : State :=
  let s := regrade (updateTime (fun t => t.changeTest before) s)
  let s := if timeCause before s.tb then setLatch .time s else s
  let s := if s.tb.u = before.u then s else compareU s
  if s.tb.grade = before.grade then s else refresh (urgent s)

/-! ### The second boundary (R2) -/

/-- A second-boundary event is to be raised: S has taken a value above the highest announced second while time is set
(R2). When S returns to 0 the announced second lies one wrap lower (`TimeBase.shift`), so that 0 is above it. -/
def boundaryDue (s : State) : Bool :=
  s.tb.disc != .unset && match s.tb.announced with
    | some n => decide (n < secondOf s.tb.now)
    | none => true

/-- U grows at a second boundary in HOLDOVER (R18). -/
def growHoldover (s : State) : State :=
  if s.tb.disc = .holdover then
    let before := s.tb
    settleTime before (updateTime (fun t => { t with
      u := min (t.u + s.growth) Config.uMax
      holdSeconds := t.holdSeconds + 1 }) s)
  else s

/-- The second-boundary event is raised to its four consumers (R2). -/
def raiseBoundary (s : State) : State :=
  let second := secondOf s.tb.now
  let s := updateTime (fun t => { t with announced := some second }) s
  formReport (growHoldover (startSchedule second (expireAll second s)))

/-- The second-boundary event, if one is to be raised. -/
def boundary (s : State) : State := if boundaryDue s then raiseBoundary s else s

/-- SECOND_BOUNDARY (R2). -/
def execSecondBoundary (s : State) : Host.Outcome State Fault Refusal := .next (boundary s)

/-! ### Changes of the discipline state (R10, R12 to R16) -/

/-- The discipline state changes and is reported. -/
def moveDiscipline (new : Discipline) (s : State) : State :=
  raise (.timeState s.tb.disc new) (updateTime (fun t => { t with disc := new }) s)

/-- Site time is replaced, and pacing takes the step (R10, R16, R53). A new time outside the range of S is that of a
step across the wrap; it is brought back once pacing has measured the step. -/
def replaceTime (new : Time) (s : State) : State :=
  let old := s.tb.now
  (stepPacing old new (updateTime (fun t => { t with now := new, slew := Slew.none }) s)).wrapTime

/-- The site time that a step to a label goes to: (label, 0), the difference being that of the two numbers (R16; section
5.3 of 00_scope.md). Where the wrap of S stands between them and leaves less than 2 s from one to the other, it is
the label's recurrence across the wrap: a step to label 0 from the last second before the wrap is forward, and its
amount is what it moves (R2; DESIGN CHOICE, log entry 44). -/
def stepTarget (now : Time) (label : Nat) : Time :=
  let t : Time := label * Config.second
  if t + Config.timeWrap - now < 20000000 then t + Config.timeWrap
  else if now - (t - Config.timeWrap) < 20000000 then t - Config.timeWrap
  else t

/-- Site time is stepped to a label (R16). -/
def stepTime (label : Nat) (s : State) : State :=
  let new := stepTarget s.tb.now label
  let amount := new - s.tb.now
  let s := updateTime (fun t => { t with stepCount := bump t.stepCount }) (replaceTime new s)
  raise (.timeStep amount label) s

/-- Entry to HOLDOVER (R14). -/
def enterHoldover (s : State) : State :=
  moveDiscipline .holdover (updateTime (fun t => { t with
    history := []
    excessRun := 0
    uEntry := t.u
    holdSeconds := 0 }) s)

/-- Entry to UNSET from ACQUIRE (R2, R12). -/
def enterUnset (s : State) : State :=
  moveDiscipline .unset (updateTime (fun t => { t with announced := none }) s)

/-- Entry to ACQUIRE through a step, from TRACK or HOLDOVER (R13, R15). -/
def enterAcquire (label : Nat) (s : State) : State :=
  moveDiscipline .acquire (updateTime (fun t => { t with
    acquireRun := 0
    excessRun := 0
    history := []
    u := Config.uMax }) (stepTime label s))

/-- The trim after a taken mark, clamped (R11, R13). -/
def trimAfter (trim : Int) (factor : Int) (e : Int) : Int :=
  clampInt (-Config.trimMax) Config.trimMax (trim - factor * e)

/-- The error history with one more magnitude, at most eight of them (R13). -/
def pushError (history : List Nat) (e : Int) : List Nat :=
  let l := history ++ [e.natAbs]
  if l.length = 9 then l.drop 1 else l

/-- U in TRACK: the greatest value of the error history, plus 1 (R18). -/
def trackU (history : List Nat) : Nat := history.foldl max 0 + 1

/-- A taken mark that stays in TRACK: the trim, the slew and the history (R13, R17, R18). A mark with |e| below 4 begins
no slew and leaves a remainder as it is (R17). -/
def TimeBase.trackMark (t : TimeBase) (e : Int) : TimeBase :=
  let history := pushError t.history e
  { t with
    trim := trimAfter t.trim 200 e
    slew := if e.tdiv 4 = 0 then t.slew else ⟨-(e.tdiv 4), 0, 0⟩
    history := history
    u := trackU history }

/-! ### The mark at the discipline (R9 to R15) -/

/-- The second of the boundary nearest a site time (R9). -/
def nearestSecond (now : Time) : Int := (now + 5000000) / Config.second % Config.secondsWrap

/-- The phase error of a mark with its label (R9). Ahead of or behind the label's second is judged against the site time
that a step to the label goes to (log entry 44). -/
def phaseError (now : Time) (label : Nat) : Int :=
  if nearestSecond now = label then
    let f := fractionOf now
    clampInt (-10000) 10000 (if f < 5000000 then f else f - 10000000)
  else if stepTarget now label < now then 10000 else -10000

/-- A taken mark in UNSET sets time (R10). -/
def setTimeMark (label : Nat) (s : State) : State :=
  moveDiscipline .acquire (updateTime (fun t => { t with acquireRun := 0 }) (replaceTime (label * Config.second) s))

/-- A taken mark in ACQUIRE, in order (R11). -/
def acquireMark (label : Nat) (e : Int) (s : State) : State :=
  let s := if 10 < e.natAbs then updateTime (fun t => { t with acquireRun := 0 }) (stepTime label s)
    else updateTime (fun t => { t with acquireRun := t.acquireRun + 1 }) s
  let s := updateTime (fun t => { t with trim := trimAfter t.trim 2500 e }) s
  if s.tb.acquireRun = 8 then
    moveDiscipline .track (updateTime (fun t => { t with
      tracked := true
      history := [e.natAbs]
      excessRun := 0
      u := trackU [e.natAbs] }) s)
  else s

/-- A taken mark in TRACK (R13). -/
def trackStateMark (label : Nat) (e : Int) (s : State) : State :=
  let excess := if 100 < e.natAbs then s.tb.excessRun + 1 else 0
  if excess = 3 then enterAcquire label s
  else updateTime (fun t => ({ t with excessRun := excess }).trackMark e) s

/-- The first taken mark in HOLDOVER ends the state (R15). -/
def holdoverMark (label : Nat) (e : Int) (s : State) : State :=
  if e.natAbs ≤ 100 then
    moveDiscipline .track (updateTime (fun t => ({ t with history := [], excessRun := 0 }).trackMark e) s)
  else enterAcquire label s

/-- A taken mark, by the discipline state (R10, R11, R13, R15). -/
def disciplineMark (label : Nat) (s : State) : State :=
  let e := phaseError s.tb.now label
  match s.tb.disc with
  | .unset => setTimeMark label s
  | .acquire => acquireMark label e s
  | .track => trackStateMark label e s
  | .holdover => holdoverMark label e s

/-- A mark has been taken within the 5,000,000 TU before now (R9). -/
def takenLately (t : TimeBase) : Bool :=
  match t.lastTaken with
  | some last => decide (last ≤ t.now) && decide (t.now - last ≤ 5000000)
  | none => false

/-- The boundary, as a number of seconds, in whose window a site time lies (R4). -/
def windowOf (now : Time) : Option Int :=
  let b := (now + Config.markWindow) / Config.second
  if now ≤ b * Config.second + Config.markWindow then some b else none

/-- The bookkeeping of a mark in the window of a boundary, and of a taken mark that has set or stepped site time to one
(log entry 11). -/
def RefRecord.windowTaken (r : RefRecord) (now : Time) : RefRecord :=
  match windowOf now with
  | some b => { r with windowMark := some b, windowClosed := b }
  | none => r

/-- A mark with a good verdict is taken for discipline when its reference is selected and no mark was taken lately;
what follows is handed on, and a new second is announced (R2, R9, R16). That the announcement comes after T, the state, U
and the grade have settled is the model's choice (DESIGN CHOICE, log entry 61). -/
def takeMark (r : Ref) (label : Nat) (s : State) : State :=
  if s.tb.selected = some r ∧ takenLately s.tb = false then
    let before := s.tb
    let s := disciplineMark label s
    let s := settleTime before (updateTime (fun t => { t with lastTaken := some t.now }) s)
    let s := if localTest s.tb then updateRef r (fun x => x.windowTaken s.tb.now) s else s
    boundary s
  else s

/-! ### Verdicts, validity and selection (R5 to R8) -/

/-- A reference's runs, counters and validity after a verdict (R7). -/
def RefRecord.judged (r : RefRecord) (v : Verdict) : RefRecord :=
  match v with
  | .good =>
    let run := min (r.goodRun + 1) 4
    { r with goodRun := run, badRun := 0, goodMarks := bump r.goodMarks, valid := r.valid || decide (run = 4) }
  | .bad =>
    let run := min (r.badRun + 1) 2
    { r with badRun := run, goodRun := 0, badMarks := bump r.badMarks, valid := r.valid && decide (run ≠ 2) }
  | .missing =>
    let run := min (r.badRun + 1) 2
    { r with badRun := run, goodRun := 0, missingMarks := bump r.missingMarks, valid := r.valid && decide (run ≠ 2) }
  | .start => r

/-- The selection that the validities give (R8). -/
def TimeBase.selection (t : TimeBase) : Option Ref :=
  if t.refA.valid then some .a else if t.refB.valid then some .b else none

/-- The response of the discipline state to a change of selection (R10, R12 to R14). -/
def answerSelection (new : Option Ref) (s : State) : State :=
  match s.tb.disc, new with
  | .acquire, none => if s.tb.tracked then enterHoldover s else enterUnset s
  | .acquire, some _ => updateTime (fun t => { t with acquireRun := 0 }) s
  | .track, none => enterHoldover s
  | .track, some _ => s
  | .unset, _ => s
  | .holdover, _ => s

/-- The selection is recomputed; a change is reported and answered (R8). -/
def reselect (s : State) : State :=
  let new := s.tb.selection
  if new = s.tb.selected then s
  else
    let before := s.tb
    let s := raise (.refSwitch before.selected new) (updateTime (fun t => { t with selected := new }) s)
    settleTime before (answerSelection new s)

/-- A change of a reference's validity is reported, and the selection follows (R7, R8). -/
def validityChanged (r : Ref) (was : Bool) (s : State) : State :=
  let now := (s.tb.ref r).valid
  if now = was then s else reselect (raise (.refState r now) s)

/-- A verdict on a reference (R7, R8). -/
def giveMarkVerdict (r : Ref) (v : Verdict) (s : State) : State :=
  validityChanged r (s.tb.ref r).valid (updateRef r (fun x => x.judged v) s)

/-- The verdict of the local window test (R5). -/
def windowVerdict (r : RefRecord) (label : Option Nat) (now : Time) : Verdict :=
  match windowOf now with
  | some b =>
    if r.windowMark ≠ some b ∧ label.map (fun n => (n : Int)) = some (b % Config.secondsWrap) then .good else .bad
  | none => .bad

/-- The verdict of the mark-to-mark test (R5). -/
def markVerdict (r : RefRecord) (label : Option Nat) (now : Time) : Verdict :=
  match r.lastMark, r.expected with
  | some _, some (t, n) =>
    if t - Config.markWindow ≤ now ∧ now ≤ t + Config.markWindow ∧ label = some n then .good else .bad
  | some _, none => .bad
  | none, _ => .start

/-- The last mark, expected instant and expected label after a mark under the mark-to-mark test (R4, R5). -/
def RefRecord.markTaken (r : RefRecord) (label : Option Nat) (now : Time) : RefRecord :=
  match label with
  | some n => { r with lastMark := some (now, n), expected := some (now + Config.second, (n + 1) % 4294967296) }
  | none => { r with lastMark := none, expected := none }

/-- The verdict on a mark that arrives now (R5). -/
def verdictNow (r : Ref) (s : State) : Verdict :=
  let x := s.tb.ref r
  if localTest s.tb then windowVerdict x x.lastLabel s.tb.now else markVerdict x x.lastLabel s.tb.now

/-- What a mark leaves in its reference's record, beside its verdict: the label is used up, and the test in force keeps
its own account (R3, R5). -/
def recordMark (r : Ref) (s : State) : State :=
  let test := localTest s.tb
  let now := s.tb.now
  updateRef r (fun x =>
    let y := if test then x.windowTaken now else x.markTaken x.lastLabel now
    { y with lastLabel := none }) s

/-- A mark of a fitted reference arrives (R3, R5, R9). -/
def markArrives (r : Ref) (s : State) : State :=
  let v := verdictNow r s
  let label := (s.tb.ref r).lastLabel
  let s := giveMarkVerdict r v (recordMark r s)
  match v, label with
  | .good, some n => takeMark r n s
  | _, _ => s

/-- MARK_ARRIVAL: a mark on one reference port; a port that is not fitted takes none (R3, R5). -/
def execMarkArrival (r : Ref) (s : State) : Host.Outcome State Fault Refusal :=
  .next (if s.fitted r then markArrives r s else s)

/-! ### Missing marks and labels (R3, R6) -/

/-- A missing verdict is due: the window of a boundary has closed with no mark in it, or the expected instant has passed
by 10,000 TU (R6). Both fall due in the closing TU, which belongs to the window too; a mark that comes in that TU after
the verdict is judged as R5 then says (DESIGN CHOICE, log entry 56). -/
def missingDue (r : Ref) (s : State) : Bool :=
  let x := s.tb.ref r
  s.fitted r && if localTest s.tb then decide (x.windowClosed < lastClosed s.tb.now)
    else match x.expected with
      | some (t, _) => decide (t + Config.markWindow ≤ s.tb.now)
      | none => false

/-- The bookkeeping of a missing verdict: the window is judged, or the expected instant and label advance (R6). -/
def RefRecord.missed (r : RefRecord) (test : Bool) (now : Time) : RefRecord :=
  if test then { r with windowClosed := lastClosed now }
  else { r with expected := r.expected.map fun e => (e.1 + Config.second, (e.2 + 1) % 4294967296) }

/-- MISSING_VERDICT on one reference (R6). -/
def execMissingVerdict (r : Ref) (s : State) : Host.Outcome State Fault Refusal :=
  .next (if missingDue r s then
    giveMarkVerdict r .missing (updateRef r (fun x => x.missed (localTest s.tb) s.tb.now) s)
  else s)

/-- A complete label record at a fitted reference: the last label, or a bad label (R3). -/
def takeLabel (r : Ref) (record : List Byte) (s : State) : State :=
  updateRef r (fun x =>
    match labelOf record with
    | some n => { x with lastLabel := some n }
    | none => { x with badLabels := bump x.badLabels }) s

/-- LABEL_RECORD on one reference port (R3). -/
def execLabelRecord (r : Ref) (record : List Byte) (s : State) : Host.Outcome State Fault Refusal :=
  if (Instr.labelRecord r record).wellFormed then .next (if s.fitted r then takeLabel r record s else s)
  else .fault .illFormed

/-! ### A new fitted set (R22) -/

/-- A reference that is no longer fitted: INVALID, with its runs, last mark and last label emptied (R22). -/
def RefRecord.unfit (r : RefRecord) : RefRecord :=
  { r with valid := false, goodRun := 0, badRun := 0, lastMark := none, lastLabel := none, expected := none }

/-- A reference that was fitted and no longer is goes INVALID, reported if it was VALID (R22). -/
def unfitRef (r : Ref) (was : Bool) (s : State) : State :=
  if was ∧ s.fitted r = false then
    let valid := (s.tb.ref r).valid
    let s := updateRef r RefRecord.unfit s
    if valid then raise (.refState r false) s else s
  else s

/-- A reference newly fitted starts INVALID, its windows counted from now (R22; log entry 11). -/
def fitRef (r : Ref) (was : Bool) (s : State) : State :=
  if was = false ∧ s.fitted r = true then updateRef r (fun x => x.unfit.openWindows s.tb.now) s else s

/-- A new fitted set takes effect, and the selection is recomputed (R8, R22). -/
def takeFitted (wasA wasB : Bool) (s : State) : State :=
  reselect (fitRef .b wasB (fitRef .a wasA (unfitRef .b wasB (unfitRef .a wasA s))))

end Sys2Proof.Machine
end

