-- ==== Sys2Proof/Machine/SiteControl.lean ====
section
/-! DEFINITION. Site control (Chapter 10) and the resets of every block: the commands POWER_ON_RESET, RESTART,
LOAD_START, CONFIG_READ_COMPLETE, NO_RECORD, INHIBIT_CHANGE, OVERRIDE_CHANGE, LATCH_CLEAR and LATCH_CLEAR_RELEASE. -/

namespace Sys2Proof.Machine

open Sys2Proof

/-- Change site control. -/
def updateControl (f : SiteControl → SiteControl) (s : State) : State := { s with sc := f s.sc }

/-! ### Resets (R21, R45, R63, R83, R84, R101, R102, R118, R119, R135, R136, R157, R178, R186) -/

/-- POWER_ON_RESET: every block at its power-on state. The queue of commands, the count of free choices and the level
of the receive line, which is an input, are not the part's to reset (R21; log entry 16). -/
def execPowerOnReset (s : State) : Host.Outcome State Fault Refusal :=
  .next { State.reset with
    zone := ZoneLine.resetAt s.zone.rxLevel
    choices := s.choices
    pending := s.pending }

/-- The mute cause set that a restart forms (R63). -/
def restartCauses (s : State) : MuteSet :=
  ⟨decide (s.emissionLimit < s.tb.u), s.sc.inhibitLine, false, false⟩

/-- The monitor port at a restart: the queue, the held report, the sequence numbers and the counters are emptied; the
record in transmission and the report span go on (R186, R191). -/
def Monitor.restart (m : Monitor) : Monitor :=
  { Monitor.reset with sending := m.sending, lastReport := m.lastReport }

/-- Site control at a restart (R186, R188). -/
def SiteControl.restart (c : SiteControl) (duplicate : Bool) : SiteControl :=
  { c with
    config := .loading
    loader := .waiting
    faultCause := none
    loadCause := .restart
    latchAir := false
    latchTime := false
    latchSplit := false
    latchFault := c.latchFault && duplicate
    loads := 0
    faults := 0 }

/-- Every block takes the restart (R186). The break table and the channels are emptied before the spot store acts, so
that no protect or freeze request stands (R84, R102, R178). -/
def restartBlocks (s : State) : State :=
  let s := { s with
    intake := Intake.reset
    em := Emission.resetWith (restartCauses s)
    cues := CueDecoder.reset
    zone := ZoneLine.resetAt s.zone.rxLevel
    ros := PeerRoster.resetAt s.ros.duplicate
    agree := AgreementCounters.zero
    chans := Channels.reset
    sc := s.sc.restart s.ros.duplicate }
  let s := restartStore s
  { s with mon := s.mon.restart }

/-- A change of a site line's level can be taken now: 10 ms of the oscillator have passed since its last change, or since
power-on (R186; log entry 28). -/
def lineSettled (since : Nat) (s : State) : Bool := decide (since + Config.debounceSpan ≤ s.osc)

/-- RESTART: the active level of the RESTART line is taken. The first level after power-on only holds the loader
(R179, R186). -/
def execRestart (s : State) : Host.Outcome State Fault Refusal :=
  .next (if s.sc.restartLine = true ∨ lineSettled s.sc.restartSince s = false then s
  else
    let first := !s.sc.restartTaken
    let s := updateControl (fun c => { c with restartLine := true, restartTaken := true, restartSince := s.osc }) s
    if first then s else restartBlocks s)

/-! ### The load (R179 to R185) -/

/-- The loader sends its read request (R179). -/
def startRead (s : State) : State :=
  if s.sc.config = .loading ∧ s.sc.loader = .waiting then
    updateControl (fun c => { c with loader := .reading s.osc }) s
  else s

/-- LOAD_START: the RESTART line is taken inactive, or first taken inactive 10 ms after power-on, which is no change of
its level (R179, R186). -/
def execLoadStart (s : State) : Host.Outcome State Fault Refusal :=
  .next (if (s.sc.restartTaken = true ∧ s.sc.restartLine = false) ∨ lineSettled s.sc.restartSince s = false then s
  else startRead (updateControl (fun c => { c with
    restartLine := false
    restartTaken := true
    restartSince := if c.restartLine then s.osc else c.restartSince }) s))

/-- A load ends in FAULT (R59, R185). -/
def loadFault (cause : LoadFault) (s : State) : State :=
  let s := updateControl (fun c => { c with
    config := .fault
    loader := .waiting
    faultCause := some cause
    faults := bump c.faults }) s
  let s := setLatch .fault (raise (.configFault cause) s)
  setLatch .air (changeEmission .fault s)

/-- A peer record at its creation (R129). -/
def Peer.new (site : Nat) : Peer := ⟨site, .unheard, none, none, none, 0, 0, 0⟩

/-- The peer roster takes up a record: roster, quorum and fresh peer records (R133 to R136). -/
def takeRoster (c : SiteConfig) (s : State) : State :=
  updateRoster (fun r => { r with
    roster := c.roster
    quorum := some c.quorum
    peers := (c.roster.filter fun n => n != c.site).map Peer.new }) s

/-- The receiver leaves OFF for HUNT: the line is treated as busy from now (R104, R118). -/
def enableReceiver (s : State) : State :=
  updateZone (fun z => { z with
    receiver := .hunt
    busySince := some s.tb.now
    idleSince := none
    line := .receiving }) s

/-- Every block takes up the values of a VALID record: the new emission limit is compared with U and the occupancy with
the new thresholds (R60, R63, R184). -/
def takeUp (c : SiteConfig) (wasA wasB : Bool) (s : State) : State :=
  checkLow (checkHigh (compareU (takeFitted wasA wasB (takeRoster c (enableReceiver s)))))

/-- A load completes VALID (R184). -/
def loadValid (c : SiteConfig) (s : State) : State :=
  let wasA := s.fitted .a
  let wasB := s.fitted .b
  let s := updateControl (fun k => { k with
    config := .valid
    loader := .waiting
    faultCause := none
    inUse := some c
    loads := bump k.loads }) s
  takeUp c wasA wasB (raise (.configLoaded s.sc.loadCause c.check) s)

/-- The complete record is judged, its CONFIG_CLAMP events first (R181). -/
def loadRecord (record : List Byte) (s : State) : State :=
  match judgeRecord record with
  | .valid c clamps => loadValid c (raiseAll clamps s)
  | .fault cause clamps => loadFault cause (raiseAll clamps s)

/-- The loader is READING. -/
def Loader.isReading : Loader → Bool
  | .reading _ => true
  | .waiting => false

/-- CONFIG_READ_COMPLETE: the 78 bytes of the record have been taken (R180, R181). -/
def execConfigReadComplete (record : List Byte) (s : State) : Host.Outcome State Fault Refusal :=
  if (Instr.configReadComplete record).wellFormed then
    .next (if s.sc.loader.isReading then loadRecord record s else s)
  else .fault .illFormed

/-- The oscillator TU after the request at which a read without a first byte, or without its 78th byte, ends (R180). -/
def readLimit (firstByte : Bool) : Nat := if firstByte then 1000000 else 200000

/-- The read has run out of time (R180). -/
def noRecordDue (firstByte : Bool) (s : State) : Bool :=
  match s.sc.loader with
  | .reading since => decide (since + readLimit firstByte ≤ s.osc)
  | .waiting => false

/-- NO_RECORD: no first byte, or no 78th byte, came in time (R180). -/
def execNoRecord (firstByte : Bool) (s : State) : Host.Outcome State Fault Refusal :=
  .next (if noRecordDue firstByte s then loadFault .noRecord s else s)

/-! ### The site lines (R187, R189) -/

/-- INHIBIT_CHANGE: the new debounced level (R61, R187). -/
def execInhibitChange (active : Bool) (s : State) : Host.Outcome State Fault Refusal :=
  .next (if s.sc.inhibitLine = active ∨ lineSettled s.sc.inhibitSince s = false then s
  else
    let s := raise (.siteLine .inhibit active)
      (updateControl (fun c => { c with inhibitLine := active, inhibitSince := s.osc }) s)
    if active then addCause .inhibit s else removeCause .inhibit s)

/-- OVERRIDE_CHANGE: the new debounced level (R123, R173, R187). -/
def execOverrideChange (active : Bool) (s : State) : Host.Outcome State Fault Refusal :=
  .next (if s.sc.overrideLine = active ∨ lineSettled s.sc.overrideSince s = false then s
  else
    let s := raise (.siteLine .override active)
      (updateControl (fun c => { c with overrideLine := active, overrideSince := s.osc }) s)
    let s := urgent (refresh s)
    if active then overrideChannels s else s)

/-- The clearing condition of a latch (R188). -/
def clearable (s : State) : Latch → Bool
  | .air => s.em.state == .onAir
  | .time => s.tb.disc == .track && s.tb.grade != .d
  | .split => true
  | .fault => s.isValid && !s.ros.duplicate

/-- One latch is judged at a LATCH CLEAR (R189). -/
def judgeLatch (l : Latch) (s : State) : State := if clearable s l then putLatch l false s else s

/-- LATCH_CLEAR: the active level is taken; a level held active does not clear again (R189). -/
def execLatchClear (s : State) : Host.Outcome State Fault Refusal :=
  .next (if s.sc.latchClearLine = true ∨ lineSettled s.sc.latchClearSince s = false then s
  else forEach judgeLatch [.air, .time, .split, .fault]
    (updateControl (fun c => { c with latchClearLine := true, latchClearSince := s.osc }) s))

/-- LATCH_CLEAR_RELEASE: the line is taken inactive (R186, R189). -/
def execLatchClearRelease (s : State) : Host.Outcome State Fault Refusal :=
  .next (if s.sc.latchClearLine = true ∧ lineSettled s.sc.latchClearSince s = true then
    updateControl (fun c => { c with latchClearLine := false, latchClearSince := s.osc }) s
  else s)

end Sys2Proof.Machine
end

