-- ==== Sys2Proof/Machine/Tick.lean ====
section
/-! DEFINITION. What happens while no command waits (log entries 3 and 9): the commands of the part's own timers that
have fallen due, and the choice among them. -/

namespace Sys2Proof.Machine

open Sys2Proof

/-- A command in the list when its condition holds. -/
def whenDue (b : Bool) (c : Instr) : List Instr := if b then [c] else []

/-- The time base's events that are due (R2, R6). -/
def dueTime (s : State) : List Instr :=
  whenDue (boundaryDue s) .secondBoundary ++ whenDue (missingDue .a s) (.missingVerdict .a)
    ++ whenDue (missingDue .b s) (.missingVerdict .b)

/-- Site control's events that are due: a read without its 78th byte 100 ms after the request, and the monitor port's
(R180, R191, R193). -/
def dueControl (s : State) : List Instr :=
  whenDue (noRecordDue true s) (.noRecord true) ++ whenDue (reportSpanDue s) .reportSpanExpiry
    ++ whenDue (recordEndDue s) .monitorRecordEnd

/-- The emission controller's event that is due: the end of a transfer, then a late or a released record, then the
instant of a cell or a filler (R43, R49 to R52, R57). -/
def dueEmission (s : State) : List Instr :=
  if transferDue s then [.transferEnd]
  else if (lateFrame s).isSome then [.assemblingLate]
  else if (releaseDue s).isSome then [.frameRelease]
  else if (instantDue s).isSome then
    [if s.currentFrame.isSome then .cellInstant else .fillerInstant]
  else []

/-- The command of a record's instant (section 5.5 of Chapter 5). -/
def instantCommand (id : Nat) : BreakInstant → Option Instr
  | .decision => none
  | .lock => some (.lockInstant id)
  | .watchOpen => some (.watchOpen id)
  | .watchClose => some (.watchClose id)
  | .endInstant => some (.endInstant id)
  | .removal => some (.removalInstant id)

/-- The break records' instants that are due; decisions are taken in table order (R145). -/
def dueBreaks (s : State) : List Instr :=
  whenDue (decisionDue s).isSome .decisionInstant
    ++ s.cues.table.filterMap fun r => (r.dueInstant s.tb.now).bind (instantCommand r.id)

/-- The zone line's and the roster's events that are due (R104, R106, R107, R110 to R116, R130). -/
def dueZone (s : State) : List Instr :=
  (messageEnded s).toList.map .zoneMessage ++ whenDue (cellMissed s) .messageBroken
    ++ whenDue (lineIdleDue s) .lineIdle ++ whenDue (guardEnded s).isSome .echoWindowOpen
    ++ whenDue (windowClosing s).isSome .echoWindowClose ++ whenDue (attemptEnded s).isSome .attemptEnd
    ++ whenDue (retryDue s).isSome .retryStart ++ whenDue (attemptDue s).isSome .attemptStart
    ++ whenDue (periodicDue s).isSome .periodicDue
    ++ s.ros.peers.filterMap fun p => (silentPeer p.site s).map fun q => .silenceTimerExpiry q.site

/-- The commands of the part's own timers that are due now. -/
def dueNow (s : State) : List Instr :=
  dueTime s ++ dueControl s ++ whenDue (feedLossDue s) .feedLoss ++ dueEmission s
    ++ whenDue (isDue s.tb.now s.em.starve) .starveExpiry ++ whenDue (checkDue s).isSome .checkComplete
    ++ dueBreaks s ++ dueZone s

/-- The one of them that is taken next: the manual gives no order between blocks (log entry 3). -/
def chooseDue (s : State) : Option Instr := (dueNow s)[Config.dueChoice s.choices % (dueNow s).length]?

end Sys2Proof.Machine
end

