-- ==== Sys2Proof/Machine/Dispatch.lean ====
section
/-! DEFINITION. The meaning of every command: one arm per constructor of Instr, each one direct call. -/

namespace Sys2Proof.Machine

open Sys2Proof

/-- A command's effect on everything but the queue. -/
def exec (i : Instr) (s : State) : Host.Outcome State Fault Refusal :=
  match i with
  | .powerOnReset => Sys2Proof.Machine.execPowerOnReset s
  | .restart => Sys2Proof.Machine.execRestart s
  | .loadStart => Sys2Proof.Machine.execLoadStart s
  | .configReadComplete record => Sys2Proof.Machine.execConfigReadComplete record s
  | .noRecord firstByte => Sys2Proof.Machine.execNoRecord firstByte s
  | .inhibitChange active => Sys2Proof.Machine.execInhibitChange active s
  | .overrideChange active => Sys2Proof.Machine.execOverrideChange active s
  | .latchClear => Sys2Proof.Machine.execLatchClear s
  | .labelRecord r record => Sys2Proof.Machine.execLabelRecord r record s
  | .markArrival r => Sys2Proof.Machine.execMarkArrival r s
  | .missingVerdict r => Sys2Proof.Machine.execMissingVerdict r s
  | .secondBoundary => Sys2Proof.Machine.execSecondBoundary s
  | .reportSpanExpiry => Sys2Proof.Machine.execReportSpanExpiry s
  | .runtCell => Sys2Proof.Machine.execRuntCell s
  | .cellTaken cell => Sys2Proof.Machine.execCellTaken cell s
  | .feedLoss => Sys2Proof.Machine.execFeedLoss s
  | .assemblingLate => Sys2Proof.Machine.execAssemblingLate s
  | .frameRelease => Sys2Proof.Machine.execFrameRelease s
  | .cellInstant => Sys2Proof.Machine.execCellInstant s
  | .fillerInstant => Sys2Proof.Machine.execFillerInstant s
  | .starveExpiry => Sys2Proof.Machine.execStarveExpiry s
  | .checkComplete => Sys2Proof.Machine.execCheckComplete s
  | .decisionInstant => Sys2Proof.Machine.execDecisionInstant s
  | .lockInstant id => Sys2Proof.Machine.execLockInstant id s
  | .endInstant id => Sys2Proof.Machine.execEndInstant id s
  | .removalInstant id => Sys2Proof.Machine.execRemovalInstant id s
  | .watchOpen id => Sys2Proof.Machine.execWatchOpen id s
  | .watchClose id => Sys2Proof.Machine.execWatchClose id s
  | .attemptStart => Sys2Proof.Machine.execAttemptStart s
  | .deferral level => Sys2Proof.Machine.execDeferral level s
  | .echoWindowClose => Sys2Proof.Machine.execEchoWindowClose s
  | .attemptEnd => Sys2Proof.Machine.execAttemptEnd s
  | .retryStart => Sys2Proof.Machine.execRetryStart s
  | .lineIdle => Sys2Proof.Machine.execLineIdle s
  | .periodicDue => Sys2Proof.Machine.execPeriodicDue s
  | .zoneMessage bytes => Sys2Proof.Machine.execZoneMessage bytes s
  | .messageBroken => Sys2Proof.Machine.execMessageBroken s
  | .silenceTimerExpiry site => Sys2Proof.Machine.execSilenceTimerExpiry site s
  | .monitorRecordEnd => Sys2Proof.Machine.execMonitorRecordEnd s
  | .lineBusy level => Sys2Proof.Machine.execLineBusy level s
  | .openingMark high => Sys2Proof.Machine.execOpeningMark high s
  | .echoWindowOpen => Sys2Proof.Machine.execEchoWindowOpen s
  | .transferEnd => Sys2Proof.Machine.execTransferEnd s
  | .latchClearRelease => Sys2Proof.Machine.execLatchClearRelease s

end Sys2Proof.Machine
end

