-- ==== Sys2Proof/Machine/Step.lean ====
section
/-! DEFINITION. The step: the command at the front of the queue, or, while none waits, one due event of the part's own
timers, or one TU of the local oscillator (log entry 9). -/

namespace Sys2Proof.Machine

open Sys2Proof

/-- What the block does while no command waits: one event that is due, or one TU of the oscillator (log entry 9). -/
def idle (s : State) : Host.Outcome State Fault Refusal :=
  match chooseDue s with
  | some c => exec c { s with choices := s.choices + 1 }
  | none => .next (tick s)

/-- One step: the front of the queue is taken and run with the queue's rest; an empty queue lets time pass. -/
def step (s : State) : Host.Outcome State Fault Refusal :=
  match s.pending with
  | c :: rest => exec c { s with pending := rest }
  | [] => idle s

/-- The state with the command that a word spells put at the front of its queue: the state itself, since no word spells
one (Decode.lean; log entry 17). -/
def State.withFetchWord (s : State) (nbits w : Nat) : State :=
  match decodeTableWord nbits w with
  | some c => { s with pending := c :: s.pending }
  | none => s

end Sys2Proof.Machine
end

