-- ==== Sys2Proof/Safety.lean ====
section
/-! DEFINITION. The laws a state of the FL-416 holds to: what the manual says of every instant, in the terms the claims
use. Each is a statement about one state; the claims say that State.reset meets it and that every step keeps it. -/

namespace Sys2Proof.Machine

open Sys2Proof

/-- The slot memories keep their canonical form: the emission queue's ring (R46) and the spot store (R70). -/
def MemoryLaw (s : State) : Prop := memWf s.em.queue.slots = true ∧ memWf s.store.memory = true

/-- The bounds on tables, queues and positions: the event queue holds at most 32 records and the sequence numbers stay
below 65,536 (R192, R193); the frame table at most 64 records (R48); the emission queue at most 65,536 cells, and its
positions and the records' first-cell positions are slots of the ring (R42, R46); the directory at most 48 entries
(R69); 64 continuity entries (R27) and four channels (section 9.1). -/
structure CapacityLaw (s : State) : Prop where
  events : s.mon.queue.length ≤ Config.eventQueueMax
  eventSeq : s.mon.eventSeq < 65536
  reportSeq : s.mon.reportSeq < 65536
  frames : s.em.table.length ≤ Config.frameTableMax
  occupancy : s.em.queue.occupancy ≤ Config.queueSlots
  nextFree : s.em.queue.nextFree < Config.queueSlots
  oldest : s.em.queue.oldest < Config.queueSlots
  firstSlots : ∀ r ∈ s.em.table, ∀ f, r.firstSlot = some f → f < Config.queueSlots
  directory : s.store.directory.length ≤ Config.directoryMax
  continuity : s.intake.continuity.length = 64
  channels : s.chans.chan.length = 4

/-- One reference's runs stay within the limits of R7. -/
def RefRecord.runsOk (r : RefRecord) : Prop := r.goodRun ≤ 4 ∧ r.badRun ≤ 2

/-- The time base: the grade is that of R19; U is that of R18 for the discipline state and never exceeds 10,000,000; the
error history holds at most eight magnitudes of at most 10,000 (R9, R13); the trim lies within ±1,000,000 (R11, R13)
and the trim carry below 10^11 (R1); the runs are within their limits (R7); and site time lies within the range of S
and F (R1), as the labels that set and step it do (R3). -/
structure TimeLaw (s : State) : Prop where
  grade : s.tb.grade = gradeOf s.tb.u s.tb.disc
  untracked : s.tb.disc = .unset ∨ s.tb.disc = .acquire → s.tb.u = Config.uMax
  tracking : s.tb.disc = .track → s.tb.u = trackU s.tb.history
  bounded : s.tb.u ≤ Config.uMax
  magnitudes : ∀ e ∈ s.tb.history, e ≤ 10000
  history : s.tb.history.length ≤ 8
  trim : -Config.trimMax ≤ s.tb.trim ∧ s.tb.trim ≤ Config.trimMax
  carry : s.tb.carry < Config.carryPart
  runsA : s.tb.refA.runsOk
  runsB : s.tb.refB.runsOk
  range : 0 ≤ s.tb.now ∧ s.tb.now < Config.timeWrap
  labelA : ∀ n, s.tb.refA.lastLabel = some n → n < 4294967296
  labelB : ∀ n, s.tb.refB.lastLabel = some n → n < 4294967296

/-- The emission states and the mute causes: the law of R56, with what it rests on. ON_AIR has an empty cause set (R57);
ON_AIR and MUTED occur with a VALID configuration alone (R56, R59); while a record is being loaded the state is STANDBY
(R63), and a read is in progress only then (R179); outside FAULT the TIME cause stands exactly while U exceeds the
emission limit (R60) and INHIBIT exactly while its line is active (R61); in STANDBY neither STARVE nor DISCARD_RUN
stands and the starve timer is stopped (R56). -/
structure AirLaw (s : State) : Prop where
  clean : s.em.state = .onAir → s.em.causes.isEmpty = true
  configured : s.em.state = .onAir ∨ s.em.state = .muted → s.sc.config = .valid
  loading : s.sc.config = .loading → s.em.state = .standby
  reading : s.sc.loader ≠ .waiting → s.sc.config = .loading
  time : s.em.state ≠ .fault → s.em.causes.time = decide (s.emissionLimit < s.tb.u)
  inhibit : s.em.state ≠ .fault → s.em.causes.inhibit = s.sc.inhibitLine
  standby : s.em.state = .standby → s.em.causes.starve = false ∧ s.em.causes.discardRun = false ∧ s.em.starve = none

/-- The law of the break table: at most eight records, no two with the same break id, and no two on the same service tag
with intersecting intervals (R90); and no record carries break id 0 (R86). -/
structure BreakTableLaw (s : State) : Prop where
  size : s.cues.table.length ≤ Config.breakTableMax
  ids : (s.cues.table.map BreakRecord.id).Nodup
  nonzero : ∀ r ∈ s.cues.table, r.id ≠ 0
  disjoint : s.cues.table.Pairwise fun a b => a.tag = b.tag → intersects a.cOut a.cIn b.cOut b.cIn = false

/-- The stances are current: an OPEN record holds no channel (R91) and carries the stance that the conditions give at
this instant (R137 to R140), and the own conditions of a DECIDED_GO record hold (R148). -/
structure AgreementLaw (s : State) : Prop where
  unbound : ∀ r ∈ s.cues.table, r.state = .openState → r.channel = none
  current : ∀ r ∈ s.cues.table, r.state = .openState → r.stance = stanceOf s r
  ready : ∀ r ∈ s.cues.table, r.state = .decidedGo →
    siteReason s = none ∧ allSatisfied s.store r.spotsNamed = true

/-- A record in a state in which a channel is bound to it (R158). -/
def BreakState.holdsChannel : BreakState → Bool
  | .decidedGo => true
  | .lockedGo => true
  | .airing => true
  | _ => false

/-- The law of the channels: a channel outside IDLE is bound to a record of the table that names it and is DECIDED_GO,
LOCKED_GO or AIRING, on that record's service tag; a record's bound channel is bound to it; and no two channels outside
IDLE are on one service tag (R158). -/
structure ChannelLaw (s : State) : Prop where
  idle : ∀ k < 4, ∀ c, s.chans.chan[k]? = some c → (c.bound = none ↔ c.state = .idle)
  bound : ∀ k < 4, ∀ c b, s.chans.chan[k]? = some c → c.bound = some b →
    ∃ r ∈ s.cues.table, r.id = b.id ∧ r.channel = some k ∧ r.state.holdsChannel = true ∧ c.tag = some r.tag
  reserved : ∀ r ∈ s.cues.table, ∀ k, r.channel = some k →
    k < 4 ∧ ∃ c b, s.chans.chan[k]? = some c ∧ c.bound = some b ∧ b.id = r.id
  tags : ∀ j < 4, ∀ k < 4, ∀ c d, s.chans.chan[j]? = some c → s.chans.chan[k]? = some d → j ≠ k →
    c.state ≠ .idle → d.state ≠ .idle → c.tag ≠ d.tag

/-- The page of the segment in assembly. -/
def SpotStore.capturePage (st : SpotStore) : List Nat :=
  match st.assembler with
  | .capture _ page _ _ => [page]
  | .idle => []
  | .skip _ => []

/-- The pages that an entry names, in ascending segment number. -/
def Entry.pages (e : Entry) : List Nat := e.segs.filterMap id

/-- The law of the pages: the pages named by directory entries, the page of the segment in assembly and the pages on
the free page list are the 8,192 pages, each in one place (R75). It rests on this: no two entries have one spot id
(R69), an entry's segment list has its segment count of items (R69), its pending-failure list holds no duplicates
(R78), and a segment in CAPTURE is a missing segment of an entry with its spot id and digest (R67). -/
structure PageLaw (s : State) : Prop where
  pages : (s.store.directory.flatMap Entry.pages ++ s.store.capturePage ++ s.store.freePages).Perm
    (List.range Config.storePages)
  ids : (s.store.directory.map fun e => e.spot.id).Nodup
  segments : ∀ e ∈ s.store.directory, e.segs.length = e.segCount
  pending : ∀ e ∈ s.store.directory, e.pending.Nodup
  capture : ∀ g page running check, s.store.assembler = .capture g page running check →
    ∃ e ∈ s.store.directory, e.spot = g.spot ∧ e.segs[g.segment]? = some none

/-- The records that a HOLD has taken: DECIDED_HOLD and LOCKED_HOLD (R149). -/
def BreakState.held : BreakState → Bool
  | .decidedHold => true
  | .lockedHold => true
  | _ => false

/-- The states that a held break never reaches: DECIDED_GO, LOCKED_GO and AIRING (R149). -/
def BreakState.goes : BreakState → Bool
  | .decidedGo => true
  | .lockedGo => true
  | .airing => true
  | _ => false

/-- Every law of a state together. -/
structure Lawful (s : State) : Prop where
  memory : MemoryLaw s
  capacity : CapacityLaw s
  time : TimeLaw s
  air : AirLaw s
  breaks : BreakTableLaw s
  agreement : AgreementLaw s
  channels : ChannelLaw s
  pages : PageLaw s

/-! ### What a claim asks of a command that comes in -/

/-- A mark of a fitted reference under the local window test, with a label and an error `e` from the boundary that the label
names: the reference's first in that window, and no mark taken within the 5,000,000 TU before it (R3 to R5, R9). -/
structure WindowMark (r : Ref) (label : Nat) (e : Int) (s : State) : Prop where
  fitted : s.fitted r = true
  test : localTest s.tb = true
  labelled : (s.tb.ref r).lastLabel = some label
  second : label < 4294967296
  instant : s.tb.now = label * 10000000 + e
  window : -10000 ≤ e ∧ e ≤ 10000
  range : 0 ≤ s.tb.now ∧ s.tb.now < Config.timeWrap
  first : (s.tb.ref r).windowMark ≠ some (label : Int)
  apart : takenLately s.tb = false

/-- A good cell taken with a VALID configuration and the feed RUNNING (R23, R24). -/
structure RunningCell (c : SiteConfig) (cell : Cell) (s : State) : Prop where
  size : cell.length = 240
  sync : cell.head? = some 0xB8
  valid : s.sc.config = .valid
  inUse : s.sc.inUse = some c
  running : s.intake.feed = .running

/-- A cell of a frame in assembly that has more to come, of the tag and the kind given (R28). -/
structure FrameCell (c : SiteConfig) (cell : Cell) (tag : Nat) (kind : CellKind) (a : Assembly) (s : State) : Prop where
  good : RunningCell c cell s
  assembly : s.intake.assembly = some a
  more : 2 ≤ a.remaining
  onTag : cellTag cell = tag
  ofKind : cellKind cell = kind

/-- A well-formed cue that matches the site, taken within a frame (R28, R85, R86). -/
structure CueTaken (c : SiteConfig) (cell : Cell) (action : CueAction) (s : State) : Prop where
  taken : ∃ a, FrameCell c cell c.controlTag .cue a s
  cue : ∃ zone mask, cueOf (cellBody cell) = some ⟨zone, mask, action⟩ ∧ zoneMatch c.zoneCode zone mask = true

/-- A message in reception that ends intact with the bytes given (R106). -/
structure IntactMessage (c : SiteConfig) (bytes : List Byte) (m : Reception) (s : State) : Prop where
  length : messageLengthOk bytes = true
  count : byteAt bytes 4 ≤ 8
  check : messageCheckOk bytes = true
  valid : s.sc.config = .valid
  inUse : s.sc.inUse = some c
  receiver : s.zone.receiver = .message m

/-- An intact message of a roster peer of the site's zone, which has a record (R125, R128). -/
structure PeerMessage (c : SiteConfig) (bytes : List Byte) (a : Announcement) (p : Peer) (s : State) : Prop where
  intact : ∃ m, IntactMessage c bytes m s
  formed : announcementOf bytes = some a
  zone : a.zoneCode = c.zoneCode
  other : a.site ≠ c.site
  roster : a.site ∈ s.ros.roster
  record : s.peer? a.site = some p

/-- The slot of the emission queue that CELL_TAKEN may write: a frame head is stored once the frame in assembly has ended
(R31, R34), and a frame cell at the next free slot (R42, R46). -/
def frameSlot (cell : Cell) (s : State) : Nat :=
  if isFrameHead cell then (endShort s).em.queue.nextFree else s.em.queue.nextFree

/-- The slot of the spot store that CELL_TAKEN may write: the next slot of the page in CAPTURE (R70). -/
def spotSlot (s : State) : Option Nat :=
  match s.store.assembler with
  | .capture g page _ _ => some (slotAddress page g.received)
  | .idle => none
  | .skip _ => none

end Sys2Proof.Machine
end

