-- ==== Sys2Proof/Certificates/Slice0/Obligations.lean ====
section
/-! DEFINITION. The statements for the provers. Each docstring names the rule of spec/ it formalises; the word 'next' in a
title means that exec answers a next state. -/

open Sys2Proof Sys2Proof.Machine

/-! ### The queue and the clock -/

/-- One step takes the command at the front of the queue and runs it with the queue's rest; on an empty queue it runs
one due event of the part's own timers, or lets one TU of the oscillator pass (the model's choice: log entries 3 and 9).
-/
def Obligations.StepTakesTheFrontCommand : Prop :=
  (∀ (c : Instr) (rest : List Instr) (s : State),
      step { s with pending := c :: rest } = exec c { s with pending := rest })
    ∧ (∀ (c : Instr) (s : State), s.pending = [] → chooseDue s = some c →
      step s = exec c { s with choices := s.choices + 1 })
    ∧ (∀ s : State, s.pending = [] → dueNow s = [] →
      step s = .next (State.wrapTime { s with osc := s.osc + 1, tb := s.tb.tick }))

/-- What commands leave alone: none changes the queue or the count of choices, and none but POWER_ON_RESET the
oscillator count; the commands that may change the time base, the record in use and the site lines are those named here;
and a change of a site line's level is not taken within 10 ms of the oscillator, 100,000 TU, of its last one or of
power-on (R186; the account of the last one is the model's: log entry 28). -/
def Obligations.OtherCommandsLeaveTheQueueTheClockAndTheLines : Prop :=
  (∀ (c : Instr) (s t : State), exec c s = .next t →
      t.pending = s.pending ∧ t.choices = s.choices ∧ (c ≠ .powerOnReset → t.osc = s.osc))
    ∧ (∀ (c : Instr) (s t : State), exec c s = .next t →
      ((match c with
        | .powerOnReset => false | .configReadComplete _ => false | .labelRecord _ _ => false | .markArrival _ => false
        | .missingVerdict _ => false | .secondBoundary => false | _ => true) = true → t.tb = s.tb)
      ∧ ((match c with | .powerOnReset => false | .configReadComplete _ => false | _ => true) = true →
        t.sc.inUse = s.sc.inUse)
      ∧ ((match c with | .powerOnReset => false | .inhibitChange _ => false | _ => true) = true →
        t.sc.inhibitLine = s.sc.inhibitLine ∧ t.sc.inhibitSince = s.sc.inhibitSince)
      ∧ ((match c with | .powerOnReset => false | .overrideChange _ => false | _ => true) = true →
        t.sc.overrideLine = s.sc.overrideLine ∧ t.sc.overrideSince = s.sc.overrideSince)
      ∧ ((match c with | .powerOnReset => false | .latchClear => false | .latchClearRelease => false | _ => true) = true →
        t.sc.latchClearLine = s.sc.latchClearLine ∧ t.sc.latchClearSince = s.sc.latchClearSince)
      ∧ ((match c with | .powerOnReset => false | .restart => false | .loadStart => false | _ => true) = true →
        t.sc.restartLine = s.sc.restartLine ∧ t.sc.restartSince = s.sc.restartSince))
    ∧ (∀ (active : Bool) (s : State),
      (s.osc < s.sc.inhibitSince + 100000 → exec (.inhibitChange active) s = .next s)
      ∧ (s.osc < s.sc.overrideSince + 100000 → exec (.overrideChange active) s = .next s)
      ∧ (s.osc < s.sc.latchClearSince + 100000 →
        exec .latchClear s = .next s ∧ exec .latchClearRelease s = .next s)
      ∧ (s.osc < s.sc.restartSince + 100000 → exec .restart s = .next s ∧ exec .loadStart s = .next s))

/-- R1: without a slew, `n` TU of the oscillator carry site time on by `n` and by the trim's whole parts, and the trim
carry keeps the rest: 10^11 times the advance beyond `n` is n × T, but for the carry at the start and at the end. R17: a
slew of k TU that has just begun adds k's parts to that: once site time would have advanced by `a` without it,
⌊a × |k| / 10,000,000⌋ of its |k| parts have been made, and its remainder is the rest. A TU changes nothing but the
oscillator count and the time base, unless S passes its maximum; S then returns to 0, and the events due after that TU
are those that would have been due had S counted on (the model's account of the times held: log entry 44). -/
def Obligations.TicksAccountForTheTrimAndTheSlew : Prop :=
  (∀ (n : Nat) (s : State), s.tb.slew = Slew.none → s.tb.carry < Config.carryPart →
      -Config.trimMax ≤ s.tb.trim → s.tb.trim ≤ Config.trimMax → 0 ≤ s.tb.now → s.tb.now + 2 * n < Config.timeWrap →
      let t := iter tick n s
      let extra := t.tb.now - s.tb.now - n
      t.osc = s.osc + n ∧ t.tb.trim = s.tb.trim ∧ t.tb.slew = Slew.none ∧ t.tb.carry < Config.carryPart
        ∧ s.tb.now ≤ t.tb.now
        ∧ (0 ≤ s.tb.trim → Config.carryPart * extra = n * s.tb.trim + s.tb.carry - t.tb.carry)
        ∧ (s.tb.trim < 0 → Config.carryPart * extra = n * s.tb.trim - s.tb.carry + t.tb.carry))
    ∧ (∀ (n : Nat) (k : Int) (s : State), s.tb.slew = ⟨k, 0, 0⟩ → 1 ≤ k.natAbs → k.natAbs ≤ 2500 → 0 ≤ s.tb.now →
      s.tb.now + 2 * n + 2500 < Config.timeWrap →
      let t := iter tick n s
      let free := iter tick n { s with tb := { s.tb with slew := Slew.none } }
      let parts := min k.natAbs ((free.tb.now - s.tb.now).toNat * k.natAbs / 10000000)
      t.tb.now = free.tb.now + k.sign * parts ∧ t.tb.slew.remainder = k - k.sign * parts ∧ s.tb.now ≤ t.tb.now
        ∧ t.tb.carry = free.tb.carry ∧ t.tb.trim = s.tb.trim)
    ∧ (∀ s : State, let counted : State := { s with osc := s.osc + 1, tb := s.tb.tick }
      (0 ≤ s.tb.tick.now → s.tb.tick.now < Config.timeWrap → tick s = counted)
      ∧ (Config.timeWrap ≤ s.tb.tick.now →
        (tick s).tb.now = s.tb.tick.now - Config.timeWrap ∧ dueNow (tick s) = dueNow counted))

/-! ### Reset -/

/-- POWER_ON_RESET completes in every state and gives the items of R21, R45, R63, R83, R101, R118, R135, R157 and R178
their values after power-on; no event is raised. The values that no table of the spec gives (of feed intake, site
control and the monitor port, the pass count, the oscillator count) are the model's (log entries 14 and 41). The queue
of commands, the count of choices and the level of the receive line are left (log entry 16). -/
def Obligations.PowerOnResetGivesEveryBlockItsValues : Prop :=
  ∀ s : State, ∃ t, exec .powerOnReset s = .next t
    ∧ (t.tb.now = 0 ∧ t.tb.trim = 0 ∧ t.tb.carry = 0 ∧ t.tb.disc = .unset ∧ t.tb.tracked = false
      ∧ t.tb.selected = none ∧ t.tb.acquireRun = 0 ∧ t.tb.excessRun = 0 ∧ t.tb.history = [] ∧ t.tb.u = 10000000
      ∧ t.tb.grade = .d ∧ t.tb.slew.remainder = 0 ∧ t.tb.lastTaken = none ∧ t.tb.announced = none
      ∧ t.tb.stepCount = 0 ∧ t.fitted .a = true ∧ t.fitted .b = true ∧ t.growth = 2)
    ∧ (∀ r : Ref, (t.tb.ref r).valid = false ∧ (t.tb.ref r).goodRun = 0 ∧ (t.tb.ref r).badRun = 0
      ∧ (t.tb.ref r).lastMark = none ∧ (t.tb.ref r).lastLabel = none ∧ (t.tb.ref r).goodMarks = 0
      ∧ (t.tb.ref r).badMarks = 0 ∧ (t.tb.ref r).missingMarks = 0 ∧ (t.tb.ref r).badLabels = 0)
    ∧ t.intake = Intake.reset ∧ t.intake.feed = .lost ∧ t.intake.assembly = none
    ∧ (t.em.table = [] ∧ t.em.queue.occupancy = 0 ∧ t.em.queue.high = false ∧ t.em.current = none
      ∧ t.em.nextCell = none ∧ t.em.state = .standby ∧ t.em.starve = none ∧ t.em.discardRun = 0
      ∧ t.em.releaseRun = 0 ∧ t.em.causes = ⟨true, false, false, false⟩ ∧ t.em.carrier = false
      ∧ t.em.transfer = none ∧ t.em.counters = ⟨0, 0, 0, 0, 0, 0, 0⟩ ∧ t.em.queue.oldest = 0 ∧ t.em.queue.nextFree = 0)
    ∧ (t.store.directory = [] ∧ t.store.freePages = List.range 8192 ∧ t.store.checkQueue = []
      ∧ t.store.check = none ∧ t.store.assembler = .idle ∧ t.store.counters = StoreCounters.zero)
    ∧ t.cues = CueDecoder.reset ∧ t.cues.table = []
    ∧ (t.zone.line = .idle ∧ t.zone.receiver = .off ∧ t.zone.slot = none ∧ t.zone.flight = none
      ∧ t.zone.echo = .closed ∧ t.zone.schedule = none ∧ t.zone.idleSince = none ∧ t.zone.busySince = none
      ∧ t.zone.counters = ⟨0, 0, 0, 0, 0, 0, 0, 0, 0, 0, 0, 0⟩)
    ∧ (t.ros.roster = [] ∧ t.ros.quorum = none ∧ t.ros.peers = [] ∧ t.ros.duplicate = false ∧ t.ros.malformed = 0
      ∧ t.ros.otherZone = 0 ∧ t.ros.strangers = 0 ∧ t.ros.ownEchoes = 0 ∧ t.ros.duplicates = 0)
    ∧ t.agree = AgreementCounters.zero
    ∧ (t.chans.chan = List.replicate 4 Channel.reset ∧ t.chans.lastPass = none ∧ t.chans.lastGap = none
      ∧ t.chans.passCount = 0)
    ∧ t.osc = 0 ∧ t.sc = SiteControl.reset ∧ t.mon = Monitor.reset
    ∧ t.pending = s.pending ∧ t.choices = s.choices ∧ t.zone.rxLevel = s.zone.rxLevel

/-- RESTART (R22, R45, R63, R84, R102, R136, R157, R178, R186, R188): once the line's first level has been taken, its
active level returns every block but the time base to its state after reset; the duplicate latch and the record in
transmission stay, and so does every COMPLETE and VERIFIED spot that has no pending failure and is not expire-pending;
the spot of an aborted check goes to the back of the check queue, whose front is checked next. The first level after
power-on holds the loader alone (R179). The level of the receive line (log entry 16), the loader WAITING (log entry 27),
the 10 ms between levels as counted (log entry 28) and the report span that goes on (log entry 41) are the model's
choice. -/
def Obligations.RestartKeepsTimeSpotsAndDuplicateLatch : Prop :=
  ∀ s : State, s.sc.restartLine = false → s.sc.restartSince + 100000 ≤ s.osc →
    (s.sc.restartTaken = false → exec .restart s = .next { s with sc := { s.sc with
        restartLine := true
        restartTaken := true
        restartSince := s.osc } })
    ∧ (s.sc.restartTaken = true → ∃ t, exec .restart s = .next t
      ∧ t.tb = s.tb ∧ t.osc = s.osc ∧ t.ros = PeerRoster.resetAt s.ros.duplicate ∧ t.intake = Intake.reset
      ∧ t.em = Emission.resetWith ⟨decide (s.emissionLimit < s.tb.u), s.sc.inhibitLine, false, false⟩
      ∧ t.cues = CueDecoder.reset ∧ t.zone = ZoneLine.resetAt s.zone.rxLevel ∧ t.agree = AgreementCounters.zero
      ∧ t.chans = Channels.reset
      ∧ t.mon = { Monitor.reset with sending := s.mon.sending, lastReport := s.mon.lastReport }
      ∧ (t.sc.config = .loading ∧ t.sc.loader = .waiting ∧ t.sc.faultCause = none ∧ t.sc.inUse = s.sc.inUse
        ∧ t.sc.restartLine = true ∧ t.sc.inhibitLine = s.sc.inhibitLine ∧ t.sc.overrideLine = s.sc.overrideLine)
      ∧ (t.sc.latchAir = false ∧ t.sc.latchTime = false ∧ t.sc.latchSplit = false
        ∧ t.sc.latchFault = (s.sc.latchFault && s.ros.duplicate))
      ∧ t.store.memory = s.store.memory ∧ t.store.assembler = .idle
      ∧ (∀ e ∈ t.store.directory, e.state ≠ .filling ∧ e.expirePending = false ∧ e.prot = 0 ∧ e.freeze = 0)
      ∧ (s.store.ids.Nodup → ∀ e ∈ s.store.directory, e.pending = [] → e.expirePending = false →
        (e.state = .complete ∨ e.state = .verified ∨ e.state = .checking ∧ s.store.inCheck e.spot.id = true) →
        ∃ e' ∈ t.store.directory, e'.spot = e.spot ∧ e'.segs = e.segs ∧ e'.lastCells = e.lastCells
          ∧ e'.expiry = e.expiry
          ∧ (e.state ≠ .verified → e'.state = .complete ∨ e'.state = .checking)
          ∧ (e.state = .verified → e.spot.id ∉ s.store.checkQueue → e'.state = .verified))
      ∧ (s.store.ids.Nodup → (∀ e ∈ s.store.directory, e.state ≠ .filling ∧ e.pending = [] ∧ e.expirePending = false) →
        (∀ x, s.store.check = some x → ∃ e, s.store.entry? x.spotId = some e ∧ e.state = .checking) →
        let queue := s.store.checkQueue ++ (s.store.check.map CheckInFlight.spotId).toList
        (∀ id ∈ queue, ∃ e, s.store.entry? id = some e) →
        t.store.checkQueue = queue.tail ∧ t.store.check.map CheckInFlight.spotId = queue.head?
          ∧ t.store.freePages = s.store.freePages ++ s.store.capturePage))

/-! ### Chapter 1: the time base -/

/-- LABEL_RECORD completes for every record of 6 bytes (R3): a fitted reference takes a label whose CRC-16 holds as its
last label and counts one whose check fails; a port that is not fitted takes none. -/
def Obligations.LabelRecordIsTakenOrCounted : Prop :=
  ∀ (r : Ref) (record : List Byte) (s : State), record.length = 6 →
    exec (.labelRecord r record) s = .next (
      if s.fitted r = false then s
      else if crc16 (record.take 4) = BitVec.ofNat 16 (numAt record 4 2) then
        { s with tb := s.tb.updateRef r fun x => { x with lastLabel := some (numAt record 0 4) } }
      else { s with tb := s.tb.updateRef r fun x => { x with badLabels := min (x.badLabels + 1) 4294967295 } })

/-- MARK_ARRIVAL (R2 to R5, R7 to R10). Under the mark-to-mark test a mark with its label becomes the last mark, and the
next is expected one second later with the next label; one without a label leaves neither; and the label is used up.
With no last mark the verdict is start, and nothing else changes. A mark off the expected instant or label is bad; so
is, under the local window test, one outside every window, one that is not its window's first, and one whose label is
absent or not the window's (the account of the window: log entry 11). A bad mark is counted, adds 1 to the bad run,
clears the good run and changes nothing else; but the second in a row of the VALID selected reference makes it INVALID:
the other is selected if VALID, and otherwise none, T and site time being kept. In UNSET, the fourth good mark in a row
of a reference, with the other INVALID and no mark taken within the 5,000,000 TU before it: the reference is VALID and
selected, site time becomes the label's second, the state ACQUIRE, the second is announced, T is kept, and no step is
counted. -/
def Obligations.MarksInUnsetStartAndSetTime : Prop :=
  let noted := fun (now : Time) (x : RefRecord) => { x with
    lastMark := x.lastLabel.map fun n => (now, n)
    expected := x.lastLabel.map fun n => (now + 10000000, (n + 1) % 4294967296)
    lastLabel := none }
  let bad := fun x : RefRecord => { x with
    badMarks := min (x.badMarks + 1) 4294967295
    badRun := min (x.badRun + 1) 2
    goodRun := 0
    lastLabel := none }
  let inside := fun (b : Int) (now : Time) => b * 10000000 - 10000 ≤ now ∧ now ≤ b * 10000000 + 10000
  let refused := fun (b : Int) (x : RefRecord) =>
    x.windowMark = some b ∨ ¬∃ n : Nat, x.lastLabel = some n ∧ (n : Int) = b % 4294967296
  (∀ (r : Ref) (s : State), s.fitted r = true → localTest s.tb = false →
      ((s.tb.ref r).lastMark = none → exec (.markArrival r) s = .next { s with tb := s.tb.updateRef r (noted s.tb.now) })
      ∧ ((s.tb.ref r).lastMark.isSome = true → (s.tb.ref r).valid = false ∨ (s.tb.ref r).badRun = 0 →
        (¬∃ at_ n, (s.tb.ref r).expected = some (at_, n) ∧ at_ - 10000 ≤ s.tb.now ∧ s.tb.now ≤ at_ + 10000
          ∧ (s.tb.ref r).lastLabel = some n) →
        exec (.markArrival r) s = .next { s with tb := s.tb.updateRef r fun x => bad (noted s.tb.now x) }))
    ∧ (∀ (r : Ref) (s : State), s.fitted r = true → localTest s.tb = true →
      (s.tb.ref r).valid = false ∨ (s.tb.ref r).badRun = 0 →
      ((∀ b, ¬inside b s.tb.now) → exec (.markArrival r) s = .next { s with tb := s.tb.updateRef r bad })
      ∧ ∀ b, inside b s.tb.now → refused b (s.tb.ref r) →
        exec (.markArrival r) s = .next { s with tb := s.tb.updateRef r fun x => { bad x with
          windowMark := some b
          windowClosed := b } })
    ∧ (∀ (r q : Ref) (s : State), s.fitted r = true → localTest s.tb = true → (s.tb.ref r).valid = true →
      (s.tb.ref r).badRun = 1 → s.tb.selected = some r → q ≠ r →
      ((∀ b, ¬inside b s.tb.now) ∨ ∃ b, inside b s.tb.now ∧ refused b (s.tb.ref r)) →
      ∃ t, exec (.markArrival r) s = .next t ∧ (t.tb.ref r).valid = false ∧ (t.tb.ref r).badRun = 2
        ∧ (t.tb.ref r).goodRun = 0 ∧ (t.tb.ref r).badMarks = min ((s.tb.ref r).badMarks + 1) 4294967295
        ∧ ((s.tb.ref q).valid = true → t.tb.selected = some q ∧ t.tb.disc = s.tb.disc)
        ∧ ((s.tb.ref q).valid = false → t.tb.selected = none ∧ (s.tb.disc = .track → t.tb.disc = .holdover))
        ∧ t.tb.now = s.tb.now ∧ t.tb.trim = s.tb.trim ∧ t.intake = s.intake ∧ t.store.memory = s.store.memory)
    ∧ (∀ (r : Ref) (n : Nat) (at_ : Time) (s : State), s.fitted r = true → s.tb.disc = .unset →
      s.tb.selected = none → (s.tb.ref r).valid = false → (s.tb.ref r).goodRun = 3 →
      (∀ q, q ≠ r → (s.tb.ref q).valid = false) →
      (s.tb.ref r).lastMark.isSome = true → (s.tb.ref r).expected = some (at_, n) → (s.tb.ref r).lastLabel = some n →
      at_ - 10000 ≤ s.tb.now → s.tb.now ≤ at_ + 10000 → takenLately s.tb = false → s.tb.announced = none →
      s.tb.grade = .d → n < 4294967296 →
      ∃ t, exec (.markArrival r) s = .next t ∧ t.tb.now = n * 10000000 ∧ t.tb.disc = .acquire ∧ t.tb.acquireRun = 0
        ∧ t.tb.announced = some (n : Int) ∧ t.tb.trim = s.tb.trim ∧ t.tb.stepCount = s.tb.stepCount
        ∧ t.tb.u = s.tb.u ∧ t.tb.grade = .d ∧ t.tb.lastTaken = some ((n : Int) * 10000000)
        ∧ t.tb.selected = some r ∧ (t.tb.ref r).valid = true ∧ (t.tb.ref r).goodRun = 4 ∧ (t.tb.ref r).badRun = 0
        ∧ (t.tb.ref r).goodMarks = min ((s.tb.ref r).goodMarks + 1) 4294967295
        ∧ t.intake = s.intake ∧ t.sc.inUse = s.sc.inUse ∧ t.store.memory = s.store.memory)

/-- MARK_ARRIVAL in ACQUIRE, and in TRACK with |e| at most 100 (R2, R5, R7, R9, R11, R13, R16 to R19): a mark of the
selected reference that the window test finds good. In ACQUIRE T moves by −2,500 × e, clamped. With |e| above 10 site
time is stepped to the label's second, the step is counted, no slew remains and the acquire run becomes 0; with |e| at
most 10 site time is kept and the run rises, and its eighth mark enters TRACK, the history holding |e| alone and U being
|e| plus 1. No second is announced twice. In TRACK T moves by −200 × e, clamped; a slew of −trunc(e / 4) begins, or the
remainder stays where that is 0; |e| joins the error history, at most eight long; U is its greatest value plus 1. -/
def Obligations.MarksInAcquireAndTrackDiscipline : Prop :=
  (∀ (r : Ref) (n : Nat) (e : Int) (s : State), WindowMark r n e s → s.tb.disc = .acquire → s.tb.selected = some r →
      (s.tb.ref r).valid = true →
      ∃ t, exec (.markArrival r) s = .next t ∧ t.tb.trim = max (-1000000) (min 1000000 (s.tb.trim - 2500 * e))
        ∧ (10 < e.natAbs → t.tb.now = n * 10000000 ∧ t.tb.disc = .acquire ∧ t.tb.acquireRun = 0
          ∧ t.tb.slew = Slew.none ∧ t.tb.stepCount = min (s.tb.stepCount + 1) 4294967295 ∧ t.tb.u = s.tb.u)
        ∧ (e.natAbs ≤ 10 → t.tb.now = s.tb.now ∧ t.tb.acquireRun = s.tb.acquireRun + 1 ∧ t.tb.slew = s.tb.slew
          ∧ t.tb.stepCount = s.tb.stepCount
          ∧ (s.tb.acquireRun ≠ 7 → t.tb.disc = .acquire ∧ t.tb.history = s.tb.history ∧ t.tb.u = s.tb.u
            ∧ t.tb.tracked = s.tb.tracked)
          ∧ (s.tb.acquireRun = 7 → t.tb.disc = .track ∧ t.tb.history = [e.natAbs] ∧ t.tb.u = e.natAbs + 1
            ∧ t.tb.tracked = true ∧ t.tb.excessRun = 0 ∧ t.tb.grade = gradeOf (e.natAbs + 1) .track))
        ∧ (∀ m, s.tb.announced = some m → t.tb.announced = some (max m (secondOf t.tb.now)))
        ∧ t.tb.lastTaken = some t.tb.now ∧ t.tb.selected = some r
        ∧ t.intake = s.intake ∧ t.sc.inUse = s.sc.inUse ∧ t.store.memory = s.store.memory)
    ∧ (∀ (r : Ref) (n : Nat) (e : Int) (s : State), WindowMark r n e s → s.tb.disc = .track → s.tb.selected = some r →
      (s.tb.ref r).valid = true → -100 ≤ e → e ≤ 100 → s.tb.history.length ≤ 8 →
      ∃ t, exec (.markArrival r) s = .next t ∧ t.tb.disc = .track ∧ t.tb.now = s.tb.now ∧ t.tb.excessRun = 0
        ∧ t.tb.trim = max (-1000000) (min 1000000 (s.tb.trim - 200 * e))
        ∧ t.tb.slew = (if e.tdiv 4 = 0 then s.tb.slew else ⟨-(e.tdiv 4), 0, 0⟩)
        ∧ t.tb.history = (s.tb.history ++ [e.natAbs]).drop (s.tb.history.length - 7)
        ∧ t.tb.u = t.tb.history.foldl max 0 + 1 ∧ t.tb.grade = gradeOf t.tb.u .track
        ∧ t.tb.lastTaken = some s.tb.now ∧ t.tb.stepCount = s.tb.stepCount
        ∧ (t.tb.ref r).goodMarks = min ((s.tb.ref r).goodMarks + 1) 4294967295 ∧ (t.tb.ref r).badRun = 0
        ∧ t.intake = s.intake ∧ t.sc.inUse = s.sc.inUse ∧ t.store.memory = s.store.memory)

/-- MARK_ARRIVAL with the window test in HOLDOVER, and in TRACK with |e| above 100 (R7 to R9, R13, R15 to R20). The
fourth good mark in a row of a reference, the other INVALID, ends HOLDOVER: with |e| at most 100 in TRACK, as a TRACK
mark from an empty history; with more, in ACQUIRE. The third mark in a row with |e| above 100 takes TRACK to ACQUIRE
too; one before it is counted and handled as a TRACK mark. An entry to ACQUIRE steps site time to the label's second,
counts the step, keeps T, empties slew, runs and history, and gives U 10,000,000 and grade D. -/
def Obligations.MarksEndHoldoverAndExcessErrorsEndTrack : Prop :=
  let acquires := fun (n : Nat) (s t : State) =>
    t.tb.disc = .acquire ∧ t.tb.now = n * 10000000 ∧ t.tb.trim = s.tb.trim ∧ t.tb.slew = Slew.none
      ∧ t.tb.acquireRun = 0 ∧ t.tb.excessRun = 0 ∧ t.tb.history = [] ∧ t.tb.u = 10000000 ∧ t.tb.grade = .d
      ∧ t.tb.stepCount = min (s.tb.stepCount + 1) 4294967295 ∧ (s.tb.grade ≠ .d → t.sc.latchTime = true)
  let tracks := fun (e : Int) (history : List Nat) (s t : State) =>
    t.tb.disc = .track ∧ t.tb.now = s.tb.now ∧ t.tb.trim = max (-1000000) (min 1000000 (s.tb.trim - 200 * e))
      ∧ t.tb.slew = (if e.tdiv 4 = 0 then s.tb.slew else ⟨-(e.tdiv 4), 0, 0⟩) ∧ t.tb.history = history
      ∧ t.tb.u = history.foldl max 0 + 1 ∧ t.tb.grade = gradeOf t.tb.u .track ∧ t.tb.stepCount = s.tb.stepCount
  let leaves := fun (s t : State) =>
    t.intake = s.intake ∧ t.sc.inUse = s.sc.inUse ∧ t.store.memory = s.store.memory
  (∀ (r : Ref) (n : Nat) (e : Int) (s : State), WindowMark r n e s → s.tb.disc = .holdover → s.tb.selected = none →
      (s.tb.ref r).valid = false → (s.tb.ref r).goodRun = 3 → (∀ q, q ≠ r → (s.tb.ref q).valid = false) →
      ∃ t, exec (.markArrival r) s = .next t ∧ (t.tb.ref r).valid = true ∧ t.tb.selected = some r ∧ leaves s t
        ∧ (e.natAbs ≤ 100 → tracks e [e.natAbs] s t ∧ t.tb.excessRun = 0) ∧ (100 < e.natAbs → acquires n s t))
    ∧ (∀ (r : Ref) (n : Nat) (e : Int) (s : State), WindowMark r n e s → s.tb.disc = .track →
      s.tb.selected = some r → (s.tb.ref r).valid = true → 100 < e.natAbs → s.tb.history.length ≤ 8 →
      ∃ t, exec (.markArrival r) s = .next t ∧ leaves s t
        ∧ (s.tb.excessRun = 2 → acquires n s t)
        ∧ (s.tb.excessRun ≠ 2 → t.tb.excessRun = s.tb.excessRun + 1
          ∧ tracks e ((s.tb.history ++ [e.natAbs]).drop (s.tb.history.length - 7)) s t))

/-- MISSING_VERDICT (R6 to R8, R12 to R14, R20). A reference whose validity the verdict does not change counts it, adds
1 to the bad run and clears the good run; under the mark-to-mark test its expected instant and label advance by one
second; and nothing else changes but the window judged (the model's account of it: log entry 11). The second missing
mark in a row of the selected reference makes it INVALID. With the other VALID that one is selected, and ACQUIRE sets
its run to 0. With none VALID, TRACK, and ACQUIRE once TRACK has been reached since power-on, go to HOLDOVER: T, U, the
slew and site time are kept, the error history is emptied and the TIME latch is set; ACQUIRE otherwise goes to UNSET,
with no second announced. -/
def Obligations.MissingMarksCountAndEndInHoldoverOrUnset : Prop :=
  let holds := fun (s t : State) =>
    t.tb.selected = none ∧ t.tb.disc = .holdover ∧ t.tb.u = s.tb.u ∧ t.tb.uEntry = s.tb.u ∧ t.tb.holdSeconds = 0
      ∧ t.tb.history = [] ∧ t.tb.excessRun = 0 ∧ t.sc.latchTime = true
  (∀ (r : Ref) (s : State), missingDue r s = true → (s.tb.ref r).valid = false ∨ (s.tb.ref r).badRun = 0 →
      exec (.missingVerdict r) s = .next { s with tb := s.tb.updateRef r fun x => { x with
        badRun := min (x.badRun + 1) 2
        goodRun := 0
        missingMarks := min (x.missingMarks + 1) 4294967295
        windowClosed := if localTest s.tb then (s.tb.now - 10000) / 10000000 else x.windowClosed
        expected := if localTest s.tb then x.expected
          else x.expected.map fun p => (p.1 + 10000000, (p.2 + 1) % 4294967296) } })
    ∧ (∀ (r q : Ref) (s : State), missingDue r s = true → q ≠ r → (s.tb.ref r).valid = true → (s.tb.ref r).badRun = 1 →
      s.tb.selected = some r → s.tb.disc = .track ∨ s.tb.disc = .acquire →
      ∃ t, exec (.missingVerdict r) s = .next t ∧ (t.tb.ref r).valid = false ∧ (t.tb.ref r).badRun = 2
        ∧ t.tb.trim = s.tb.trim ∧ t.tb.slew = s.tb.slew ∧ t.tb.now = s.tb.now ∧ t.intake = s.intake
        ∧ ((s.tb.ref q).valid = true → t.tb.selected = some q ∧ t.tb.disc = s.tb.disc ∧ t.tb.history = s.tb.history
          ∧ t.tb.excessRun = s.tb.excessRun ∧ (s.tb.disc = .acquire → t.tb.acquireRun = 0))
        ∧ ((s.tb.ref q).valid = false → s.tb.disc = .track ∨ s.tb.tracked = true → holds s t)
        ∧ ((s.tb.ref q).valid = false → s.tb.disc = .acquire → s.tb.tracked = false →
          t.tb.selected = none ∧ t.tb.disc = .unset ∧ t.tb.announced = none ∧ t.tb.u = s.tb.u)
        ∧ ((s.tb.ref q).valid = false → s.tb.disc = .track → s.tb.grade = gradeOf s.tb.u .track →
          t.tb.grade = s.tb.grade ∧ t.em = s.em ∧ t.cues = s.cues ∧ t.store = s.store ∧ t.chans = s.chans))

/-- SECOND_BOUNDARY (R2, R18, R81, R115, R193): when a new second has come, it is announced; in HOLDOVER U grows by H,
at most to 10,000,000, and the grade follows; every entry whose expiry is at or below the second is gone or
expire-pending, and every entry that is neither expired nor expire-pending is kept; a schedule that has not started
starts at the second, in the phase of the site's number, if the configuration is VALID; and a site report falls due.
That the report comes last, so that nothing is lost after it at that instant, is the model's choice (log entry 25). -/
def Obligations.SecondBoundaryActsOnItsFourConsumers : Prop :=
  ∀ s : State, boundaryDue s = true → s.store.ids.Nodup → s.tb.grade = gradeOf s.tb.u s.tb.disc →
    ∃ t, exec .secondBoundary s = .next t ∧ t.tb.announced = some (secondOf s.tb.now)
      ∧ t.tb.now = s.tb.now ∧ t.tb.disc = s.tb.disc ∧ t.tb.trim = s.tb.trim
      ∧ t.tb.u = (if s.tb.disc = .holdover then min (s.tb.u + s.growth) 10000000 else s.tb.u)
      ∧ t.tb.grade = gradeOf t.tb.u t.tb.disc
      ∧ (∀ e ∈ t.store.directory, (e.expiry : Int) ≤ secondOf s.tb.now → e.expirePending = true)
      ∧ (∀ e ∈ s.store.directory, secondOf s.tb.now < (e.expiry : Int) → e.expirePending = false →
          ∃ e' ∈ t.store.directory, e'.spot = e.spot)
      ∧ (∀ c, s.sc.config = .valid → s.sc.inUse = some c → s.zone.schedule = none →
          t.zone.schedule = some (secondOf s.tb.now * 10000000 + c.site * (c.period * 6250)))
      ∧ (∀ due, s.zone.schedule = some due → t.zone.schedule = some due)
      ∧ (s.sc.config ≠ .valid → t.zone.schedule = s.zone.schedule)
      ∧ t.mon.reportSeq = (s.mon.reportSeq + 1) % 65536 ∧ t.mon.lostSince = 0 ∧ t.mon.lastReport = s.osc
      ∧ t.intake = s.intake ∧ t.store.memory = s.store.memory

/-! ### Chapter 2: feed intake -/

/-- R38 whole: the four steps of stamp resolution give the one zone emission time within half a wrap of the arrival that
has the stamp's position in the wrap. -/
def Obligations.StampResolutionPicksTheNearestWrap : Prop :=
  ∀ (arrival : Time) (s f : Nat), s < 1024 → f ≤ 9999999 →
    let w := arrival % 10240000000
    let d0 := (s : Int) * 10000000 + f - w
    let d := if d0 < -5120000000 then d0 + 10240000000 else if d0 ≥ 5120000000 then d0 - 10240000000 else d0
    w = secondOf arrival % 1024 * 10000000 + fractionOf arrival
      ∧ -5120000000 ≤ d ∧ d < 5120000000
      ∧ resolveStamp arrival s f = arrival + d
      ∧ resolveStamp arrival s f % 10240000000 = (s : Int) * 10000000 + f

/-- RUNT_CELL and CELL_TAKEN at the framing level (R23, R24, R26, R27, R35): a runt and a cell without the sync value
are framing errors and change nothing else; a good cell taken while the configuration is not VALID is counted as an
outside-frame cell and dropped, and so is one other than a frame head taken while the feed is LOST; a good cell taken
while RUNNING with no frame in assembly, no frame head, is an extra cell. Every good cell taken while VALID is tracked:
its tag's expectation becomes its count plus 1 modulo 16, a discontinuity is counted under its tag, and no other tag
changes. The byte count after a runt is the model's choice (log entry 4). -/
def Obligations.CellsAreFramedCountedAndTracked : Prop :=
  (∀ s : State, exec .runtCell s = .next { s with intake := { s.intake with
      reception := some 1
      counters := { s.intake.counters with framing := min (s.intake.counters.framing + 1) 4294967295 } } })
    ∧ (∀ (cell : Cell) (s : State), cell.length = 240 → cell.head? ≠ some 0xB8 →
      exec (.cellTaken cell) s = .next { s with intake := { s.intake with
        reception := none
        counters := { s.intake.counters with framing := min (s.intake.counters.framing + 1) 4294967295 } } })
    ∧ (∀ (cell : Cell) (s : State), cell.length = 240 → cell.head? = some 0xB8 → s.sc.config ≠ .valid →
      exec (.cellTaken cell) s = .next { s with intake := { s.intake with
        reception := none
        counters := { s.intake.counters with outside := min (s.intake.counters.outside + 1) 4294967295 } } })
    ∧ (∀ (c : SiteConfig) (cell : Cell) (s : State), cell.length = 240 → cell.head? = some 0xB8 → s.sc.config = .valid →
      s.sc.inUse = some c → s.intake.feed = .lost → isFrameHead cell = false →
      ∃ t, exec (.cellTaken cell) s = .next t ∧ { t with intake := s.intake } = s
        ∧ t.intake = { s.intake with
          reception := none
          continuity := t.intake.continuity
          counters := { s.intake.counters with outside := min (s.intake.counters.outside + 1) 4294967295 } })
    ∧ (∀ (c : SiteConfig) (cell : Cell) (s : State), RunningCell c cell s → isFrameHead cell = false →
      s.intake.assembly = none →
      ∃ t, exec (.cellTaken cell) s = .next t ∧ { t with intake := s.intake } = s
        ∧ t.intake = { s.intake with
          reception := none
          lossTimer := some (s.tb.now + c.feedLossMs * 10000)
          lastGood := some s.tb.now
          continuity := t.intake.continuity
          counters := { s.intake.counters with extra := min (s.intake.counters.extra + 1) 4294967295 } })
    ∧ (∀ (c : SiteConfig) (cell : Cell) (s t : State), cell.length = 240 → cell.head? = some 0xB8 →
      s.sc.config = .valid → s.sc.inUse = some c → exec (.cellTaken cell) s = .next t →
      (∀ k, s.intake.continuity[cellTag cell]? = some k → t.intake.continuity[cellTag cell]? = some
        ⟨some ((cellCount cell + 1) % 16),
          if k.expect = none ∨ k.expect = some (cellCount cell) then k.breaks else min (k.breaks + 1) 4294967295⟩)
      ∧ (∀ i, i ≠ cellTag cell → t.intake.continuity[i]? = s.intake.continuity[i]?))

/-- CELL_TAKEN with a well-formed head that passes every check of R40 (R31, R38 to R42): the frame joins the table at
its newest end as ASSEMBLING with C, E, Q and L of R38 and R39, its head stands in the next free slot of the queue, and
it is the frame in assembly. The high flag rises at the almost-full threshold, and its rise is reported (R47). No other
slot and no spot changes. -/
def Obligations.AcceptedFrameHeadIsStored : Prop :=
  ∀ (c : SiteConfig) (cell : Cell) (s : State), cell.length = 240 → cell.head? = some 0xB8 →
    s.sc.config = .valid → s.sc.inUse = some c → s.intake.feed = .running → s.intake.assembly = none →
    isFrameHead cell = true → (frameHeadOf (cellBody cell)).ok = true →
    s.tb.disc ≠ .unset → s.tb.disc ≠ .acquire → s.em.table.length < 64 →
    (∀ r ∈ s.em.table, r.number ≠ (frameHeadOf (cellBody cell)).number) → s.em.queue.occupancy < 65536 →
    let h := frameHeadOf (cellBody cell)
    let zone := resolveStamp s.tb.now h.stampS h.stampF
    let q := zone + c.offset - c.latency
    c.lmin ≤ q - s.tb.now → q - s.tb.now ≤ c.lmax → (∀ last, s.intake.lastAccepted = some last → last < q) →
    ∃ t, exec (.cellTaken cell) s = .next t
      ∧ t.em.table = s.em.table ++ [{
          number := h.number, c := zone, e := zone + c.offset, q := q, lead := q - s.tb.now, declared := h.declared,
          taken := 0, counts := c.routing.map fun tag => (tag, 0), status := .pending, state := .assembling,
          firstSlot := some s.em.queue.nextFree, slotsHeld := 1, sent := 0, consumed := 0, cut := 0 }]
      ∧ memRead t.em.queue.slots s.em.queue.nextFree = some cell
      ∧ (∀ a, a ≠ s.em.queue.nextFree → memRead t.em.queue.slots a = memRead s.em.queue.slots a)
      ∧ t.em.queue.occupancy = s.em.queue.occupancy + 1
      ∧ t.em.queue.nextFree = (s.em.queue.nextFree + 1) % 65536 ∧ t.em.queue.oldest = s.em.queue.oldest
      ∧ t.em.queue.high = (s.em.queue.high || decide (c.almostFull ≤ s.em.queue.occupancy + 1))
      ∧ t.mon = (if s.em.queue.high = false ∧ c.almostFull ≤ s.em.queue.occupancy + 1
        then (raise (.queueHigh (s.em.queue.occupancy + 1)) s).mon else s.mon)
      ∧ t.intake.lastAccepted = some q ∧ t.intake.assembly = some ⟨some h.number, h.declared⟩
      ∧ t.intake.lossTimer = some (s.tb.now + c.feedLossMs * 10000)
      ∧ t.em.state = s.em.state ∧ t.store = s.store ∧ t.cues = s.cues ∧ t.tb = s.tb ∧ t.chans = s.chans

/-- FEED_LOSS (R25): the feed becomes LOST with its timer stopped; every expectation becomes none with its counter kept;
no frame is in assembly; the segment in assembly is ended; the loss is counted; the last complete number and the last
accepted release time are kept. -/
def Obligations.FeedLossEndsTheFrameAndTheSegment : Prop :=
  ∀ s : State, feedLossDue s = true → ∃ t, exec .feedLoss s = .next t
    ∧ t.intake.feed = .lost ∧ t.intake.lossTimer = none ∧ t.intake.assembly = none
    ∧ t.intake.continuity = s.intake.continuity.map (fun k => { k with expect := none })
    ∧ t.intake.counters.losses = min (s.intake.counters.losses + 1) 4294967295
    ∧ t.intake.lastComplete = s.intake.lastComplete ∧ t.intake.lastAccepted = s.intake.lastAccepted
    ∧ t.store.assembler = .idle ∧ t.store.memory = s.store.memory ∧ t.tb = s.tb ∧ t.ros = s.ros

/-- Frames that are accepted no further (R26, R32, R34, R40 to R43, R46). A well-formed frame head resumes a LOST feed
with its timer loaded. A head that fails checks 1, 2 or 3 of R40 keeps no record; one that fails a later check joins the
table DISCARDED with its cause, holding no slots; each is counted under its cause, and its cells are followed. A
malformed head is counted and ends an ASSEMBLING frame SHORT, its counts UNKNOWN. A cell of an ASSEMBLING frame that
finds the queue full is not stored: the record is DISCARDED(QUEUE_FULL), counted, and the frame goes on, its last cell
completing it; so is the record of an accepted head that finds it full. ASSEMBLING_LATE makes a record still ASSEMBLING
at its Q DISCARDED(LATE), the frame staying in assembly. A record so ended gives its slots back: the next free slot is
again its first, and, with no cell held back, the occupancy falls by its slots, and with it the high flag at the
almost-empty threshold; no slot is written. That a head or a cell at or after Q, before ASSEMBLING_LATE, gives SHORT or
QUEUE_FULL is the model's choice (log entry 62). -/
def Obligations.FramesAreDiscardedShortOrLate : Prop :=
  let gives := fun (r : FrameRecord) (s t : State) =>
    t.em.queue.slots = s.em.queue.slots
      ∧ (∀ f, r.firstSlot = some f → t.em.queue.nextFree = f)
      ∧ (∀ f, r.firstSlot = some f → s.em.heldBack = false →
        t.em.queue.oldest = s.em.queue.oldest ∧ t.em.queue.occupancy = s.em.queue.occupancy - r.slotsHeld
          ∧ t.em.queue.high = (s.em.queue.high
            && decide (s.setting SiteConfig.almostEmpty 4096 < s.em.queue.occupancy - r.slotsHeld)))
  (∀ (c : SiteConfig) (cell : Cell) (s : State), cell.length = 240 → cell.head? = some 0xB8 → s.sc.config = .valid →
      s.sc.inUse = some c → s.intake.feed = .lost → isFrameHead cell = true → (frameHeadOf (cellBody cell)).ok = true →
      ∃ t, exec (.cellTaken cell) s = .next t ∧ t.intake.feed = .running
        ∧ t.intake.lossTimer = some (s.tb.now + c.feedLossMs * 10000) ∧ t.intake.lastGood = some s.tb.now
        ∧ t.tb = s.tb ∧ t.cues.counters = s.cues.counters ∧ t.store.memory = s.store.memory)
    ∧ (∀ (c : SiteConfig) (cell : Cell) (cause : DiscardCause) (s : State), RunningCell c cell s →
      s.intake.assembly = none → isFrameHead cell = true → (frameHeadOf (cellBody cell)).ok = true →
      let h := frameHeadOf (cellBody cell)
      let zone := resolveStamp s.tb.now h.stampS h.stampF
      let q := zone + c.offset - c.latency
      let known := ∃ r ∈ s.em.table, r.number = h.number
      let followed := s.tb.disc ≠ .unset ∧ s.em.table.length < 64 ∧ ¬known
      let timed := followed ∧ s.tb.disc ≠ .acquire
      let count := fun k : IntakeCounters => match cause with
        | .noTime => k.noTime | .tableFull => k.tableFull | .late => k.late | .early => k.early | .order => k.order
        | .queueFull => k.queueFull | .short => k.short
      let joins := fun t : State =>
        t.em = { s.em with table := s.em.table ++ [{
            number := h.number, c := zone, e := zone + c.offset, q := q, lead := q - s.tb.now, declared := h.declared,
            taken := 0, counts := c.routing.map fun tag => (tag, 0), status := .pending, state := .discarded cause,
            firstSlot := none, slotsHeld := 0, sent := 0, consumed := 0, cut := 0 }] }
          ∧ t.intake.assembly = some ⟨some h.number, h.declared⟩
          ∧ count t.intake.counters = min (count s.intake.counters + 1) 4294967295
          ∧ t.tb = s.tb ∧ t.store = s.store ∧ t.chans = s.chans
      ((s.tb.disc = .unset ∧ cause = .noTime
          ∨ s.tb.disc ≠ .unset ∧ 64 ≤ s.em.table.length ∧ cause = .tableFull
          ∨ s.tb.disc ≠ .unset ∧ s.em.table.length < 64 ∧ known ∧ cause = .order) →
        ∃ t, exec (.cellTaken cell) s = .next t ∧ t.em = s.em ∧ t.intake.assembly = some ⟨none, h.declared⟩
          ∧ count t.intake.counters = min (count s.intake.counters + 1) 4294967295
          ∧ t.intake.lastAccepted = s.intake.lastAccepted ∧ t.tb = s.tb ∧ t.store = s.store ∧ t.chans = s.chans)
      ∧ ((followed ∧ s.tb.disc = .acquire ∧ cause = .noTime
          ∨ timed ∧ q - s.tb.now < c.lmin ∧ cause = .late
          ∨ timed ∧ c.lmin ≤ q - s.tb.now ∧ c.lmax < q - s.tb.now ∧ cause = .early
          ∨ timed ∧ c.lmin ≤ q - s.tb.now ∧ q - s.tb.now ≤ c.lmax
            ∧ (∃ last, s.intake.lastAccepted = some last ∧ q ≤ last) ∧ cause = .order) →
        ∃ t, exec (.cellTaken cell) s = .next t ∧ joins t ∧ t.intake.lastAccepted = s.intake.lastAccepted)
      ∧ (timed → c.lmin ≤ q - s.tb.now → q - s.tb.now ≤ c.lmax →
        (∀ last, s.intake.lastAccepted = some last → last < q) → 65536 ≤ s.em.queue.occupancy →
        s.em.heldBack = false → cause = .queueFull →
        ∃ t, exec (.cellTaken cell) s = .next t ∧ joins t ∧ t.intake.lastAccepted = some q))
    ∧ (∀ (c : SiteConfig) (cell : Cell) (n left : Nat) (r : FrameRecord) (s : State), RunningCell c cell s →
      isFrameHead cell = true → (frameHeadOf (cellBody cell)).ok = false → s.intake.assembly = some ⟨some n, left⟩ →
      s.frame? n = some r → r.state = .assembling → s.em.current ≠ some n →
      (s.em.table.map FrameRecord.number).Nodup →
      ∃ t, exec (.cellTaken cell) s = .next t ∧ t.intake.assembly = none ∧ gives r s t
        ∧ t.intake.counters.malformed = min (s.intake.counters.malformed + 1) 4294967295
        ∧ t.intake.counters.short = min (s.intake.counters.short + 1) 4294967295
        ∧ (∀ r', t.frame? n = some r' → r'.state = .discarded .short ∧ r'.status = .unknown ∧ r'.c = r.c ∧ r'.q = r.q)
        ∧ (s.em.table.find? FrameRecord.unpassed = some r → t.frame? n = none)
        ∧ t.tb = s.tb ∧ t.store.memory = s.store.memory)
    ∧ (∀ (c : SiteConfig) (cell : Cell) (n left : Nat) (r : FrameRecord) (s : State), RunningCell c cell s →
      isFrameHead cell = false → s.intake.assembly = some ⟨some n, left⟩ → s.frame? n = some r → r.state = .assembling →
      65536 ≤ s.em.queue.occupancy → s.em.current ≠ some n → (s.em.table.map FrameRecord.number).Nodup →
      let full := { r with
        state := .discarded .queueFull, taken := r.taken + 1, firstSlot := none
        counts := if sortCell c cell = .programme
          then r.counts.map fun x => if x.1 = cellTag cell then (x.1, x.2 + 1) else x else r.counts
        slotsHeld := if r.firstSlot = none then r.slotsHeld else 0 }
      ∃ t, exec (.cellTaken cell) s = .next t ∧ gives r s t ∧ t.tb = s.tb
        ∧ t.intake.counters.queueFull = min (s.intake.counters.queueFull + 1) 4294967295
        ∧ (2 ≤ left → t.frame? n = some full ∧ t.intake.assembly = some ⟨some n, left - 1⟩)
        ∧ (left = 1 → t.intake.assembly = none ∧ t.intake.lastComplete = some n
          ∧ (∀ r', t.frame? n = some r' → r' = { full with status := .known })
          ∧ (s.em.table.find? FrameRecord.unpassed = some r → t.frame? n = none)))
    ∧ (∀ (r : FrameRecord) (s : State), lateFrame s = some r → r.status = .pending →
      (s.em.table.map FrameRecord.number).Nodup → s.em.current ≠ some r.number →
      ∃ t r', exec .assemblingLate s = .next t ∧ t.frame? r.number = some r' ∧ r'.state = .discarded .late
        ∧ r'.slotsHeld = (if r.firstSlot = none then r.slotsHeld else 0) ∧ r'.firstSlot = none
        ∧ r'.status = .pending ∧ r'.c = r.c ∧ r'.q = r.q ∧ gives r s t
        ∧ t.intake.counters.late = min (s.intake.counters.late + 1) 4294967295
        ∧ t.intake.assembly = s.intake.assembly ∧ t.tb = s.tb ∧ t.store.memory = s.store.memory)

/-- The last cell of a frame (R33, R36, R37, R42 to R44, R47, R54, R55). A programme cell that is the last an ASSEMBLING
frame declared, taken before its Q with room in the queue: the cell stands in the next free slot and is counted under
its tag; the high flag is set at the almost-full threshold; the frame is complete and SCHEDULED with KNOWN counts; its
number becomes the last complete one, and a number out of turn is a gap, counted and handed to the channels. A frame
whose record was DISCARDED completes in the same way, stores nothing, and passes at once when it stands at the pass
point, alone in the table. -/
def Obligations.FramesCompleteInTurn : Prop :=
  let numbered := fun (n : Nat) (r : FrameRecord) (s t : State) =>
    t.intake.assembly = none ∧ t.intake.lastComplete = some n
      ∧ (let inTurn := s.intake.lastComplete = none ∨ ∃ m, s.intake.lastComplete = some m ∧ n = (m + 1) % 65536
        (inTurn → t.intake.counters.gaps = s.intake.counters.gaps ∧ t.chans.lastGap = s.chans.lastGap)
        ∧ (¬inTurn → t.intake.counters.gaps = min (s.intake.counters.gaps + 1) 4294967295
          ∧ t.chans.lastGap = some r.c))
  let counted := fun (cell : Cell) (r : FrameRecord) =>
    r.counts.map fun x => if x.1 = cellTag cell then (x.1, x.2 + 1) else x
  (∀ (c : SiteConfig) (cell : Cell) (n : Nat) (r : FrameRecord) (s : State), RunningCell c cell s →
      isFrameHead cell = false → sortCell c cell = .programme → s.intake.assembly = some ⟨some n, 1⟩ →
      s.frame? n = some r → r.state = .assembling → s.tb.now < r.q → s.em.queue.occupancy < 65536 →
      (s.em.table.map FrameRecord.number).Nodup →
      ∃ t, exec (.cellTaken cell) s = .next t ∧ numbered n r s t
        ∧ t.frame? n = some { r with
          taken := r.taken + 1, counts := counted cell r, status := .known, state := .scheduled
          slotsHeld := r.slotsHeld + 1, firstSlot := some (r.firstSlot.getD s.em.queue.nextFree) }
        ∧ memRead t.em.queue.slots s.em.queue.nextFree = some cell
        ∧ (∀ a, a ≠ s.em.queue.nextFree → memRead t.em.queue.slots a = memRead s.em.queue.slots a)
        ∧ t.em.queue.occupancy = s.em.queue.occupancy + 1 ∧ t.em.queue.oldest = s.em.queue.oldest
        ∧ t.em.queue.high = (s.em.queue.high || decide (c.almostFull ≤ s.em.queue.occupancy + 1))
        ∧ t.tb = s.tb ∧ t.store.memory = s.store.memory ∧ t.ros = s.ros)
    ∧ (∀ (c : SiteConfig) (cell : Cell) (n : Nat) (r : FrameRecord) (cause : DiscardCause) (s : State),
      RunningCell c cell s → isFrameHead cell = false → sortCell c cell = .programme →
      s.intake.assembly = some ⟨some n, 1⟩ → s.em.table = [r] → r.number = n → r.state = .discarded cause →
      ∃ t, exec (.cellTaken cell) s = .next t ∧ numbered n r s t ∧ t.em.table = [] ∧ t.em.queue = s.em.queue
        ∧ t.chans.lastPass = some r.c ∧ t.chans.passCount = min (s.chans.passCount + 1) 4294967295
        ∧ t.em.counters.passes = min (s.em.counters.passes + 1) 4294967295
        ∧ t.tb = s.tb ∧ t.store.memory = s.store.memory ∧ t.ros = s.ros)

/-! ### Chapter 3: emission -/

/-- FRAME_RELEASE (R49, R51, R55, R56, R58, R61, R62) of a SCHEDULED record at its Q, the records behind it not
discarded. In STANDBY with a VALID configuration and no cause it goes ON_AIR; in MUTED, once STARVE is removed and
DISCARD_RUN too if a release has come before, it goes ON_AIR if no cause is left, and otherwise stays. ON_AIR makes the
record EMITTING, MUTED PASSED; it passes with its C, becomes current with its head's instant Q, and loads the starve
timer. In ON_AIR a current frame before it loses the cells it has left: their slots are freed, they are counted as cut,
and its record leaves. The third pass of a discarded record in a row adds DISCARD_RUN and mutes ON_AIR at once; fewer
are counted. -/
def Obligations.ReleasesDecideTheEmissionState : Prop :=
  let due := fun (r : FrameRecord) (rest : List FrameRecord) (s : State) => r.state = .scheduled ∧ r.q ≤ s.tb.now
    ∧ (∀ x ∈ rest, (x.state = .scheduled ∨ x.state = .assembling) ∧ x.number ≠ r.number) ∧ s.em.stepRun = none
  let released := fun (r : FrameRecord) (rest : List FrameRecord) (s t : State) =>
    t.em.current = some r.number ∧ t.em.nextCell = some r.q
      ∧ t.em.starve = some (r.q + s.setting SiteConfig.starveMs 2000 * 10000)
      ∧ t.em.table = { r with state := if t.em.state = .onAir then .emitting else .passed } :: rest
      ∧ t.em.counters.passes = min (s.em.counters.passes + 1) 4294967295
      ∧ t.chans.lastPass = some r.c ∧ t.chans.passCount = min (s.chans.passCount + 1) 4294967295
      ∧ t.tb = s.tb ∧ t.intake = s.intake ∧ t.ros = s.ros ∧ t.store.memory = s.store.memory
  (∀ (r : FrameRecord) (rest : List FrameRecord) (s : State), s.em.table = r :: rest → due r rest s →
      s.em.current = none → s.em.state = .standby → s.sc.config = .valid → s.em.causes = ⟨false, false, false, false⟩ →
      ∃ t, exec .frameRelease s = .next t ∧ released r rest s t ∧ t.em.state = .onAir ∧ t.em.carrier = true
        ∧ t.em.causes = s.em.causes ∧ t.em.counters.toAir = min (s.em.counters.toAir + 1) 4294967295
        ∧ t.em.queue = s.em.queue)
    ∧ (∀ (r : FrameRecord) (rest : List FrameRecord) (s : State), s.em.table = r :: rest → due r rest s →
      s.em.current = none → s.em.state = .muted →
      let stands := s.em.causes.discardRun && decide (s.em.releaseRun < 1)
      ∃ t, exec .frameRelease s = .next t ∧ released r rest s t
        ∧ t.em.causes = { s.em.causes with starve := false, discardRun := stands } ∧ t.em.discardRun = 0
        ∧ t.em.state = (if s.em.causes.time || s.em.causes.inhibit || stands then .muted else .onAir)
        ∧ (t.em.state = .onAir → t.em.carrier = true
          ∧ t.em.counters.toAir = min (s.em.counters.toAir + 1) 4294967295)
        ∧ (t.em.state = .muted → t.em.carrier = s.em.carrier
          ∧ t.em.counters.consumedReleases = min (s.em.counters.consumedReleases + 1) 4294967295)
        ∧ t.em.queue = s.em.queue)
    ∧ (∀ (x r : FrameRecord) (rest : List FrameRecord) (s : State), s.em.table = x :: r :: rest → due r rest s →
      x.state = .emitting ∨ x.state = .passed → s.em.current = some x.number →
      (∀ y ∈ r :: rest, y.number ≠ x.number) → 0 < x.left → s.em.state = .onAir →
      s.em.causes = ⟨false, false, false, false⟩ →
      ∃ t, exec .frameRelease s = .next t ∧ released r rest s t ∧ t.em.state = .onAir
        ∧ t.em.counters.cutFrames = min (s.em.counters.cutFrames + 1) 4294967295
        ∧ t.em.counters.cutCells = min (s.em.counters.cutCells + x.left) 4294967295
        ∧ t.em.queue.oldest = (s.em.queue.oldest + x.left) % 65536
        ∧ t.em.queue.occupancy = s.em.queue.occupancy - x.left ∧ t.em.queue.slots = s.em.queue.slots
        ∧ t.em.transfer = s.em.transfer)
    ∧ (∀ s : State, s.em.state = .onAir ∨ s.em.state = .muted → s.em.causes.discardRun = false →
      (s.em.discardRun < 2 → discardPassed s = { s with em := { s.em with discardRun := s.em.discardRun + 1 } })
      ∧ (s.em.discardRun = 2 → (discardPassed s).em.state = .muted ∧ (discardPassed s).em.discardRun = 3
        ∧ (discardPassed s).em.releaseRun = 0 ∧ (discardPassed s).em.causes = { s.em.causes with discardRun := true }
        ∧ (s.em.state = .onAir → (discardPassed s).sc.latchAir = true) ∧ (discardPassed s).tb = s.tb))

/-- CELL_INSTANT, FILLER_INSTANT and TRANSFER_END (R46, R47, R50, R52, R57, R58, R167). A cell that would start less
than 100 TU before the Q of the first record that is ASSEMBLING or SCHEDULED is held back, and a filler let go. For an
EMITTING frame the cell at the oldest held slot, as the channels hand it back, begins its transfer with carrier on; a
cell that no current plan takes goes out as it was stored. For a PASSED frame the cell is consumed, and in MUTED a filler
with carrier off goes out in its place. Either frees its slot, and the high flag falls, reported, at the almost-empty
threshold; the next instant is one cell interval on; at the frame's last cell its record leaves the table and the current
frame becomes none. With no current frame a filler cell begins its transfer in ON_AIR, carrier on, and in MUTED, carrier
off, and is counted; in STANDBY and FAULT nothing is output; the grid goes on one interval. At its end the transfer
leaves the port, and the carrier is then asserted in ON_AIR alone. No slot is written. That a transfer's 100 TU are
counted on the oscillator is the model's choice (log entry 10), and so is what a transfer still in progress comes to
(log entry 45). -/
def Obligations.CellsAndFillersGoOutAndTransfersEnd : Prop :=
  let ahead := fun (at_ : Time) (s : State) =>
    ∃ x, s.em.table.find? (fun y => y.state == .assembling || y.state == .scheduled) = some x ∧ x.q < at_ + 100
  let others := fun (r : FrameRecord) (s : State) => s.em.table.filter fun x => x.number != r.number
  let interval := fun s : State => s.setting SiteConfig.interval 800
  let freed := fun s : State => { s.em.queue with
    oldest := (s.em.queue.oldest + 1) % 65536
    occupancy := s.em.queue.occupancy - 1
    high := s.em.queue.high && decide (s.setting SiteConfig.almostEmpty 4096 < s.em.queue.occupancy - 1) }
  (∀ (at_ : Time) (r : FrameRecord) (s : State), instantDue s = some at_ → s.currentFrame = some r → ahead at_ s →
      exec .cellInstant s = .next { s with em := { s.em with
        heldBack := true
        nextCell := some (at_ + interval s) } })
    ∧ (∀ (at_ : Time) (r : FrameRecord) (s : State), instantDue s = some at_ → s.currentFrame = some r →
      r.state = .emitting → ¬ahead at_ s → 1 ≤ r.left →
      ∃ t, exec .cellInstant s = .next t
        ∧ t.em.transfer = some ⟨(passChannels r.number s.em.queue.front s).1, true, s.osc + 100⟩
        ∧ (takingChannel r.number s.em.queue.front s = none →
            t.em.transfer = some ⟨s.em.queue.front, true, s.osc + 100⟩ ∧ t.chans = s.chans ∧ t.store = s.store)
        ∧ t.em.carrier = true ∧ t.em.queue = freed s ∧ t.em.nextCell = some (at_ + interval s)
        ∧ (2 ≤ r.left → t.em.current = s.em.current
          ∧ t.currentFrame = some { r with sent := r.sent + 1, slotsHeld := r.slotsHeld - 1 } ∧ others r t = others r s)
        ∧ (r.left = 1 → t.em.current = none ∧ t.em.table = others r s ∧ t.em.heldBack = false)
        ∧ t.em.state = s.em.state ∧ t.tb = s.tb ∧ t.intake = s.intake ∧ t.store.memory = s.store.memory)
    ∧ (∀ (at_ : Time) (r : FrameRecord) (s : State), instantDue s = some at_ → s.currentFrame = some r →
      r.state = .passed → ¬ahead at_ s → 1 ≤ r.left → s.em.state ≠ .onAir →
      exec .cellInstant s = .next { s with
        mon := if s.em.queue.high = true ∧ (freed s).high = false
          then (raise (.queueLow (s.em.queue.occupancy - 1)) s).mon else s.mon
        em := { s.em with
          queue := freed s
          table := if r.left = 1 then others r s else s.em.table.map fun x => if x.number = r.number
            then { x with consumed := x.consumed + 1, slotsHeld := x.slotsHeld - 1 } else x
          current := if r.left = 1 then none else s.em.current
          heldBack := if r.left = 1 then false else s.em.heldBack
          nextCell := some (at_ + interval s)
          transfer := if s.em.state = .muted then some ⟨fillerCell, false, s.osc + 100⟩ else s.em.transfer
          carrier := if s.em.state = .muted then false else s.em.carrier
          counters := if s.em.state = .muted
            then { s.em.counters with fillers := min (s.em.counters.fillers + 1) 4294967295 } else s.em.counters } })
    ∧ (∀ (at_ : Time) (s : State), instantDue s = some at_ → s.currentFrame = none →
      (ahead at_ s → exec .fillerInstant s = .next { s with em := { s.em with nextCell := some (at_ + interval s) } })
      ∧ (¬ahead at_ s → exec .fillerInstant s = .next { s with em :=
        if s.em.state = .onAir ∨ s.em.state = .muted then
          { s.em with
            transfer := some ⟨fillerCell, s.em.state == .onAir, s.osc + 100⟩
            carrier := s.em.state == .onAir
            counters := { s.em.counters with fillers := min (s.em.counters.fillers + 1) 4294967295 }
            nextCell := some (at_ + interval s) }
        else { s.em with nextCell := some (at_ + interval s) } }))
    ∧ (∀ (x : Transfer) (s : State), s.em.transfer = some x → x.endsAt ≤ s.osc →
      exec .transferEnd s = .next { s with em := { s.em with
        transfer := none
        carrier := s.em.state == .onAir } })

/-- STARVE_EXPIRY and INHIBIT_CHANGE (R57, R58, R61, R187). The starve expiry in ON_AIR adds STARVE, stops the timer and
mutes at once: an EMITTING current frame becomes PASSED, the AIR latch is set, and the transfer in progress goes on.
Outside FAULT the INHIBIT cause follows its line; a line that becomes active in ON_AIR mutes at once, and no other
change of the line changes the emission state. The 10 ms since the line's last level are counted as log entry 28 says.
-/
def Obligations.MuteCausesFollowTheirInputs : Prop :=
  (∀ s : State, isDue s.tb.now s.em.starve = true → s.em.state = .onAir → s.em.causes.starve = false →
      ∃ t, exec .starveExpiry s = .next t ∧ t.em.state = .muted ∧ t.em.starve = none ∧ t.em.causes.starve = true
        ∧ t.em.counters.starves = min (s.em.counters.starves + 1) 4294967295 ∧ t.sc.latchAir = true
        ∧ (∀ r, t.currentFrame = some r → r.state ≠ .emitting) ∧ t.em.transfer = s.em.transfer
        ∧ t.em.queue = s.em.queue ∧ t.em.current = s.em.current ∧ t.em.nextCell = s.em.nextCell
        ∧ t.tb = s.tb ∧ t.intake = s.intake ∧ t.ros = s.ros ∧ t.store.memory = s.store.memory)
    ∧ (∀ (active : Bool) (s : State), s.sc.inhibitLine ≠ active → s.sc.inhibitSince + 100000 ≤ s.osc → s.em.state ≠ .fault →
      s.em.causes.inhibit = s.sc.inhibitLine →
      ∃ t, exec (.inhibitChange active) s = .next t ∧ t.sc.inhibitLine = active ∧ t.sc.inhibitSince = s.osc
        ∧ t.em.causes = { s.em.causes with inhibit := active }
        ∧ t.em.state = (if active = true ∧ s.em.state = .onAir then .muted else s.em.state)
        ∧ t.sc.latchAir = (s.sc.latchAir || (active && s.em.state == .onAir))
        ∧ t.em.queue = s.em.queue ∧ t.tb = s.tb ∧ t.intake = s.intake ∧ t.ros = s.ros
        ∧ t.store.memory = s.store.memory ∧ t.sc.inUse = s.sc.inUse ∧ t.sc.overrideLine = s.sc.overrideLine)

/-! ### Chapter 4: the spot store -/

/-- CELL_TAKEN with a segment body, within a frame (R28, R30, R42, R70, R72). In CAPTURE a continuous body, not the last,
goes into the slot of the page whose index is the cells received, with its slot check code; the running CRC takes it and
cells received rises by 1; every other slot keeps what it holds. A discontinuous body in CAPTURE is not written: the
segment is dropped and counted, its page joins the back of the free list, and the assembler is IDLE. In SKIP a body
counts as received and is not stored, and the assembler is IDLE at the expected count or at a discontinuous body. In
IDLE a body is a stray, counted alone. -/
def Obligations.CapturedBodyIsWrittenToItsSlot : Prop :=
  let places := fun (a : Assembly) (s t : State) =>
    t.intake.assembly = some { a with remaining := a.remaining - 1 } ∧ t.tb = s.tb ∧ t.ros = s.ros ∧ t.cues = s.cues
  (∀ (c : SiteConfig) (cell : Cell) (a : Assembly) (g : SegmentInFlight) (page : Nat) (running check : Word32)
      (s : State), FrameCell c cell c.assetTag .segmentBody a s → s.store.assembler = .capture g page running check →
      (isContinuous cell s = true → g.received + 1 < g.expected →
        ∃ t, exec (.cellTaken cell) s = .next t ∧ places a s t
          ∧ memRead t.store.memory (page * 256 + g.received)
            = some ⟨cellBody cell, Config.slotCheck (cellBody cell)⟩
          ∧ (∀ x, x ≠ page * 256 + g.received → memRead t.store.memory x = memRead s.store.memory x)
          ∧ t.store = { s.store with
            memory := t.store.memory
            assembler := .capture { g with received := g.received + 1 } page (crc32Run running (cellBody cell)) check })
      ∧ (isContinuous cell s = false →
        ∃ t, exec (.cellTaken cell) s = .next t ∧ places a s t ∧ t.store = { s.store with
          assembler := .idle
          freePages := s.store.freePages ++ [page]
          counters := { s.store.counters with dropped := min (s.store.counters.dropped + 1) 4294967295 } }))
    ∧ (∀ (c : SiteConfig) (cell : Cell) (a : Assembly) (g : SegmentInFlight) (s : State),
      FrameCell c cell c.assetTag .segmentBody a s → s.store.assembler = .skip g →
      ∃ t, exec (.cellTaken cell) s = .next t ∧ places a s t ∧ t.store = { s.store with
        assembler := if g.received + 1 = g.expected ∨ isContinuous cell s = false then .idle
          else .skip { g with received := g.received + 1 } })
    ∧ (∀ (c : SiteConfig) (cell : Cell) (a : Assembly) (s : State), FrameCell c cell c.assetTag .segmentBody a s →
      s.store.assembler = .idle →
      ∃ t, exec (.cellTaken cell) s = .next t ∧ places a s t ∧ t.store = { s.store with
        counters := { s.store.counters with stray := min (s.store.counters.stray + 1) 4294967295 } })

/-- No command but CELL_TAKEN and POWER_ON_RESET writes a slot of the spot store or of the emission queue, but for
RESTART, which empties the queue; CELL_TAKEN writes at most the next slot of the page in CAPTURE and the next free slot
of the queue (R42, R46, R63, R70, R83). A RESTART that is taken as one leaves nothing written in the queue,
POWER_ON_RESET in neither memory. -/
def Obligations.OnlyCellTakenWritesTheMemories : Prop :=
  ∀ (c : Instr) (s t : State), exec c s = .next t → c ≠ .powerOnReset →
    ((∀ cell, c ≠ .cellTaken cell) → t.store.memory = s.store.memory
      ∧ (c ≠ .restart → t.em.queue.slots = s.em.queue.slots))
    ∧ (∀ cell, c = .cellTaken cell →
      (∀ a, spotSlot s ≠ some a → memRead t.store.memory a = memRead s.store.memory a)
      ∧ (∀ a, frameSlot cell s ≠ a → memRead t.em.queue.slots a = memRead s.em.queue.slots a))
    ∧ (c = .restart → t.em.queue.slots = if s.sc.restartLine = false ∧ s.sc.restartTaken = true
        ∧ s.sc.restartSince + 100000 ≤ s.osc then [] else s.em.queue.slots)
    ∧ ∀ u, exec .powerOnReset s = .next u → u.store.memory = [] ∧ u.em.queue.slots = []

/-- CHECK_COMPLETE with every slot good (R73, R80): the entry in CHECKING becomes VERIFIED, no check is in flight, and
the directory is otherwise as it was. The check queue is taken empty and no record DECIDED_GO, so that nothing follows.
-/
def Obligations.GoodCheckVerifiesTheSpot : Prop :=
  ∀ (x : CheckInFlight) (e : Entry) (s : State), s.store.check = some x → x.completes ≤ s.tb.now →
    s.store.entry? x.spotId = some e → e.state = .checking → badSegments s.store e = [] → e.expirePending = false →
    s.store.checkQueue = [] → (∀ r ∈ s.cues.table, r.state ≠ .decidedGo) →
    ∃ t, exec .checkComplete s = .next t ∧ t.store = { s.store with
        check := none
        directory := s.store.directory.map fun y => if y.spot.id = e.spot.id then { y with state := .verified } else y }
      ∧ t.tb = s.tb ∧ t.em = s.em ∧ t.intake = s.intake ∧ t.chans = s.chans ∧ t.ros = s.ros

/-- CELL_TAKEN with a segment head or the last body of a segment, within a frame (R64 to R71, R74, R75, R79). A segment
in assembly is ended first. A malformed head is counted; one of another zone, or with an expiry at or below S, is
counted and its bodies are skipped; so are those of a segment that is held, of a head that disagrees with its entry, and
of another version while the held one is protected; a new spot meets a full directory, or gets its FILLING entry; a
missing segment takes the front page of the free list, or is skipped with none free. The last body of a segment whose
CRC-32 holds makes it held on its page, and a bad one returns the page; an entry whose last segment this is becomes
COMPLETE and queues, and is CHECKING at once when no other waits. The directory is taken with no record DECIDED_GO, so
that nothing else follows. -/
def Obligations.SegmentsAreTakenSkippedAndHeld : Prop :=
  let skips := fun (h : SegmentHead) (d : SpotStore) (counters : StoreCounters) =>
    ({ d with assembler := .skip ⟨h.spot, h.segment, h.cells, 0⟩, counters := counters } : SpotStore)
  let takes := fun (h : SegmentHead) (st : SpotStore) (page : Nat) =>
    st.assembler = .capture ⟨h.spot, h.segment, h.cells, 0⟩ page crc32Start h.check
  (∀ (c : SiteConfig) (cell : Cell) (a : Assembly) (s : State), FrameCell c cell c.assetTag .segmentHead a s →
      (∀ r ∈ s.cues.table, r.state ≠ .decidedGo) →
      let h := segmentHeadOf (cellBody cell)
      let d := (endSegment s).store
      let matching := h.ok = true ∧ zoneMatch c.zoneCode h.zoneCode h.zoneMask = true
      let fresh := matching ∧ ¬(s.tb.disc ≠ .unset ∧ (h.expiry : Int) ≤ secondOf s.tb.now)
      let agrees := fun e : Entry => e.segCount = h.segCount
        ∧ (h.isLast = true → e.lastCells = none ∨ e.lastCells = some h.cells)
      ∃ t, exec (.cellTaken cell) s = .next t ∧ t.tb = s.tb ∧ t.store.memory = s.store.memory
        ∧ (h.ok = false → t.store = { d with counters := { d.counters with
            malformed := min (d.counters.malformed + 1) 4294967295 } })
        ∧ (h.ok = true → ¬matching → t.store = skips h d { d.counters with
            otherZone := min (d.counters.otherZone + 1) 4294967295 })
        ∧ (matching → ¬fresh → t.store = skips h d { d.counters with
            stale := min (d.counters.stale + 1) 4294967295 })
        ∧ (∀ e, fresh → d.entry? h.spot.id = some e → e.spot = h.spot →
          (¬agrees e → t.store = skips h d d.counters)
          ∧ (agrees e → (∃ page, e.segs[h.segment]? = some (some page)) → t.store.directory.length = d.directory.length
            ∧ t.store.assembler = .skip ⟨h.spot, h.segment, h.cells, 0⟩ ∧ t.store.freePages = d.freePages
            ∧ t.store.counters.skipped = min (d.counters.skipped + 1) 4294967295)
          ∧ (agrees e → e.segs[h.segment]? = some none →
            t.store.entry? h.spot.id = some { e with
              lastCells := if h.isLast = true then some h.cells else e.lastCells }
            ∧ (∀ page rest, d.freePages = page :: rest → takes h t.store page ∧ t.store.freePages = rest)
            ∧ (d.freePages = [] → t.store.assembler = .skip ⟨h.spot, h.segment, h.cells, 0⟩)))
        ∧ (∀ e, fresh → d.entry? h.spot.id = some e → e.spot ≠ h.spot →
          (d.unprotected e = false → t.store = skips h d d.counters)
          ∧ (d.unprotected e = true → s.store.ids.Nodup → d.directory.length ≤ 48 →
            ∃ e', t.store.entry? h.spot.id = some e' ∧ e'.spot = h.spot ∧ e'.state = .filling))
        ∧ (fresh → d.entry? h.spot.id = none → 48 ≤ d.directory.length → t.store = skips h d d.counters)
        ∧ (fresh → d.entry? h.spot.id = none → d.directory.length < 48 →
          (∃ e, t.store.entry? h.spot.id = some e ∧ e.spot = h.spot ∧ e.segCount = h.segCount ∧ e.expiry = h.expiry
            ∧ e.state = .filling ∧ e.segs = List.replicate h.segCount none ∧ e.freeze = 0 ∧ e.expirePending = false
            ∧ e.prot = namers s h.spot)
          ∧ ∀ page rest, d.freePages = page :: rest → takes h t.store page ∧ t.store.freePages = rest))
    ∧ (∀ (c : SiteConfig) (cell : Cell) (a : Assembly) (g : SegmentInFlight) (page : Nat) (running check : Word32)
      (e : Entry) (s : State), FrameCell c cell c.assetTag .segmentBody a s → isContinuous cell s = true →
      (∀ r ∈ s.cues.table, r.state ≠ .decidedGo) → s.store.assembler = .capture g page running check →
      g.received + 1 = g.expected → s.store.entry? g.spot.id = some e →
      let good := crc32Result (crc32Run running (cellBody cell)) = check
      let segs := e.segs.set g.segment (some page)
      let full := segs.countP Option.isSome = e.segCount
      ∃ t, exec (.cellTaken cell) s = .next t ∧ t.store.assembler = .idle ∧ t.tb = s.tb
        ∧ (¬good → t.store.freePages = s.store.freePages ++ [page] ∧ t.store.directory = s.store.directory
          ∧ t.store.counters.checkFailures = min (s.store.counters.checkFailures + 1) 4294967295)
        ∧ (good → t.store.freePages = s.store.freePages
          ∧ (¬full → t.store.entry? g.spot.id = some { e with segs := segs }
            ∧ t.store.checkQueue = s.store.checkQueue)
          ∧ (full → s.store.check = none → s.store.checkQueue = [] →
            t.store.entry? g.spot.id = some { e with segs := segs, state := .checking }
            ∧ t.store.check = some ⟨g.spot.id, s.tb.now + 10000 * e.segCount⟩ ∧ t.store.checkQueue = [])
          ∧ (full → s.store.check ≠ none →
            t.store.entry? g.spot.id = some { e with segs := segs, state := .complete }
            ∧ t.store.checkQueue = s.store.checkQueue ++ [g.spot.id] ∧ t.store.check = s.store.check)))

/-- Damage and expiry (R74 to R78, R80, R82), with no record DECIDED_GO, so that nothing else follows. A check that
finds bad segments makes them missing, their pages at the back of the free list in ascending segment number, and the
entry FILLING; one that finds none removes an expire-pending entry whose protection has ended, its pages going back in
ascending segment number. A read failure of a frozen entry joins its pending list, once, and of one that is not frozen
makes its segment missing at once; the unfreeze that brings the count to 0 makes the listed segments missing, in list
order. A release request that ends the protection of an expire-pending entry removes it. -/
def Obligations.DamageAndExpiryGiveThePagesBack : Prop :=
  let without := fun (e : Entry) (l : List Nat) => l.foldl (fun segs k => segs.set k none) e.segs
  let pages := fun (e : Entry) (l : List Nat) => l.filterMap fun k => e.segs.getD k none
  (∀ (x : CheckInFlight) (e : Entry) (s : State), s.store.check = some x → x.completes ≤ s.tb.now →
      s.store.entry? x.spotId = some e → e.state = .checking → s.store.checkQueue = [] →
      (∀ r ∈ s.cues.table, r.state ≠ .decidedGo) →
      ∃ t, exec .checkComplete s = .next t ∧ t.store.check = none ∧ t.tb = s.tb ∧ t.store.memory = s.store.memory
        ∧ (badSegments s.store e ≠ [] → e.expirePending = false →
          t.store.entry? x.spotId = some { e with segs := without e (badSegments s.store e), state := .filling }
          ∧ t.store.freePages = s.store.freePages ++ pages e (badSegments s.store e)
          ∧ t.store.counters.badSlots = min (s.store.counters.badSlots + badSlots s.store e) 4294967295)
        ∧ (badSegments s.store e = [] → e.expirePending = true → e.prot = 0 → e.freeze = 0 → s.store.ids.Nodup →
          t.store.entry? x.spotId = none
          ∧ t.store.freePages = s.store.freePages
            ++ (match s.store.assembler with
              | .capture g page _ _ => if g.spot.id = x.spotId then [page] else []
              | _ => [])
            ++ pages e (List.range e.segs.length)))
    ∧ (∀ (id segment : Nat) (e : Entry) (s : State), s.store.entry? id = some e →
      (∀ r ∈ s.cues.table, r.state ≠ .decidedGo) →
      (0 < e.freeze → (storeFailure refresh id segment s).store.entry? id = some { e with
        pending := if segment ∈ e.pending then e.pending else e.pending ++ [segment] })
      ∧ (e.freeze = 0 → (storeFailure refresh id segment s).store.entry? id = some { e with
          segs := e.segs.set segment none, state := .filling }
        ∧ (storeFailure refresh id segment s).store.freePages = s.store.freePages ++ pages e [segment]))
    ∧ (∀ (x : Spot) (e : Entry) (s : State), s.store.entry? x.id = some e → e.spot = x → e.expirePending = false →
      s.store.ids.Nodup → (∀ r ∈ s.cues.table, r.state ≠ .decidedGo) →
      let t := unfreezeSpot refresh x s
      (e.freeze ≠ 1 → t.store.entry? x.id = some { e with freeze := e.freeze - 1 }
        ∧ t.store.freePages = s.store.freePages)
      ∧ (e.freeze = 1 → e.pending = [] → t.store.entry? x.id = some { e with freeze := 0 })
      ∧ (e.freeze = 1 → e.pending ≠ [] → t.store.entry? x.id = some { e with
          freeze := 0, pending := [], segs := without e e.pending, state := .filling }
        ∧ t.store.freePages = s.store.freePages ++ pages e e.pending ∧ x.id ∉ t.store.checkQueue))
    ∧ (∀ (x : Spot) (e : Entry) (s : State), s.store.entry? x.id = some e → e.spot = x → s.store.ids.Nodup →
      (∀ r ∈ s.cues.table, r.state ≠ .decidedGo) → s.store.assembler = .idle →
      let t := releaseSpot refresh x s
      let ends := e.prot ≤ 1 ∧ e.freeze = 0 ∧ s.store.inCheck x.id = false
      (e.expirePending = true → ends → t.store.entry? x.id = none
        ∧ t.store.freePages = s.store.freePages ++ pages e (List.range e.segs.length))
      ∧ (e.expirePending = false ∨ ¬ends → t.store.entry? x.id = some { e with prot := e.prot - 1 }
        ∧ t.store.freePages = s.store.freePages))

/-- Every step keeps the law of the pages (R75). -/
def Obligations.EveryPageStaysInOnePlace : Prop :=
  ∀ s t : State, PageLaw s → step s = .next t → PageLaw t

/-! ### Chapter 5: cues and the break table -/

/-- CELL_TAKEN with a well-formed, matching BREAK cue of the control tag (R85 to R90). A new break that passes every
check joins the table at the back, OPEN, with the cue's content, its resolved splice points, its decision and lock
instants, and the stance the conditions give it; the cue and the break are counted. A cue of a new break, or a change of
one that is OPEN, is refused as NO_TIME in UNSET, and otherwise by the first of R89's checks that applies: BAD_INTERVAL,
LATE_CUE, NOT_ROUTED, OVERLAP, and for a new break TABLE_FULL; a change of a break that is not OPEN is refused as
CHANGED_LATE. A refused cue leaves the table as it was, and the refusal counter of its cause rises by 1 and no other. No
slot of the spot store is written. -/
def Obligations.CuesAreAcceptedOrRefused : Prop :=
  let refused := fun (c : SiteConfig) (b : BreakCue) (cause : RefusalCause) (s : State) =>
    let cOut := resolveStamp s.tb.now b.outS b.outF
    let cIn := resolveStamp s.tb.now b.inS b.inF
    let badInterval := cIn ≤ cOut ∨ 6000000000 < cIn - cOut
    let late := cOut - s.tb.now < c.decisionMs * 10000 + c.marginMs * 10000
    let overlap := ∃ r ∈ s.cues.table, r.id ≠ b.id ∧ r.tag = b.tag ∧ r.cOut < cIn ∧ cOut < r.cIn
    let full := s.record? b.id = none ∧ 8 ≤ s.cues.table.length
    s.tb.disc = .unset ∧ cause = .noTime
      ∨ s.tb.disc ≠ .unset ∧ (badInterval ∧ cause = .badInterval
        ∨ ¬badInterval ∧ late ∧ cause = .lateCue
        ∨ ¬badInterval ∧ ¬late ∧ b.tag ∉ c.routing ∧ cause = .notRouted
        ∨ ¬badInterval ∧ ¬late ∧ b.tag ∈ c.routing ∧ overlap ∧ cause = .overlap
        ∨ ¬badInterval ∧ ¬late ∧ b.tag ∈ c.routing ∧ ¬overlap ∧ full ∧ cause = .tableFull)
  (∀ (c : SiteConfig) (cell : Cell) (a : Assembly) (b : BreakCue) (zone mask : Word16) (s : State),
      cell.length = 240 → cell.head? = some 0xB8 → s.sc.config = .valid → s.sc.inUse = some c →
      s.intake.feed = .running → s.intake.assembly = some a → 2 ≤ a.remaining → cellTag cell = c.controlTag →
      cellKind cell = .cue → cueOf (cellBody cell) = some ⟨zone, mask, .breakCue b⟩ →
      zoneMatch c.zoneCode zone mask = true → b.id ≠ 0 → s.record? b.id = none → s.tb.disc ≠ .unset →
      let cOut := resolveStamp s.tb.now b.outS b.outF
      let cIn := resolveStamp s.tb.now b.inS b.inF
      cOut < cIn → cIn - cOut ≤ 6000000000 → c.decisionMs * 10000 + c.marginMs * 10000 ≤ cOut - s.tb.now →
      b.tag ∈ c.routing →
      (∀ r ∈ s.cues.table, r.id ≠ b.id → r.tag = b.tag → ¬(r.cOut < cIn ∧ cOut < r.cIn)) → s.cues.table.length < 8 →
      ∃ t r, exec (.cellTaken cell) s = .next t ∧ t.cues.table = s.cues.table ++ [r]
        ∧ r.id = b.id ∧ r.version = b.version ∧ r.check = b.check ∧ r.tag = b.tag ∧ r.cOut = cOut ∧ r.cIn = cIn
        ∧ r.spots = b.spots ∧ r.pad = b.pad ∧ r.state = .openState ∧ r.stance = stanceOf s r
        ∧ r.decisionAt = cOut - c.decisionMs * 10000 ∧ r.lockAt = cOut - c.lockMs * 10000
        ∧ r.endAt = none ∧ r.removalAt = none ∧ r.channel = none ∧ r.abandonCause = none ∧ r.splitReported = []
        ∧ t.cues.counters.taken = min (s.cues.counters.taken + 1) 4294967295
        ∧ t.cues.counters.accepted = min (s.cues.counters.accepted + 1) 4294967295
        ∧ t.store.memory = s.store.memory ∧ t.store.freePages = s.store.freePages ∧ t.chans = s.chans ∧ t.tb = s.tb
        ∧ t.ros = s.ros ∧ t.em.state = s.em.state)
    ∧ (∀ (c : SiteConfig) (cell : Cell) (a : Assembly) (b : BreakCue) (zone mask : Word16) (cause : RefusalCause) (s : State),
      cell.length = 240 → cell.head? = some 0xB8 → s.sc.config = .valid → s.sc.inUse = some c →
      s.intake.feed = .running → s.intake.assembly = some a → 2 ≤ a.remaining → cellTag cell = c.controlTag →
      cellKind cell = .cue → cueOf (cellBody cell) = some ⟨zone, mask, .breakCue b⟩ →
      zoneMatch c.zoneCode zone mask = true → b.id ≠ 0 → s.cues.counters.refusals.length = 8 →
      (s.record? b.id = none ∧ refused c b cause s
        ∨ (∃ r, s.record? b.id = some r ∧ r.state = .openState ∧ (r.version ≠ b.version ∨ r.check ≠ b.check))
          ∧ refused c b cause s
        ∨ (∃ r, s.record? b.id = some r ∧ r.state ≠ .openState ∧ (r.version ≠ b.version ∨ r.check ≠ b.check))
          ∧ cause = .changedLate) →
      ∃ t, exec (.cellTaken cell) s = .next t ∧ t.cues.table = s.cues.table
        ∧ (∀ k, t.cues.counters.refusals[RefusalCause.code k]? =
            if k = cause then some (min (s.cues.counters.refusals.getD (RefusalCause.code k) 0 + 1) 4294967295)
            else s.cues.counters.refusals[RefusalCause.code k]?)
        ∧ t.store = s.store ∧ t.chans = s.chans ∧ t.agree = s.agree ∧ t.tb = s.tb ∧ t.ros = s.ros)

/-- CELL_TAKEN with a matching cue of the control tag (R86, R87, R91, R92, R100, R150, R176). A BREAK cue with its
record's version and check is a repeat and changes nothing. One that changes an OPEN record and passes R89's checks
gives it the cue's content, points and instants in its place in the table, and the stance the conditions give. A CANCEL
takes an OPEN, DECIDED_GO or DECIDED_HOLD record out of the table without a HOLD, and its channel becomes IDLE; of any
other record it is refused as CANCEL_LATE; with no record, and with break id 0, it is counted alone. -/
def Obligations.CuesRepeatUpdateAndCancelBreaks : Prop :=
  let counted := fun (k : CueCounters) => { k with taken := min (k.taken + 1) 4294967295 }
  let alone := fun (s t : State) => t.cues.table = s.cues.table ∧ t.store = s.store ∧ t.chans = s.chans
    ∧ t.agree = s.agree ∧ t.tb = s.tb ∧ t.ros = s.ros
  (∀ (c : SiteConfig) (cell : Cell) (b : BreakCue) (r : BreakRecord) (s : State), CueTaken c cell (.breakCue b) s →
      b.id ≠ 0 → s.record? b.id = some r → r.version = b.version → r.check = b.check →
      ∃ t, exec (.cellTaken cell) s = .next t ∧ alone s t ∧ t.cues.counters =
        { counted s.cues.counters with repeats := min (s.cues.counters.repeats + 1) 4294967295 })
    ∧ (∀ (c : SiteConfig) (cell : Cell) (b : BreakCue) (r : BreakRecord) (s : State), CueTaken c cell (.breakCue b) s →
      b.id ≠ 0 → s.record? b.id = some r → r.version ≠ b.version ∨ r.check ≠ b.check → r.state = .openState →
      s.tb.disc ≠ .unset → (s.cues.table.map BreakRecord.id).Nodup →
      let cOut := resolveStamp s.tb.now b.outS b.outF
      let cIn := resolveStamp s.tb.now b.inS b.inF
      cOut < cIn → cIn - cOut ≤ 6000000000 → c.decisionMs * 10000 + c.marginMs * 10000 ≤ cOut - s.tb.now →
      b.tag ∈ c.routing →
      (∀ x ∈ s.cues.table, x.id ≠ b.id → x.tag = b.tag → ¬(x.cOut < cIn ∧ cOut < x.cIn)) →
      ∃ t r', exec (.cellTaken cell) s = .next t ∧ t.breakIds = s.breakIds ∧ t.record? b.id = some r'
        ∧ r'.version = b.version ∧ r'.check = b.check ∧ r'.tag = b.tag ∧ r'.cOut = cOut ∧ r'.cIn = cIn
        ∧ r'.spots = b.spots ∧ r'.pad = b.pad ∧ r'.state = .openState ∧ r'.stance = stanceOf t r'
        ∧ r'.decisionAt = cOut - c.decisionMs * 10000 ∧ r'.lockAt = cOut - c.lockMs * 10000
        ∧ t.cues.counters = { counted s.cues.counters with updates := min (s.cues.counters.updates + 1) 4294967295 }
        ∧ t.store.memory = s.store.memory ∧ t.tb = s.tb ∧ t.ros = s.ros ∧ t.em.state = s.em.state)
    ∧ (∀ (c : SiteConfig) (cell : Cell) (id : Nat) (r : BreakRecord) (s : State), CueTaken c cell (.cancel id) s →
      id ≠ 0 → s.record? id = some r → BreakTableLaw s → ChannelLaw s →
      (r.state = .openState ∨ r.state = .decidedGo ∨ r.state = .decidedHold →
        ∃ t, exec (.cellTaken cell) s = .next t ∧ t.record? id = none
          ∧ t.breakIds = s.breakIds.filter (fun n => n != id)
          ∧ (∀ k, r.channel = some k → ∃ x, t.chans.chan[k]? = some x ∧ x.state = .idle ∧ x.bound = none)
          ∧ t.cues.counters = { counted s.cues.counters with cancels := min (s.cues.counters.cancels + 1) 4294967295 }
          ∧ t.store.memory = s.store.memory ∧ t.tb = s.tb ∧ t.ros = s.ros ∧ t.em.state = s.em.state)
      ∧ (r.state ≠ .openState → r.state ≠ .decidedGo → r.state ≠ .decidedHold →
        ∃ t, exec (.cellTaken cell) s = .next t ∧ alone s t ∧ t.cues.counters = { counted s.cues.counters with
          refusals := s.cues.counters.refusals.modify RefusalCause.cancelLate.code fun n => min (n + 1) 4294967295 }))
    ∧ (∀ (c : SiteConfig) (cell : Cell) (id : Nat) (s : State), CueTaken c cell (.cancel id) s →
      (id ≠ 0 → s.record? id = none → ∃ t, exec (.cellTaken cell) s = .next t ∧ alone s t ∧ t.cues.counters =
        { counted s.cues.counters with unknownCancels := min (s.cues.counters.unknownCancels + 1) 4294967295 })
      ∧ (id = 0 → ∃ t, exec (.cellTaken cell) s = .next t ∧ alone s t ∧ t.cues.counters =
        { counted s.cues.counters with zeroId := min (s.cues.counters.zeroId + 1) 4294967295 }))

/-- END_INSTANT and REMOVAL_INSTANT (R95, R96, R99, R100, R142, R174 to R177). At its end instant a LOCKED_HOLD,
LOCKED_GO or AIRING record becomes ENDED, its removal instant C_in plus 2 s, which has not come yet; its bound channel,
ARMED, PLAYING or PADDING, counts the end, returns to IDLE and keeps its current plan. At its removal instant a record
leaves the table, and the others keep their order and ids. -/
def Obligations.BreaksEndAndLeaveTheTable : Prop :=
  (∀ (id : Nat) (r : BreakRecord) (s : State), BreakTableLaw s → ChannelLaw s →
      dueRecord id .endInstant s = some r →
      r.state = .lockedHold ∨ r.state = .lockedGo ∨ r.state = .airing → s.tb.now < r.cIn + 20000000 →
      ∃ t r', exec (.endInstant id) s = .next t ∧ t.record? id = some r' ∧ r'.state = .ended ∧ r'.stance = .ended
        ∧ r'.removalAt = some (r.cIn + 20000000) ∧ r'.channel = none ∧ r'.version = r.version ∧ r'.check = r.check
        ∧ (∀ k c, r.channel = some k → s.chans.chan[k]? = some c →
            ∃ c', t.chans.chan[k]? = some c' ∧ c'.state = .idle ∧ c'.bound = none ∧ c'.tag = none ∧ c'.plan = c.plan
              ∧ c'.counters.ended = min (c.counters.ended + 1) 4294967295)
        ∧ t.tb = s.tb ∧ t.em = s.em ∧ t.intake = s.intake ∧ t.ros = s.ros ∧ t.store.memory = s.store.memory)
    ∧ (∀ (id : Nat) (r : BreakRecord) (s : State), dueRecord id .removal s = some r →
      ∃ t, exec (.removalInstant id) s = .next t ∧ t.record? id = none
        ∧ t.breakIds = s.breakIds.filter (fun n => n != id)
        ∧ t.tb = s.tb ∧ t.em = s.em ∧ t.intake = s.intake ∧ t.ros = s.ros ∧ t.store.memory = s.store.memory)

/-! ### Chapter 8: the decision, the lock and the split watch -/

/-- DECISION_INSTANT (R93, R143 to R146, R158). With all four tests passed the oldest OPEN record whose decision is due
becomes DECIDED_GO with stance GO and the lowest-numbered IDLE channel, which becomes RESERVED on its service tag; the
GO is counted. With a test that fails it becomes DECIDED_HOLD with stance HOLD and the reason of the first test that
failed, and no channel and no spot changes. In both cases the split watch is WAITING. -/
def Obligations.DecisionGoesOrHolds : Prop :=
  (∀ (r : BreakRecord) (k : Nat) (s : State), BreakTableLaw s → AgreementLaw s → ChannelLaw s →
      s.chans.chan.length = 4 → decisionDue s = some r → r.stance = .ready →
      s.ros.quorum.getD 0 ≤ s.ros.presentCount → (∀ p ∈ s.ros.peers, p.state = .present → showsReady r p = true) →
      (∀ c ∈ s.chans.chan, c.state = .idle ∨ c.tag ≠ some r.tag) → idleChannel s = some k →
      ∃ t r' c', exec .decisionInstant s = .next t ∧ t.record? r.id = some r' ∧ r'.state = .decidedGo ∧ r'.stance = .go
        ∧ r'.channel = some k ∧ r'.watch = some .waiting ∧ r'.cOut = r.cOut ∧ r'.cIn = r.cIn ∧ r'.lockAt = r.lockAt
        ∧ t.chans.chan[k]? = some c' ∧ c'.state = .reserved ∧ c'.tag = some r.tag
        ∧ c'.bound = some ⟨r.id, r.cOut, r.cIn⟩
        ∧ t.agree.goDecisions = min (s.agree.goDecisions + 1) 4294967295
        ∧ t.tb = s.tb ∧ t.em = s.em ∧ t.intake = s.intake ∧ t.ros = s.ros ∧ t.store.memory = s.store.memory)
    ∧ (∀ (r : BreakRecord) (s : State), (s.cues.table.map BreakRecord.id).Nodup → decisionDue s = some r →
      let present := s.ros.presentCount < s.ros.quorum.getD 0
      let peer := ∃ p ∈ s.ros.peers, p.state = .present ∧ showsReady r p = false
      let channel := tagBound s r.tag = true ∨ idleChannel s = none
      (r.stance ≠ .ready ∨ present ∨ peer ∨ channel) →
      ∃ t r' reason, exec .decisionInstant s = .next t ∧ t.record? r.id = some r' ∧ r'.state = .decidedHold
        ∧ r'.stance = .hold reason ∧ r'.channel = r.channel ∧ r'.watch = some .waiting
        ∧ (r.stance = .pending → reason = .pending)
        ∧ (r.stance ≠ .pending → r.stance ≠ .ready → reason = .self)
        ∧ (r.stance = .ready → present → reason = .quorum)
        ∧ (r.stance = .ready → ¬present → peer → reason = .peer)
        ∧ (r.stance = .ready → ¬present → ¬peer → reason = .self)
        ∧ t.chans = s.chans ∧ t.store = s.store ∧ t.tb = s.tb ∧ t.em = s.em ∧ t.intake = s.intake ∧ t.ros = s.ros)

/-- LOCK_INSTANT (R94, R95, R142, R151, R160): a DECIDED_HOLD record becomes LOCKED_HOLD with its end instant at C_in; a
DECIDED_GO record whose play can still start at position 0 becomes LOCKED_GO with its end instant at C_in plus Lmax, and
its RESERVED channel becomes ARMED with its cursor at position 0. The stance is unchanged. -/
def Obligations.LockInstantLocksAndArms : Prop :=
  ∀ (id : Nat) (r : BreakRecord) (s : State), BreakTableLaw s → dueRecord id .lock s = some r →
    (r.state = .decidedHold → ∃ t r', exec (.lockInstant id) s = .next t ∧ t.record? id = some r'
      ∧ r'.state = .lockedHold ∧ r'.endAt = some r.cIn ∧ r'.stance = r.stance ∧ r'.channel = r.channel
      ∧ t.chans = s.chans ∧ t.store = s.store ∧ t.tb = s.tb ∧ t.em = s.em ∧ t.intake = s.intake ∧ t.ros = s.ros)
    ∧ (∀ k c b, r.state = .decidedGo → r.channel = some k → s.chans.chan[k]? = some c → c.state = .reserved →
      c.bound = some b → (∀ p, s.chans.lastPass = some p → p < b.cOut) → (∀ g, s.chans.lastGap = some g → g ≤ b.cOut) →
      ∃ t r' c', exec (.lockInstant id) s = .next t ∧ t.record? id = some r'
        ∧ r'.state = .lockedGo ∧ r'.endAt = some (r.cIn + s.setting SiteConfig.lmax 20000000) ∧ r'.stance = r.stance
        ∧ r'.channel = some k ∧ t.chans.chan[k]? = some c' ∧ c'.state = .armed ∧ c'.bound = some b
        ∧ c'.cursor.position = 0 ∧ c'.items.map PlayItem.spot = c.items.map PlayItem.spot
        ∧ c'.listedLength = listedLength c'.items
        ∧ t.tb = s.tb ∧ t.em = s.em ∧ t.intake = s.intake ∧ t.ros = s.ros ∧ t.store.memory = s.store.memory)

/-- WATCH_OPEN, WATCH_CLOSE (R154), and ZONE_MESSAGE with a roster peer's announcement (R128, R142, R147, R149, R152,
R155, R156). At its watch-open instant a WAITING watch becomes WATCHING, or CLOSED for a break of 2 s or less; at its
watch-close instant CLOSED. On an entry of its break and check with HOLD, NOT_READY or ABANDONED a DECIDED_GO record
goes to HOLD, and a LOCKED_GO record stays and notes the peer once as a late hold; no other record does. A WATCHING
record that differs from the peer in airing notes the peer once as a split, and the SPLIT latch is set. Where a record
stands behind others that act first, its HOLD may be their doing: the records' order is the model's choice (log entries
49 and 50). -/
def Obligations.WatchesOpenAndPeersHoldOrSplit : Prop :=
  (∀ (id : Nat) (r : BreakRecord) (s : State),
      (dueRecord id .watchOpen s = some r → ∃ t r', exec (.watchOpen id) s = .next t ∧ t.record? id = some r'
        ∧ r'.watch = some (if r.cIn - 10000000 ≤ r.cOut + 10000000 then .closed else .watching)
        ∧ r'.state = r.state ∧ r'.stance = r.stance
        ∧ t.chans = s.chans ∧ t.store = s.store ∧ t.tb = s.tb ∧ t.em = s.em ∧ t.intake = s.intake ∧ t.ros = s.ros)
      ∧ (dueRecord id .watchClose s = some r → exec (.watchClose id) s = .next { s with cues := { s.cues with
          table := s.cues.table.map fun x => if x.id = id then { x with watch := some .closed } else x } }))
    ∧ (∀ (c : SiteConfig) (bytes : List Byte) (a : Announcement) (p : Peer) (r : BreakRecord) (s : State),
      PeerMessage c bytes a p s → BreakTableLaw s → ChannelLaw s → s.record? r.id = some r →
      let entry := a.entries.find? fun e => e.id == r.id
      let refused := ∃ e, entry = some e ∧ e.check = r.check
        ∧ ((∃ reason, e.stance = .hold reason) ∨ (∃ reason, e.stance = .notReady reason) ∨ e.stance = .abandoned)
      let showsAiring := ∃ e, entry = some e ∧ e.stance = .airing
      let showsMatching := ∃ e, entry = some e ∧ e.stance = .airing ∧ e.version = r.version ∧ e.check = r.check
      let late := r.state = .lockedGo ∧ refused ∧ a.site ∉ r.lateReported
      let split := r.watch = some .watching ∧ a.site ∉ r.splitReported ∧ (r.state = .airing ∧ ¬showsMatching
        ∨ (r.state = .lockedHold ∨ r.state = .ended ∨ r.state = .abandoned) ∧ showsAiring)
      ∃ t r', exec (.zoneMessage bytes) s = .next t ∧ t.record? r.id = some r' ∧ t.tb = s.tb ∧ t.em = s.em
        ∧ t.intake = s.intake ∧ t.store.memory = s.store.memory ∧ r'.watch = r.watch
        ∧ (r.state = .decidedGo → refused → r'.state = .decidedHold ∧ r'.channel = none
          ∧ (∃ reason, r'.stance = .hold reason)
          ∧ (∀ rest, s.cues.table = r :: rest → r'.stance = .hold .heardHold)
          ∧ ∀ k x, r.channel = some k → t.chans.chan[k]? = some x → x.state = .idle)
        ∧ (r.state ≠ .openState → r.state ≠ .decidedGo → r'.state = r.state ∧ r'.stance = r.stance)
        ∧ (r.state = .lockedGo → r'.channel = r.channel)
        ∧ (late → r'.lateReported = insertSite a.site r.lateReported) ∧ (¬late → r'.lateReported = r.lateReported)
        ∧ (split → r'.splitReported = insertSite a.site r.splitReported ∧ t.sc.latchSplit = true)
        ∧ (¬split → r'.splitReported = r.splitReported)
        ∧ (s.cues.table = [r] →
          (late → t.agree.lateHolds = min (s.agree.lateHolds + 1) 4294967295)
          ∧ (¬late → t.agree.lateHolds = s.agree.lateHolds)
          ∧ (split → t.agree.zoneSplits = min (s.agree.zoneSplits + 1) 4294967295)
          ∧ (¬split → t.agree.zoneSplits = s.agree.zoneSplits)))

/-- The law of R149: a break that is DECIDED_HOLD or LOCKED_HOLD before a command is not DECIDED_GO, LOCKED_GO or AIRING
after it, whatever the command. -/
def Obligations.HeldBreaksNeverGo : Prop :=
  ∀ (c : Instr) (s t : State) (id : Nat) (r r' : BreakRecord), BreakTableLaw s → exec c s = .next t →
    s.record? id = some r → r.state.held = true → t.record? id = some r' → r'.state.goes = false

/-- R140's two conditions: a channel is free for a record's interval exactly when at every instant of it fewer than four
other reservations contain the instant, and no other reservation is on its service tag. -/
def Obligations.ChannelFreeAtEveryInstant : Prop :=
  ∀ (s : State) (r : BreakRecord), channelFree s r = true ↔
    (∀ t : Time, r.cOut ≤ t → t < r.cIn →
      (s.cues.table.filter fun o => o.id != r.id && o.channel.isSome && o.covers t).length < 4)
    ∧ ∀ o ∈ s.cues.table, o.id ≠ r.id → o.channel.isSome = true → o.tag ≠ r.tag

/-- Every step keeps the law of the break table (R86, R90). -/
def Obligations.BreakTableLawIsKept : Prop := ∀ s t : State, BreakTableLaw s → step s = .next t → BreakTableLaw t

/-- Every step leaves the stance of every OPEN record current and the own conditions of every DECIDED_GO record holding
(R137 to R140, R148). -/
def Obligations.StancesStayCurrent : Prop :=
  ∀ s t : State, BreakTableLaw s → AgreementLaw s → step s = .next t → AgreementLaw t

/-- Every step keeps the law of the channels (R158). -/
def Obligations.ChannelsFollowTheirBreaks : Prop :=
  ∀ s t : State, BreakTableLaw s → s.chans.chan.length = 4 → ChannelLaw s → step s = .next t → ChannelLaw t

/-! ### Chapter 9: the play sequence and the substitution -/

/-- R161 whole: positions below the listed length take the cells of the listed spots one after another, repeats played
again; a later position takes the pad's cell at the position less the listed length modulo the pad length, or filler
with no pad. -/
def Obligations.PlaySequenceIsTheListThenThePad : Prop :=
  ∀ (items : List PlayItem) (pad : Option PlayItem) (position : Nat),
    let cells := items.flatMap fun x => (List.range x.total).map fun j => PlayContent.spotCell x.spot (j / 256) (j % 256)
    cells.length = listedLength items
      ∧ (position < listedLength items → cells[position]? = some (contentAt items pad position))
      ∧ (listedLength items ≤ position → contentAt items pad position =
          match pad with
          | some x =>
            .spotCell x.spot ((position - listedLength items) % padLength pad / 256)
              ((position - listedLength items) % padLength pad % 256)
          | none => .filler)

/-- The cursor always names the content of its play position (R161, R162): set at arming and advanced by any number of
cells, over spots whose segments all hold 256 cells but the last, which holds 1 to 256. -/
def Obligations.CursorNamesThePlaySequence : Prop :=
  ∀ (items : List PlayItem) (pad : Option PlayItem) (k : Nat), items ≠ [] →
    (∀ x ∈ items ++ pad.toList, 1 ≤ x.segCount ∧ 1 ≤ x.lastCells ∧ x.lastCells ≤ 256) →
    ((Cursor.start items).advance items pad k).content items pad = contentAt items pad k
      ∧ ((Cursor.start items).advance items pad k).position = min k 4294967295

/-- R78, R167, R168, R169: a cell that no plan takes goes back as it came, with nothing changed. A programme cell that a
current plan takes is counted as substituted, and the plan's count and read cursor move on by one, whatever its content.
A cell of a spot whose read is good goes back as a spot cell of the plan's tag with the network cell's continuity count
and the body the store holds; a cell of FILL goes back as a filler cell, counted. A cell whose read is bad goes back as
one too, counted as a filler and, at channel and store, as a read failure; the failure joins the pending list of a
frozen entry, or makes the segment of another missing; and PLAY_READ_FAIL is reported, but for a segment that was the
channel's last failed one. A cell read in the pad is counted as one. The entry of a bad read is taken to be frozen, or no
record DECIDED_GO, so that nothing else follows. -/
def Obligations.SubstitutionFollowsThePlan : Prop :=
  let up := fun n : Nat => min (n + 1) 4294967295
  ∀ (frame k : Nat) (cell : Cell) (p : FramePlan) (c : Channel) (s : State),
    (takingChannel frame cell s = none → passChannels frame cell s = (cell, s))
    ∧ (takingChannel frame cell s = some (k, p) → s.chans.chan[k]? = some c →
      let r := passChannels frame cell s
      let plan := some { p with substituted := p.substituted + 1, read := p.read.step p.items p.padItem }
      let spotCounts := { c.counters with
        substituted := up c.counters.substituted
        padCells := if p.read.index = .pad then up c.counters.padCells else c.counters.padCells }
      cellTag cell = p.tag ∧ p.frame = frame ∧ cellKind cell = .programme ∧ p.substituted < p.count
        ∧ (∀ j, j ≠ k → r.2.chans.chan[j]? = s.chans.chan[j]?)
        ∧ (∀ x segment index body, p.read.content p.items p.padItem = .spotCell x segment index →
          s.store.read x.id segment index = some body →
          r.1 = makeCell p.tag 1 (cellCount cell) body
            ∧ r.2.chans.chan[k]? = some { c with plan := plan, counters := spotCounts }
            ∧ { r.2 with chans := s.chans } = s)
        ∧ (p.read.index = .fill → r.1 = fillerCell
          ∧ r.2.chans.chan[k]? = some { c with plan := plan, counters := { c.counters with
              substituted := up c.counters.substituted
              fillers := up c.counters.fillers } }
          ∧ { r.2 with chans := s.chans } = s)
        ∧ (∀ x segment index, p.read.content p.items p.padItem = .spotCell x segment index →
          s.store.read x.id segment index = none →
          let frozen := ∀ e, s.store.entry? x.id = some e → 0 < e.freeze
          (frozen ∨ ∀ y ∈ s.cues.table, y.state ≠ .decidedGo) →
          r.1 = fillerCell
            ∧ r.2.chans.chan[k]? = some { c with plan := plan, lastFailed := some (x.id, segment), counters := { spotCounts with
                fillers := up c.counters.fillers
                readFailures := up c.counters.readFailures } }
            ∧ r.2.store.counters.readFailures = up s.store.counters.readFailures
            ∧ (∀ e, s.store.entry? x.id = some e → r.2.store.entry? x.id = some (if 0 < e.freeze
              then { e with pending := if segment ∈ e.pending then e.pending else e.pending ++ [segment] }
              else { e with segs := e.segs.set segment none, state := .filling }))
            ∧ (frozen → r.2.cues = s.cues ∧ r.2.mon = if c.lastFailed = some (x.id, segment) then s.mon
              else (raise (.playReadFail k p.breakId x.id segment p.read.position) s).mon)
            ∧ r.2.em = s.em ∧ r.2.tb = s.tb ∧ r.2.store.memory = s.store.memory))

/-- A frame pass at an ARMED channel inside its interval with KNOWN counts (R158, R164, R165, R166, R98): the channel
plays, its record is AIRING, and the plan of an emitted frame starts at position 0 with the frame's count for the tag.
-/
def Obligations.FirstPassOfTheIntervalStartsThePlay : Prop :=
  ∀ (p : FramePass) (k : Nat) (c : Channel) (b : BoundBreak) (r : BreakRecord) (tag : Nat) (s : State),
    s.chans.chan[k]? = some c → c.state = .armed → c.bound = some b → c.tag = some tag →
    s.record? b.id = some r → r.state = .lockedGo → b.cOut ≤ p.c → p.c < b.cIn → p.status = .known →
    p.disposition = .emitted → c.cursor = Cursor.start c.items → c.items ≠ [] → p.countOf tag < c.listedLength →
    ∃ r' c', (channelPass p k s).record? b.id = some r' ∧ r'.state = .airing ∧ r'.stance = .airing
      ∧ (channelPass p k s).chans.chan[k]? = some c' ∧ c'.state = .playing
      ∧ c'.cursor = c.cursor.advance c.items c.padItem (p.countOf tag)
      ∧ c'.plan = some ⟨p.number, tag, 0, p.countOf tag, 0, c.cursor, c.breakId, c.items, c.padItem⟩
      ∧ (channelPass p k s).store = s.store ∧ (channelPass p k s).em = s.em ∧ (channelPass p k s).tb = s.tb

/-- A frame pass and a FRAME_GAP at a channel with its break (R95, R96, R98, R163 to R166, R170 to R177). A PLAYING or
PADDING channel inside its interval takes the frame's count of positions, keeps a plan from its cursor if the frame is
emitted, and is PADDING from the pass at which its position reaches the listed length; before C_out no channel acts. At
or after C_in the break ENDS, the channel IDLE with its plan kept. Counts UNKNOWN within the interval, and a gap at a
PLAYING or PADDING channel or after the C_out of an ARMED one, lose step: the record is ABANDONED with cause LOST_STEP,
the channel IDLE with no plan, the SPLIT latch set. A record whose removal instant has come leaves after that (the
model's place for it: log entry 48); it is taken not to have come. -/
def Obligations.LaterPassesGapsAndLossOfStep : Prop :=
  ∀ (k : Nat) (c : Channel) (b : BoundBreak) (r : BreakRecord) (tag : Nat) (s : State), BreakTableLaw s → ChannelLaw s →
    k < 4 → s.chans.chan[k]? = some c → c.bound = some b → c.tag = some tag → s.record? b.id = some r →
    r.state = .lockedGo ∨ r.state = .airing → s.tb.now < r.cIn + 20000000 →
    let ends := fun (state : BreakState) (cause : Option AbandonCause) (plan : Option FramePlan) (t : State) =>
      (∃ r', t.record? b.id = some r' ∧ r'.state = state ∧ r'.stance = movedStance state ∧ r'.abandonCause = cause
        ∧ r'.removalAt = some (r.cIn + 20000000) ∧ r'.channel = none)
      ∧ ∃ x, t.chans.chan[k]? = some x ∧ x.state = .idle ∧ x.bound = none ∧ x.plan = plan
        ∧ x.counters = { c.counters with
          lostSteps := if cause = some .lostStep then min (c.counters.lostSteps + 1) 4294967295 else c.counters.lostSteps
          ended := if state = .ended then min (c.counters.ended + 1) 4294967295 else c.counters.ended }
        ∧ t.store.memory = s.store.memory ∧ t.em = s.em ∧ t.tb = s.tb ∧ t.ros = s.ros
    let lost := fun t : State => ends .abandoned (some .lostStep) none t ∧ t.sc.latchSplit = true
    let playing := c.state = .playing ∨ c.state = .padding
    (∀ p : FramePass,
      (playing → b.cOut ≤ p.c → p.c < b.cIn → p.status = .known →
        let t := channelPass p k s
        let cursor := c.cursor.advance c.items c.padItem (p.countOf tag)
        t.chans.chan[k]? = some { c with
            cursor := cursor
            plan := if p.disposition = .emitted
              then some ⟨p.number, tag, c.cursor.position, p.countOf tag, 0, c.cursor, b.id, c.items, c.padItem⟩ else c.plan
            state := if c.listedLength ≤ cursor.position then .padding else c.state
            counters := { c.counters with
              framesPlanned := min (c.counters.framesPlanned + 1) 4294967295
              positionsPlanned := min (c.counters.positionsPlanned + p.countOf tag) 4294967295 } }
          ∧ { t with chans := s.chans, mon := s.mon } = s)
      ∧ (playing ∨ c.state = .armed → b.cIn ≤ p.c → ends .ended none c.plan (channelPass p k s))
      ∧ (playing → p.c < b.cIn → p.status ≠ .known → lost (channelPass p k s))
      ∧ (c.state = .armed → b.cOut ≤ p.c → p.c < b.cIn → p.status ≠ .known → lost (channelPass p k s))
      ∧ (c.state = .reserved ∨ c.state = .armed ∧ p.c < b.cOut ∧ b.cOut < b.cIn
          ∨ playing ∧ p.c < b.cOut ∧ p.c < b.cIn ∧ p.status = .known →
        channelPass p k s = s))
    ∧ (∀ at_ : Time,
      (playing ∨ c.state = .armed ∧ b.cOut < at_ → lost (channelGap at_ k s))
      ∧ (c.state = .reserved ∨ c.state = .armed ∧ at_ ≤ b.cOut → channelGap at_ k s = s))

/-! ### Chapter 6: the zone line -/

/-- LINE_BUSY, LINE_IDLE, OPENING_MARK and MESSAGE_BROKEN (R104, R105, R107, R108, R112 to R114). A transition makes the
line busy, leaves IDLE for RECEIVING, and gives a message in reception a bit when it lies within a quarter bit time of
the expected middle of its cell; 2 bit times low or 3 high after the last one the line is idle, RECEIVING becomes IDLE
and a back-off wait begins; while the receiver is OFF the level alone is kept. A high level of 1.5 to 2.5 bit times that
falls now puts the receiver in MESSAGE, its arrival time the rising edge, marked as the echo when that instant lies in
the echo window and none has been found. A broken message is counted, the receiver hunts, and a broken echo fails its
attempt. That an OFF receiver's line keeps its level alone (log entry 16), and that the falling edge of an opening mark
is a command of its own, with its message broken first (log entry 6), is the model's choice. -/
def Obligations.LineActivityAndReceptionFollowTheTransitions : Prop :=
  ((∀ (level : Bool) (s : State), s.zone.rxLevel ≠ level → s.zone.receiver ≠ .off → s.zone.guarding s.tb.now = false →
      exec (.lineBusy level) s = .next { s with zone := { s.zone with
        rxLevel := level, busySince := some s.tb.now, idleSince := none, waitFrom := none
        receiver := match s.zone.receiver with
          | .message m => .message (if m.middle - 10 ≤ s.tb.now ∧ s.tb.now ≤ m.middle + 10 then
              { m with bits := m.bits ++ [!level], middle := s.tb.now + 40 } else m)
          | other => other
        line := if s.zone.line = .idle then .receiving else s.zone.line } })
      ∧ (∀ (level : Bool) (s : State), s.zone.rxLevel ≠ level → s.zone.receiver = .off →
        exec (.lineBusy level) s = .next { s with zone := { s.zone with rxLevel := level } })
      ∧ (∀ (last : Time) (s : State), s.zone.busySince = some last →
        last + (if s.zone.rxLevel then 120 else 80) ≤ s.tb.now → s.zone.receiver = .hunt →
        exec .lineIdle s = .next { s with zone := { s.zone with
          busySince := none, idleSince := some s.tb.now
          waitFrom := if s.zone.line = .backoff then some s.tb.now else none
          line := if s.zone.line = .receiving then .idle else s.zone.line } }))
    ∧ ((∀ (high : Nat) (s : State), 60 ≤ high → high ≤ 100 → s.zone.receiver = .hunt → s.zone.rxLevel = true →
      s.zone.guarding s.tb.now = false →
      ∃ t echo, exec (.openingMark high) s = .next t ∧ t.zone.receiver = .message ⟨s.tb.now - high, echo, [], s.tb.now - high + 140⟩
        ∧ (echo = true ↔ ∃ opens closes, s.zone.echo = .opened opens closes false ∧ opens ≤ s.tb.now - high
            ∧ s.tb.now - high ≤ closes)
        ∧ t.zone.rxLevel = false ∧ t.zone.busySince = some s.tb.now ∧ t.zone.idleSince = none
        ∧ t.zone.counters = s.zone.counters ∧ t.zone.flight = s.zone.flight ∧ t.zone.slot = s.zone.slot
        ∧ { t with zone := s.zone } = s)
      ∧ (∀ (m : Reception) (s : State), s.zone.receiver = .message m →
        exec .messageBroken s = .next { s with zone := { s.zone with
          receiver := .hunt
          counters := { s.zone.counters with broken := min (s.zone.counters.broken + 1) 4294967295 }
          flight := if m.echo then s.zone.flight.map fun f =>
              if f.verdict = none then { f with verdict := some false } else f
            else s.zone.flight } }))

/-- The line signal reads back: a receiver that enters MESSAGE at a transmission's opening mark, 2 bit times after the
guard began, and takes the transitions that the transmission makes on a line that was low and is released at its end,
has then received the message's own bits and bytes, and the message is complete when it has the length its count asks
for (R103, R105, R106). -/
def Obligations.TransmittedSignalReadsBack : Prop :=
  ∀ (m : List Byte) (t : Time) (echo : Bool),
    (lineSignal m ++ [false]).length * (20 : Int) = signalTime m + 20
      ∧ ∃ r : Reception, (transitionsOf false t (lineSignal m ++ [false])).foldl
            (fun (z : Receiver) x => z.transition x.time x.level)
            (.message (Reception.start (t + 80) echo)) = .message r
        ∧ r.arrival = t + 80 ∧ r.echo = echo ∧ r.bits = m.flatMap byteBits ∧ r.bytes = m
        ∧ (messageLengthOk m = true → r.complete = some m)

/-- The commands of an attempt (R103, R109 to R114, R120). After the recovery gap of an idle line a first attempt takes
the slot's announcement, and after the back-off wait a retry takes its message with what waits in the slot; the content
is formed then, the guard begins, and the attempt is counted. A transition during the guard of 2 bit times, its last
instant included, counts a deferral: a first attempt goes back to the slot, merging with what waits there; a retry keeps
its message, without content, in BACKOFF, its wait afresh. The window opens as the guard ends and closes loop delay + 8
bit times later, and one that closes with no echo and the line low fails the attempt; both commands act from the TU
after their instant (the model's choice: log entry 55). With its verdict given and its 8 × (bytes) + 6 bit times over,
an attempt is delivered and counted, or is a collision in BACKOFF, or, a retry, is lost and reported. -/
def Obligations.AttemptsBeginAreDeferredAndEnd : Prop :=
  (((∀ (c : SiteConfig) (kind : AnnouncementKind) (idle : Time) (s : State), s.sc.config = .valid →
      s.sc.inUse = some c → s.zone.slot = some kind → s.zone.flight = none → s.zone.idleSince = some idle →
      idle + c.gap * 40 ≤ s.tb.now →
      exec .attemptStart s = .next { s with zone := { s.zone with
        slot := none, line := .transmitting, waitFrom := none
        flight := some ⟨kind, .first, (announce c kind s).bytes, s.tb.now, true, none⟩
        counters := { s.zone.counters with attempts := min (s.zone.counters.attempts + 1) 4294967295 } } })
      ∧ (∀ (c : SiteConfig) (f : InFlight) (since : Time) (s : State), s.sc.config = .valid → s.sc.inUse = some c →
        s.zone.line = .backoff → s.zone.flight = some f → s.zone.waitFrom = some since →
        since + max (((c.site : Int) + 1) * 48) c.gap * 40 ≤ s.tb.now →
        let kind := match s.zone.slot with | none => f.kind | some w => mergeKind w f.kind
        exec .retryStart s = .next { s with zone := { s.zone with
          slot := none, line := .transmitting, waitFrom := none
          flight := some ⟨kind, .retry, (announce c kind s).bytes, s.tb.now, true, none⟩
          counters := { s.zone.counters with
            attempts := min (s.zone.counters.attempts + 1) 4294967295
            retries := min (s.zone.counters.retries + 1) 4294967295
            merges := if s.zone.slot.isSome then min (s.zone.counters.merges + 1) 4294967295
              else s.zone.counters.merges } } }))
    ∧ ((∀ (c : SiteConfig) (f : InFlight) (s : State), s.sc.config = .valid → s.sc.inUse = some c →
      s.zone.line = .transmitting → s.zone.flight = some f → f.inGuard = true → f.guardAt + 80 < s.tb.now →
      exec .echoWindowOpen s = .next { s with zone := { s.zone with
        flight := some { f with inGuard := false }
        echo := .opened (f.guardAt + 80) (f.guardAt + 80 + (c.loopDelay + 8) * 40) false } })
      ∧ (∀ (opens closes : Time) (found : Bool) (s : State), s.zone.echo = .opened opens closes found →
        closes < s.tb.now → found = true ∨ s.zone.rxLevel = false →
        exec .echoWindowClose s = .next { s with zone := { s.zone with
          echo := .closed
          flight := if found then s.zone.flight else s.zone.flight.map fun f =>
            if f.verdict = none then { f with verdict := some false } else f } })))
    ∧ ((∀ (level : Bool) (f : InFlight) (s : State), s.zone.line = .transmitting → s.zone.flight = some f →
      f.inGuard = true → s.tb.now ≤ f.guardAt + 80 → s.zone.rxLevel ≠ level → s.zone.receiver ≠ .off →
      (f.attempt = .first → exec (.deferral level) s = .next { s with zone := { s.zone with
        rxLevel := level, busySince := some s.tb.now, idleSince := none, waitFrom := none, line := .receiving
        receiver := s.zone.receiver.transition s.tb.now level, flight := none
        slot := some (match s.zone.slot with | none => f.kind | some w => mergeKind f.kind w)
        counters := { s.zone.counters with
          deferrals := min (s.zone.counters.deferrals + 1) 4294967295
          merges := if s.zone.slot.isSome then min (s.zone.counters.merges + 1) 4294967295
            else s.zone.counters.merges } } })
      ∧ (f.attempt = .retry → exec (.deferral level) s = .next { s with zone := { s.zone with
        rxLevel := level, busySince := some s.tb.now, idleSince := none, waitFrom := none, line := .backoff
        receiver := s.zone.receiver.transition s.tb.now level
        flight := some { f with bytes := [], inGuard := false, verdict := none }
        counters := { s.zone.counters with
          deferrals := min (s.zone.counters.deferrals + 1) 4294967295 } } }))
    ∧ (∀ (f : InFlight) (s : State), s.zone.line = .transmitting → s.zone.flight = some f → f.inGuard = false →
      f.guardAt + (8 * (f.bytes.length : Int) + 6) * 40 ≤ s.tb.now →
      let standing : LineState := if s.zone.idleSince.isSome then .idle else .receiving
      (f.verdict = some true → exec .attemptEnd s = .next { s with zone := { s.zone with
        flight := none, line := standing
        counters := { s.zone.counters with
          delivered := min (s.zone.counters.delivered + 1) 4294967295
          urgentDelivered := if f.kind = .urgent then min (s.zone.counters.urgentDelivered + 1) 4294967295
            else s.zone.counters.urgentDelivered } } })
      ∧ (f.verdict = some false → f.attempt = .first → exec .attemptEnd s = .next { s with zone := { s.zone with
        flight := some { f with bytes := [], inGuard := false, verdict := none }
        line := .backoff
        waitFrom := if s.zone.idleSince.isSome then some s.tb.now else none
        counters := { s.zone.counters with collisions := min (s.zone.counters.collisions + 1) 4294967295 } } })
      ∧ (f.verdict = some false → f.attempt = .retry → exec .attemptEnd s = .next
        (raise (.announcementLost f.kind (f.bytes.getD 4 0).toNat) { s with zone := { s.zone with
          flight := none, line := standing
          counters := { s.zone.counters with lost := min (s.zone.counters.lost + 1) 4294967295 } } }))))

/-- PERIODIC_DUE (R109, R115, R116): a PERIODIC announcement joins the slot in every line state, merging into one that
waits there; the next due instant is the present one plus a whole number of periods, the first that lies after now. -/
def Obligations.PeriodicDueJoinsTheSlotAndKeepsThePhase : Prop :=
  ∀ (c : SiteConfig) (due : Time) (s : State), s.sc.config = .valid → s.sc.inUse = some c → 0 < c.period →
    s.zone.schedule = some due → due ≤ s.tb.now →
    ∃ t next m, exec .periodicDue s = .next t ∧ t.zone.schedule = some next ∧ next = due + (m : Nat) * (c.period * 100000)
      ∧ s.tb.now < next ∧ next - c.period * 100000 ≤ s.tb.now
      ∧ t.zone.slot = some (s.zone.slot.getD .periodic)
      ∧ t.zone.counters = { s.zone.counters with
          merges := if s.zone.slot.isSome then min (s.zone.counters.merges + 1) 4294967295 else s.zone.counters.merges }
      ∧ t.zone.line = s.zone.line ∧ t.zone.flight = s.zone.flight ∧ { t with zone := s.zone } = s

/-! ### Chapter 7: announcements and the roster -/

/-- An announcement with at most eight entries, byte-sized numbers, and break ids from 1 to 65,535 with none twice is
read back whole from its own bytes: 7 + 8 × n of them, with a check that holds (R106, R120, R122, R124; section 10.8.6).
-/
def Obligations.AnnouncementBytesReadBack : Prop :=
  ∀ a : Announcement, a.entries.length ≤ 8 → a.site < 256 →
    (∀ e ∈ a.entries, 1 ≤ e.id ∧ e.id ≤ 65535 ∧ e.version < 256) → (a.entries.map BreakEntry.id).Nodup →
    announcementOf a.bytes = some a ∧ messageCheckOk a.bytes = true ∧ a.bytes.length = 7 + 8 * a.entries.length
      ∧ messageLengthOk a.bytes = true

/-- ZONE_MESSAGE (R106, R113, R117, R124 to R129, R132), and SILENCE_TIMER_EXPIRY (R130). A message whose entry count is
above 8, and one whose check fails, is discarded and counted, and, as the echo, fails its attempt; an intact one is
counted, and, as the echo, is judged: delivered exactly when its bytes equal those sent. Of the intact ones, a message
that is not well formed, one of another zone, the own echo and a stranger's are counted and change nothing else of the
roster. The own number outside the echo is counted and sets the duplicate latch, unless it is set, and with it the FAULT
latch; with the schedule started an URGENT announcement waits. A roster peer's message replaces its record's
announcement, sets its last-heard time to the arrival, loads its silence timer with the liveness span, makes it PRESENT
and is counted by its kind. A PRESENT peer whose timer has fallen due becomes ABSENT, its timer stopped, its
announcement and last-heard time kept; it is counted and reported. -/
def Obligations.MessagesReachTheRosterAndSilentPeersLeave : Prop :=
  let judged := fun (m : Reception) (delivered : InFlight → Bool) (s : State) =>
    if m.echo = true then s.zone.flight.map fun f =>
      if f.verdict = none then { f with verdict := some (delivered f) } else f
    else s.zone.flight
  (∀ (c : SiteConfig) (bytes : List Byte) (m : Reception) (s : State), messageLengthOk bytes = true →
      s.sc.config = .valid → s.sc.inUse = some c → s.zone.receiver = .message m →
      (8 < byteAt bytes 4 → exec (.zoneMessage bytes) s = .next { s with zone := { s.zone with
        receiver := .hunt
        flight := judged m (fun _ => false) s
        counters := { s.zone.counters with overCount := min (s.zone.counters.overCount + 1) 4294967295 } } })
      ∧ (byteAt bytes 4 ≤ 8 → messageCheckOk bytes = false → exec (.zoneMessage bytes) s = .next { s with zone := { s.zone with
        receiver := .hunt
        flight := judged m (fun _ => false) s
        counters := { s.zone.counters with
          checkFailures := min (s.zone.counters.checkFailures + 1) 4294967295 } } }))
    ∧ (∀ (c : SiteConfig) (bytes : List Byte) (m : Reception) (s : State), IntactMessage c bytes m s →
      let counts := fun (t : State) (ros : PeerRoster) => t.ros = ros ∧ t.zone.receiver = .hunt ∧ t.mon = s.mon
        ∧ t.sc = s.sc ∧ t.tb = s.tb ∧ t.cues = s.cues ∧ t.store = s.store
      ∃ t, exec (.zoneMessage bytes) s = .next t
        ∧ t.zone.flight = judged m (fun f => decide (bytes = f.bytes)) s
        ∧ t.zone.counters = { s.zone.counters with
          intact := min (s.zone.counters.intact + 1) 4294967295, merges := t.zone.counters.merges }
        ∧ (announcementOf bytes = none → counts t { s.ros with malformed := min (s.ros.malformed + 1) 4294967295 })
        ∧ ∀ a, announcementOf bytes = some a →
          (a.zoneCode ≠ c.zoneCode → counts t { s.ros with otherZone := min (s.ros.otherZone + 1) 4294967295 })
          ∧ (a.zoneCode = c.zoneCode → a.site = c.site → m.echo = true →
            counts t { s.ros with ownEchoes := min (s.ros.ownEchoes + 1) 4294967295 })
          ∧ (a.zoneCode = c.zoneCode → a.site = c.site → m.echo = false →
            t.ros = { s.ros with duplicates := min (s.ros.duplicates + 1) 4294967295, duplicate := true }
            ∧ t.tb = s.tb ∧ t.em = s.em ∧ t.store.memory = s.store.memory
            ∧ (s.ros.duplicate = true → t.mon = s.mon ∧ t.sc = s.sc ∧ t.cues = s.cues)
            ∧ (s.ros.duplicate = false → t.sc.latchFault = true
              ∧ (s.zone.schedule.isSome = true → t.zone.slot = some .urgent)))
          ∧ (a.zoneCode = c.zoneCode → a.site ≠ c.site → a.site ∉ s.ros.roster →
            counts t { s.ros with strangers := min (s.ros.strangers + 1) 4294967295 }))
    ∧ (∀ (c : SiteConfig) (bytes : List Byte) (a : Announcement) (p : Peer) (s : State), PeerMessage c bytes a p s →
      ∃ t p' m, exec (.zoneMessage bytes) s = .next t ∧ s.zone.receiver = .message m ∧ t.peer? a.site = some p'
        ∧ p'.site = a.site ∧ p'.last = some a ∧ p'.lastHeard = some m.arrival ∧ p'.state = .present
        ∧ p'.timer = some (s.tb.now + c.liveness * c.period * 100000)
        ∧ p'.periodicTaken = (if a.kind = .periodic then min (p.periodicTaken + 1) 4294967295 else p.periodicTaken)
        ∧ p'.urgentTaken = (if a.kind = .urgent then min (p.urgentTaken + 1) 4294967295 else p.urgentTaken)
        ∧ p'.absences = p.absences
        ∧ (∀ q ∈ s.ros.peers, q.site ≠ a.site → q ∈ t.ros.peers)
        ∧ t.ros.duplicate = s.ros.duplicate ∧ t.zone.receiver = .hunt ∧ t.tb = s.tb ∧ t.sc.inUse = s.sc.inUse
        ∧ (s.cues.table = [] → t.cues = s.cues ∧ t.sc = s.sc))
    ∧ (∀ (site : Nat) (p : Peer) (expiry : Time) (s : State), s.peer? site = some p → p.state = .present →
    p.timer = some expiry → expiry ≤ s.tb.now →
    exec (.silenceTimerExpiry site) s = .next (raise (.peerAbsent site p.lastHeard) { s with ros := { s.ros with
      peers := s.ros.peers.map fun x => if x.site = site then
        { x with state := .absent, timer := none, absences := min (x.absences + 1) 4294967295 } else x } }))

/-- The law of the duplicate latch (R121, R132): an announcement formed while the latch is set carries no stance but
NOT_READY(DUPLICATE); from a state that keeps the laws of the break table and of the stances, no command leaves a
record DECIDED_GO while it is set; and no command but POWER_ON_RESET clears it. -/
def Obligations.DuplicateLatchHoldsItsLaw : Prop :=
  (∀ (c : SiteConfig) (kind : AnnouncementKind) (s : State), s.ros.duplicate = true →
      ∀ e ∈ (announce c kind s).entries, e.stance = .notReady .duplicate)
    ∧ (∀ (c : Instr) (s t : State), BreakTableLaw s → AgreementLaw s → s.ros.duplicate = true → exec c s = .next t →
      ∀ r ∈ t.cues.table, t.ros.duplicate = true → r.state ≠ .decidedGo)
    ∧ (∀ (c : Instr) (s t : State), c ≠ .powerOnReset → s.ros.duplicate = true → exec c s = .next t →
      t.ros.duplicate = true)

/-! ### Chapter 10: site control and monitoring -/

/-- LOAD_START, CONFIG_READ_COMPLETE and NO_RECORD (R57, R59, R179 to R181, R185, R186). With the RESTART line active,
or its first level not yet taken, the line is taken inactive and a loader that waits in LOADING sends its request. A
record that fails its check or its format, that has one tag for control and asset, or that has not come in its time,
ends the load in FAULT with its cause: the emission state is FAULT, the AIR and FAULT latches are set, and the record in
use, the time base and the roster stay. The loader WAITING outside a load (log entry 27), the read limits counted on the
oscillator (log entry 10), the operand of NO_RECORD (log entry 29) and the 10 ms of the line as counted (log entry 28)
are the model's choice. -/
def Obligations.LoadsStartAndMayEndInFault : Prop :=
  (∀ s : State, s.sc.restartTaken = false ∨ s.sc.restartLine = true → s.sc.restartSince + 100000 ≤ s.osc →
      s.sc.config = .loading → s.sc.loader = .waiting →
      exec .loadStart s = .next { s with sc := { s.sc with
        restartLine := false
        restartTaken := true
        restartSince := if s.sc.restartLine = true then s.osc else s.sc.restartSince
        loader := .reading s.osc } })
    ∧ (let faults := fun (cause : LoadFault) (s t : State) =>
      t.sc.config = .fault ∧ t.sc.loader = .waiting ∧ t.sc.faultCause = some cause ∧ t.sc.inUse = s.sc.inUse
        ∧ t.sc.faults = min (s.sc.faults + 1) 4294967295 ∧ t.sc.latchAir = true ∧ t.sc.latchFault = true
        ∧ t.em.state = .fault ∧ t.em.carrier = false ∧ t.em.queue = s.em.queue ∧ t.tb = s.tb ∧ t.ros = s.ros
        ∧ t.intake = s.intake ∧ t.store.memory = s.store.memory
    (∀ (record : List Byte) (since : Nat) (s : State), record.length = 78 → s.sc.loader = .reading since →
        crc32 (record.take 74) ≠ BitVec.ofNat 32 (numAt record 74 4) →
        ∃ t, exec (.configReadComplete record) s = .next t ∧ faults .badCheck s t)
      ∧ (∀ (record : List Byte) (since : Nat) (s : State), record.length = 78 → s.sc.loader = .reading since →
        crc32 (record.take 74) = BitVec.ofNat 32 (numAt record 74 4) → numAt record 0 2 ≠ 0x3C01 →
        ∃ t, exec (.configReadComplete record) s = .next t ∧ faults .badFormat s t)
      ∧ (∀ (record : List Byte) (since : Nat) (s : State), record.length = 78 → s.sc.loader = .reading since →
        crc32 (record.take 74) = BitVec.ofNat 32 (numAt record 74 4) → numAt record 0 2 = 0x3C01 →
        (clampRecord record).1.controlTag = (clampRecord record).1.assetTag →
        ∃ t, exec (.configReadComplete record) s = .next t ∧ faults .tagConflict s t)
      ∧ (∀ (firstByte : Bool) (since : Nat) (s : State), s.sc.loader = .reading since →
        since + (if firstByte then 1000000 else 200000) ≤ s.osc →
        ∃ t, exec (.noRecord firstByte) s = .next t ∧ faults .noRecord s t))

/-- CONFIG_READ_COMPLETE with a record that passes its three tests, its check, its format and two tags apart (R8, R12,
R14, R22, R47, R60, R118, R133, R134, R181, R184): the configuration is VALID with the clamped values in use, the load
is counted, the roster and the quorum are taken with fresh UNHEARD peer records, and the receiver hunts on a line taken
as busy. A reference that is no longer fitted, or newly is, is INVALID with empty runs, last mark and last label; the
other keeps its validity; the selection is recomputed, and with none left TRACK, and ACQUIRE after a TRACK, go to
HOLDOVER, another ACQUIRE to UNSET; with nothing new in the fitting and the selection the time base is as it was. U is
compared with the new emission limit: outside FAULT the TIME cause stands exactly where U exceeds it, and one that is
added mutes ON_AIR. The high flag follows the new thresholds. Site time, T, U, the feed, the break table and the store
stay. That the loader is WAITING once the load is over is the model's choice (log entry 27). -/
def Obligations.ValidRecordComesIntoUse : Prop :=
  ∀ (record : List Byte) (since : Nat) (s : State), record.length = 78 → s.sc.loader = .reading since →
    crc32 (record.take 74) = BitVec.ofNat 32 (numAt record 74 4) → numAt record 0 2 = 0x3C01 →
    let c := (clampRecord record).1
    c.controlTag ≠ c.assetTag →
    let fits := fun r : Ref => match r with | .a => c.fittedA | .b => c.fittedB
    let valid := fun r : Ref => s.fitted r == fits r && (s.tb.ref r).valid
    let selection := if valid .a = true then some Ref.a else if valid .b = true then some Ref.b else none
    ∃ t, exec (.configReadComplete record) s = .next t ∧ t.sc.config = .valid ∧ t.sc.loader = .waiting
      ∧ t.sc.faultCause = none ∧ t.sc.inUse = some c ∧ t.sc.loads = min (s.sc.loads + 1) 4294967295
      ∧ t.ros.roster = c.roster ∧ t.ros.quorum = some c.quorum
      ∧ t.ros.peers = (c.roster.filter fun n => n != c.site).map
          (fun n => ⟨n, .unheard, none, none, none, 0, 0, 0⟩)
      ∧ t.ros.duplicate = s.ros.duplicate ∧ t.zone.receiver = .hunt ∧ t.zone.busySince = some s.tb.now
      ∧ (∀ r, t.fitted r = fits r ∧ (t.tb.ref r).valid = valid r ∧ (s.fitted r ≠ fits r →
        (t.tb.ref r).goodRun = 0 ∧ (t.tb.ref r).badRun = 0 ∧ (t.tb.ref r).lastMark = none
          ∧ (t.tb.ref r).lastLabel = none))
      ∧ t.growth = c.growth ∧ t.tb.selected = selection
      ∧ t.tb.disc = (if selection = none ∧ s.tb.selected ≠ none then
          (match s.tb.disc with
            | .track => .holdover
            | .acquire => if s.tb.tracked = true then .holdover else .unset
            | other => other)
        else s.tb.disc)
      ∧ ((∀ r, s.fitted r = fits r) → s.tb.selected = selection → t.tb = s.tb)
      ∧ t.tb.now = s.tb.now ∧ t.tb.trim = s.tb.trim ∧ t.tb.u = s.tb.u
      ∧ (s.em.state ≠ .fault → t.em.causes = { s.em.causes with time := decide (c.emissionLimit < s.tb.u) }
        ∧ t.em.state = if s.em.state = .onAir ∧ c.emissionLimit < s.tb.u ∧ s.em.causes.time = false then .muted
          else s.em.state)
      ∧ t.em.queue = { s.em.queue with
        high := (s.em.queue.high || decide (c.almostFull ≤ s.em.queue.occupancy))
          && decide (c.almostEmpty < s.em.queue.occupancy) }
      ∧ t.intake = s.intake ∧ t.breakIds = s.breakIds ∧ t.store.memory = s.store.memory

/-- A record's values after clamping lie in the ranges of R182, the quorum from 1 to the roster size with the own number
in the roster (R133, R134), and the routing list holds at most 16 tags from 1 to 63, none of them twice, the control tag
or the asset tag (R183). -/
def Obligations.ClampedRecordLiesInItsRanges : Prop :=
  ∀ record : List Byte,
    let c := (clampRecord record).1
    c.site ≤ 15 ∧ c.site ∈ c.roster ∧ 1 ≤ c.quorum ∧ c.quorum ≤ c.roster.length ∧ 2 ≤ c.liveness ∧ c.liveness ≤ 16
      ∧ (-500000 ≤ c.offset ∧ c.offset ≤ 500000) ∧ (0 ≤ c.latency ∧ c.latency ≤ 1000000)
      ∧ (10000 ≤ c.lmin ∧ c.lmin ≤ 10000000) ∧ (c.lmin ≤ c.lmax ∧ c.lmax ≤ 50000000)
      ∧ (100 ≤ c.interval ∧ c.interval ≤ 10000) ∧ (10 ≤ c.emissionLimit ∧ c.emissionLimit ≤ 5000)
      ∧ c.growth ≤ 255 ∧ (10 ≤ c.period ∧ c.period ≤ 100) ∧ (500 ≤ c.starveMs ∧ c.starveMs ≤ 10000)
      ∧ (20 ≤ c.feedLossMs ∧ c.feedLossMs ≤ 1000) ∧ (1024 ≤ c.almostFull ∧ c.almostFull ≤ 65536)
      ∧ c.almostEmpty + 1024 ≤ c.almostFull ∧ (8 ≤ c.gap ∧ c.gap ≤ 64) ∧ (0 ≤ c.loopDelay ∧ c.loopDelay ≤ 64)
      ∧ (1000 ≤ c.decisionMs ∧ c.decisionMs ≤ 30000) ∧ (200 ≤ c.lockMs ∧ c.lockMs + 500 ≤ c.decisionMs)
      ∧ (1000 ≤ c.marginMs ∧ c.marginMs ≤ 60000) ∧ (1 ≤ c.controlTag ∧ c.controlTag ≤ 63)
      ∧ (1 ≤ c.assetTag ∧ c.assetTag ≤ 63) ∧ c.routing.length ≤ 16 ∧ c.routing.Nodup
      ∧ (∀ tag ∈ c.routing, 1 ≤ tag ∧ tag ≤ 63 ∧ tag ≠ c.controlTag ∧ tag ≠ c.assetTag)

/-- OVERRIDE_CHANGE (R96, R98, R117, R123, R142, R148, R149, R173, R187, R188): the new level is taken; with the
schedule started an URGENT announcement waits. When the line becomes active, every DECIDED_GO record goes to HOLD(SELF),
and every ARMED, PLAYING or PADDING channel gives up: no channel is in those states afterwards, the SPLIT latch is set,
and the record, LOCKED_GO or AIRING before, is ABANDONED with cause OVERRIDE and stays in the table while its removal
instant has not come. The 10 ms since the line's last level are counted as log entry 28 says; the place at which a
record with its removal instant past leaves is the model's (log entry 48). -/
def Obligations.OverrideGivesUpEveryBreak : Prop :=
  ∀ (active : Bool) (s : State), s.sc.overrideLine ≠ active → s.sc.overrideSince + 100000 ≤ s.osc →
    ∃ t, exec (.overrideChange active) s = .next t ∧ t.sc.overrideLine = active ∧ t.sc.overrideSince = s.osc
      ∧ (s.zone.schedule.isSome = true → t.zone.slot = some .urgent)
      ∧ (active = true → ∀ k < 4, ∀ c, t.chans.chan[k]? = some c → c.state.frozen = false)
      ∧ (active = true → BreakTableLaw s → ChannelLaw s →
        (∀ r ∈ s.cues.table, r.state = .decidedGo →
          ∃ r', t.record? r.id = some r' ∧ r'.state = .decidedHold ∧ r'.stance = .hold .self ∧ r'.channel = none)
        ∧ (∀ k < 4, ∀ c b r, s.chans.chan[k]? = some c → c.state.frozen = true → c.bound = some b →
          s.record? b.id = some r → r.state = .lockedGo ∨ r.state = .airing →
          t.sc.latchSplit = true ∧ (s.tb.now < r.cIn + 20000000 → ∃ r', t.record? b.id = some r'
            ∧ r'.state = .abandoned ∧ r'.stance = .abandoned ∧ r'.abandonCause = some .override
            ∧ r'.removalAt = some (r.cIn + 20000000) ∧ r'.channel = none)))
      ∧ t.tb = s.tb ∧ t.em = s.em ∧ t.intake = s.intake ∧ t.ros = s.ros ∧ t.store.memory = s.store.memory
      ∧ t.sc.inhibitLine = s.sc.inhibitLine ∧ t.sc.inUse = s.sc.inUse

/-- LATCH_CLEAR and LATCH_CLEAR_RELEASE (R188, R189): when the active level is taken, AIR is cleared in ON_AIR, TIME in
TRACK with grade A, B or C, SPLIT always, and FAULT with a VALID configuration and a clear duplicate latch; a level held
active does not clear again; and the release takes the line inactive. The 10 ms since the line's last level are counted
as log entry 28 says. Each alarm line is active while its latch is set and its gate in the record in use is open; before
the first VALID record the gates are open (R190). -/
def Obligations.LatchClearJudgesEachLatch : Prop :=
  (∀ s : State, s.sc.latchClearLine = false → s.sc.latchClearSince + 100000 ≤ s.osc →
      ∃ t, exec .latchClear s = .next t ∧ t.sc.latchClearLine = true ∧ t.sc.latchClearSince = s.osc
      ∧ t.sc.latchAir = (s.sc.latchAir && s.em.state != .onAir)
      ∧ t.sc.latchTime = (s.sc.latchTime && !(s.tb.disc == .track && s.tb.grade != .d))
      ∧ t.sc.latchSplit = false
      ∧ t.sc.latchFault = (s.sc.latchFault && !(s.sc.config == .valid && !s.ros.duplicate))
      ∧ { t with sc := s.sc, mon := s.mon } = s ∧ t.sc.config = s.sc.config ∧ t.sc.inUse = s.sc.inUse)
    ∧ (∀ s : State, s.sc.latchClearLine = true → exec .latchClear s = .next s)
    ∧ (∀ s : State, s.sc.latchClearLine = true → s.sc.latchClearSince + 100000 ≤ s.osc →
      exec .latchClearRelease s = .next { s with sc := { s.sc with
        latchClearLine := false
        latchClearSince := s.osc } })
    ∧ (∀ s : State, (s.sc.inUse = none → ∀ l, s.alarmLine l = s.sc.latch l)
      ∧ ∀ c, s.sc.inUse = some c → s.alarmLine .air = (s.sc.latchAir && c.gateAir)
        ∧ s.alarmLine .time = (s.sc.latchTime && c.gateTime) ∧ s.alarmLine .split = (s.sc.latchSplit && c.gateSplit)
        ∧ s.alarmLine .fault = (s.sc.latchFault && c.gateFault))

/-- The monitor port (R191 to R193, R197). REPORT_SPAN_EXPIRY: 10,020,000 TU of the oscillator after the last report, a
report is formed at once and held, replacing one that waits. MONITOR_RECORD_END: the port starts the held report first,
then the front of the event queue, at 50 TU for each byte. While the port sends, a raised event takes the next sequence
number and, with the site time, joins the back of a queue of fewer than 32 records; with 32 it is dropped and counted as
lost; an idle port with nothing waiting starts it at once. Each byte goes out in ten bits of 5 TU: a start bit, the
byte's bits least significant first, a stop bit. An event record is 18 to 37 bytes long. The byte time counted on the
oscillator (log entry 10), the span across a RESTART (log entry 41) and the levels of start and stop bit (log entry 54)
are the model's choice. -/
def Obligations.MonitorPortQueuesAndSendsRecords : Prop :=
  (((∀ (x : MonitorSend) (s : State), s.mon.lastReport + 10020000 ≤ s.osc → s.mon.sending = some x →
      exec .reportSpanExpiry s = .next { s with mon := { s.mon with
        held := some (reportRecord s)
        reportsReplaced := if s.mon.held.isSome then min (s.mon.reportsReplaced + 1) 4294967295
          else s.mon.reportsReplaced
        reportSeq := (s.mon.reportSeq + 1) % 65536
        lostSince := 0
        lastReport := s.osc } })
      ∧ (∀ (x : MonitorSend) (s : State), s.mon.sending = some x → x.endsAt ≤ s.osc →
        exec .monitorRecordEnd s = .next { s with mon :=
          match s.mon.held, s.mon.queue with
          | some r, _ => { s.mon with
              held := none, sending := some ⟨r, s.osc + 50 * r.length⟩
              reportsSent := min (s.mon.reportsSent + 1) 4294967295 }
          | none, e :: rest => { s.mon with
              queue := rest, sending := some ⟨e.bytes, s.osc + 50 * e.bytes.length⟩
              eventsSent := min (s.mon.eventsSent + 1) 4294967295 }
          | none, [] => { s.mon with sending := none } }))
    ∧ (∀ (e : Event) (x : MonitorSend) (s : State), s.mon.sending = some x →
      raise e s = { s with mon :=
        if s.mon.queue.length < 32 then { s.mon with
          eventSeq := (s.mon.eventSeq + 1) % 65536
          queue := s.mon.queue ++ [⟨s.mon.eventSeq, s.tb.now, e⟩] }
        else { s.mon with
          eventSeq := (s.mon.eventSeq + 1) % 65536
          lostSince := min (s.mon.lostSince + 1) 4294967295
          lostTotal := min (s.mon.lostTotal + 1) 4294967295 } }))
    ∧ (∀ (e : Event) (s : State), s.mon.sending = none → s.mon.held = none → s.mon.queue = [] →
      raise e s = { s with mon := { s.mon with
        eventSeq := (s.mon.eventSeq + 1) % 65536
        sending := some ⟨(EventRecord.mk s.mon.eventSeq s.tb.now e).bytes,
          s.osc + 50 * (EventRecord.mk s.mon.eventSeq s.tb.now e).bytes.length⟩
        eventsSent := min (s.mon.eventsSent + 1) 4294967295 } })
    ∧ (∀ (x : MonitorSend) (b : Byte) (n i j : Nat) (s : State), s.mon.sending = some x → x.bytes[n]? = some b →
      i < 10 → j < 5 → s.osc + 50 * x.bytes.length = x.endsAt + (50 * n + 5 * i + j) →
      s.monitorLevel = if i = 0 then false else if i = 9 then true else b.getLsbD (i - 1))
    ∧ (∀ r : EventRecord, 18 ≤ r.bytes.length ∧ r.bytes.length ≤ 37)

/-- A command whose operand is not as long as the manual gives it is no event of the part, and the machine stops on it
(the model's choice: log entry 5). No other command stops on any operand or in any state. -/
def Obligations.OnlyIllFormedOperandsStop : Prop :=
  ∀ (c : Instr) (s : State),
    (c.wellFormed = false → exec c s = .fault .illFormed) ∧ (c.wellFormed = true → ∃ t, exec c s = .next t)

/-! ### What the commands leave alone, and the laws every step keeps -/

/-- The machine right after power-on reset meets every law. -/
def Obligations.ResetMeetsEveryLaw : Prop := Lawful State.reset

/-- Every step keeps the slot memories in their canonical form, and the tables, the queues and the positions within
their bounds (R27, R42, R46, R48, R69, R70, R192, R193). -/
def Obligations.MemoriesAndCapacitiesAreKept : Prop :=
  (∀ s t : State, MemoryLaw s → step s = .next t → MemoryLaw t)
    ∧ ∀ s t : State, CapacityLaw s → step s = .next t → CapacityLaw t

/-- Every step keeps the law of the time base (R1, R3, R7, R9, R11, R13, R16, R18, R19). That a step of
less than 2 s across the wrap of S goes to the label's recurrence is the model's choice (log entry 44). -/
def Obligations.TimeLawIsKept : Prop := ∀ s t : State, TimeLaw s → step s = .next t → TimeLaw t

/-- Every step keeps the law of the emission states (R56, R57, R59 to R63), and with it R56's own words: the state is
ON_AIR only while the configuration is valid, U is no greater than the emission limit, and the INHIBIT line is inactive.
-/
def Obligations.OnAirOnlyWhileItMayBe : Prop :=
  (∀ s t : State, AirLaw s → step s = .next t → AirLaw t)
    ∧ ∀ s : State, AirLaw s → s.em.state = .onAir →
      s.sc.config = .valid ∧ s.tb.u ≤ s.emissionLimit ∧ s.sc.inhibitLine = false
end

