-- ==== Sys2Proof/Laws/State.lean ====
section
/-! SUPPORT. One lemma for each field of the state under each of its elementary updates, all true by rfl, so that no
proof about a meaning unfolds an update of a record. -/

namespace Sys2Proof.Laws

open Sys2Proof Sys2Proof.Machine

/-! ### updateTime -/

@[simp] theorem updateTime_osc (f : TimeBase → TimeBase) (s : State) : (updateTime f s).osc = s.osc := rfl
@[simp] theorem updateTime_tb (f : TimeBase → TimeBase) (s : State) : (updateTime f s).tb = f s.tb := rfl
@[simp] theorem updateTime_intake (f : TimeBase → TimeBase) (s : State) : (updateTime f s).intake = s.intake := rfl
@[simp] theorem updateTime_em (f : TimeBase → TimeBase) (s : State) : (updateTime f s).em = s.em := rfl
@[simp] theorem updateTime_store (f : TimeBase → TimeBase) (s : State) : (updateTime f s).store = s.store := rfl
@[simp] theorem updateTime_cues (f : TimeBase → TimeBase) (s : State) : (updateTime f s).cues = s.cues := rfl
@[simp] theorem updateTime_zone (f : TimeBase → TimeBase) (s : State) : (updateTime f s).zone = s.zone := rfl
@[simp] theorem updateTime_ros (f : TimeBase → TimeBase) (s : State) : (updateTime f s).ros = s.ros := rfl
@[simp] theorem updateTime_agree (f : TimeBase → TimeBase) (s : State) : (updateTime f s).agree = s.agree := rfl
@[simp] theorem updateTime_chans (f : TimeBase → TimeBase) (s : State) : (updateTime f s).chans = s.chans := rfl
@[simp] theorem updateTime_mon (f : TimeBase → TimeBase) (s : State) : (updateTime f s).mon = s.mon := rfl
@[simp] theorem updateTime_sc (f : TimeBase → TimeBase) (s : State) : (updateTime f s).sc = s.sc := rfl
@[simp] theorem updateTime_choices (f : TimeBase → TimeBase) (s : State) : (updateTime f s).choices = s.choices := rfl
@[simp] theorem updateTime_pending (f : TimeBase → TimeBase) (s : State) : (updateTime f s).pending = s.pending := rfl

/-! ### updateRef -/

@[simp] theorem updateRef_osc (r : Ref) (f : RefRecord → RefRecord) (s : State) : (updateRef r f s).osc = s.osc := rfl
@[simp] theorem updateRef_tb (r : Ref) (f : RefRecord → RefRecord) (s : State) : (updateRef r f s).tb = s.tb.updateRef r f := rfl
@[simp] theorem updateRef_intake (r : Ref) (f : RefRecord → RefRecord) (s : State) : (updateRef r f s).intake = s.intake := rfl
@[simp] theorem updateRef_em (r : Ref) (f : RefRecord → RefRecord) (s : State) : (updateRef r f s).em = s.em := rfl
@[simp] theorem updateRef_store (r : Ref) (f : RefRecord → RefRecord) (s : State) : (updateRef r f s).store = s.store := rfl
@[simp] theorem updateRef_cues (r : Ref) (f : RefRecord → RefRecord) (s : State) : (updateRef r f s).cues = s.cues := rfl
@[simp] theorem updateRef_zone (r : Ref) (f : RefRecord → RefRecord) (s : State) : (updateRef r f s).zone = s.zone := rfl
@[simp] theorem updateRef_ros (r : Ref) (f : RefRecord → RefRecord) (s : State) : (updateRef r f s).ros = s.ros := rfl
@[simp] theorem updateRef_agree (r : Ref) (f : RefRecord → RefRecord) (s : State) : (updateRef r f s).agree = s.agree := rfl
@[simp] theorem updateRef_chans (r : Ref) (f : RefRecord → RefRecord) (s : State) : (updateRef r f s).chans = s.chans := rfl
@[simp] theorem updateRef_mon (r : Ref) (f : RefRecord → RefRecord) (s : State) : (updateRef r f s).mon = s.mon := rfl
@[simp] theorem updateRef_sc (r : Ref) (f : RefRecord → RefRecord) (s : State) : (updateRef r f s).sc = s.sc := rfl
@[simp] theorem updateRef_choices (r : Ref) (f : RefRecord → RefRecord) (s : State) : (updateRef r f s).choices = s.choices := rfl
@[simp] theorem updateRef_pending (r : Ref) (f : RefRecord → RefRecord) (s : State) : (updateRef r f s).pending = s.pending := rfl

/-! ### updateZone -/

@[simp] theorem updateZone_osc (f : ZoneLine → ZoneLine) (s : State) : (updateZone f s).osc = s.osc := rfl
@[simp] theorem updateZone_tb (f : ZoneLine → ZoneLine) (s : State) : (updateZone f s).tb = s.tb := rfl
@[simp] theorem updateZone_intake (f : ZoneLine → ZoneLine) (s : State) : (updateZone f s).intake = s.intake := rfl
@[simp] theorem updateZone_em (f : ZoneLine → ZoneLine) (s : State) : (updateZone f s).em = s.em := rfl
@[simp] theorem updateZone_store (f : ZoneLine → ZoneLine) (s : State) : (updateZone f s).store = s.store := rfl
@[simp] theorem updateZone_cues (f : ZoneLine → ZoneLine) (s : State) : (updateZone f s).cues = s.cues := rfl
@[simp] theorem updateZone_zone (f : ZoneLine → ZoneLine) (s : State) : (updateZone f s).zone = f s.zone := rfl
@[simp] theorem updateZone_ros (f : ZoneLine → ZoneLine) (s : State) : (updateZone f s).ros = s.ros := rfl
@[simp] theorem updateZone_agree (f : ZoneLine → ZoneLine) (s : State) : (updateZone f s).agree = s.agree := rfl
@[simp] theorem updateZone_chans (f : ZoneLine → ZoneLine) (s : State) : (updateZone f s).chans = s.chans := rfl
@[simp] theorem updateZone_mon (f : ZoneLine → ZoneLine) (s : State) : (updateZone f s).mon = s.mon := rfl
@[simp] theorem updateZone_sc (f : ZoneLine → ZoneLine) (s : State) : (updateZone f s).sc = s.sc := rfl
@[simp] theorem updateZone_choices (f : ZoneLine → ZoneLine) (s : State) : (updateZone f s).choices = s.choices := rfl
@[simp] theorem updateZone_pending (f : ZoneLine → ZoneLine) (s : State) : (updateZone f s).pending = s.pending := rfl

/-! ### countZone -/

@[simp] theorem countZone_osc (f : LineCounters → LineCounters) (s : State) : (countZone f s).osc = s.osc := rfl
@[simp] theorem countZone_tb (f : LineCounters → LineCounters) (s : State) : (countZone f s).tb = s.tb := rfl
@[simp] theorem countZone_intake (f : LineCounters → LineCounters) (s : State) : (countZone f s).intake = s.intake := rfl
@[simp] theorem countZone_em (f : LineCounters → LineCounters) (s : State) : (countZone f s).em = s.em := rfl
@[simp] theorem countZone_store (f : LineCounters → LineCounters) (s : State) : (countZone f s).store = s.store := rfl
@[simp] theorem countZone_cues (f : LineCounters → LineCounters) (s : State) : (countZone f s).cues = s.cues := rfl
@[simp] theorem countZone_zone (f : LineCounters → LineCounters) (s : State) : (countZone f s).zone = { s.zone with counters := f s.zone.counters } := rfl
@[simp] theorem countZone_ros (f : LineCounters → LineCounters) (s : State) : (countZone f s).ros = s.ros := rfl
@[simp] theorem countZone_agree (f : LineCounters → LineCounters) (s : State) : (countZone f s).agree = s.agree := rfl
@[simp] theorem countZone_chans (f : LineCounters → LineCounters) (s : State) : (countZone f s).chans = s.chans := rfl
@[simp] theorem countZone_mon (f : LineCounters → LineCounters) (s : State) : (countZone f s).mon = s.mon := rfl
@[simp] theorem countZone_sc (f : LineCounters → LineCounters) (s : State) : (countZone f s).sc = s.sc := rfl
@[simp] theorem countZone_choices (f : LineCounters → LineCounters) (s : State) : (countZone f s).choices = s.choices := rfl
@[simp] theorem countZone_pending (f : LineCounters → LineCounters) (s : State) : (countZone f s).pending = s.pending := rfl

/-! ### updateControl -/

@[simp] theorem updateControl_osc (f : SiteControl → SiteControl) (s : State) : (updateControl f s).osc = s.osc := rfl
@[simp] theorem updateControl_tb (f : SiteControl → SiteControl) (s : State) : (updateControl f s).tb = s.tb := rfl
@[simp] theorem updateControl_intake (f : SiteControl → SiteControl) (s : State) : (updateControl f s).intake = s.intake := rfl
@[simp] theorem updateControl_em (f : SiteControl → SiteControl) (s : State) : (updateControl f s).em = s.em := rfl
@[simp] theorem updateControl_store (f : SiteControl → SiteControl) (s : State) : (updateControl f s).store = s.store := rfl
@[simp] theorem updateControl_cues (f : SiteControl → SiteControl) (s : State) : (updateControl f s).cues = s.cues := rfl
@[simp] theorem updateControl_zone (f : SiteControl → SiteControl) (s : State) : (updateControl f s).zone = s.zone := rfl
@[simp] theorem updateControl_ros (f : SiteControl → SiteControl) (s : State) : (updateControl f s).ros = s.ros := rfl
@[simp] theorem updateControl_agree (f : SiteControl → SiteControl) (s : State) : (updateControl f s).agree = s.agree := rfl
@[simp] theorem updateControl_chans (f : SiteControl → SiteControl) (s : State) : (updateControl f s).chans = s.chans := rfl
@[simp] theorem updateControl_mon (f : SiteControl → SiteControl) (s : State) : (updateControl f s).mon = s.mon := rfl
@[simp] theorem updateControl_sc (f : SiteControl → SiteControl) (s : State) : (updateControl f s).sc = f s.sc := rfl
@[simp] theorem updateControl_choices (f : SiteControl → SiteControl) (s : State) : (updateControl f s).choices = s.choices := rfl
@[simp] theorem updateControl_pending (f : SiteControl → SiteControl) (s : State) : (updateControl f s).pending = s.pending := rfl

/-! ### updateRoster -/

@[simp] theorem updateRoster_osc (f : PeerRoster → PeerRoster) (s : State) : (updateRoster f s).osc = s.osc := rfl
@[simp] theorem updateRoster_tb (f : PeerRoster → PeerRoster) (s : State) : (updateRoster f s).tb = s.tb := rfl
@[simp] theorem updateRoster_intake (f : PeerRoster → PeerRoster) (s : State) : (updateRoster f s).intake = s.intake := rfl
@[simp] theorem updateRoster_em (f : PeerRoster → PeerRoster) (s : State) : (updateRoster f s).em = s.em := rfl
@[simp] theorem updateRoster_store (f : PeerRoster → PeerRoster) (s : State) : (updateRoster f s).store = s.store := rfl
@[simp] theorem updateRoster_cues (f : PeerRoster → PeerRoster) (s : State) : (updateRoster f s).cues = s.cues := rfl
@[simp] theorem updateRoster_zone (f : PeerRoster → PeerRoster) (s : State) : (updateRoster f s).zone = s.zone := rfl
@[simp] theorem updateRoster_ros (f : PeerRoster → PeerRoster) (s : State) : (updateRoster f s).ros = f s.ros := rfl
@[simp] theorem updateRoster_agree (f : PeerRoster → PeerRoster) (s : State) : (updateRoster f s).agree = s.agree := rfl
@[simp] theorem updateRoster_chans (f : PeerRoster → PeerRoster) (s : State) : (updateRoster f s).chans = s.chans := rfl
@[simp] theorem updateRoster_mon (f : PeerRoster → PeerRoster) (s : State) : (updateRoster f s).mon = s.mon := rfl
@[simp] theorem updateRoster_sc (f : PeerRoster → PeerRoster) (s : State) : (updateRoster f s).sc = s.sc := rfl
@[simp] theorem updateRoster_choices (f : PeerRoster → PeerRoster) (s : State) : (updateRoster f s).choices = s.choices := rfl
@[simp] theorem updateRoster_pending (f : PeerRoster → PeerRoster) (s : State) : (updateRoster f s).pending = s.pending := rfl

/-! ### updatePeer -/

@[simp] theorem updatePeer_osc (n : Nat) (f : Peer → Peer) (s : State) : (updatePeer n f s).osc = s.osc := rfl
@[simp] theorem updatePeer_tb (n : Nat) (f : Peer → Peer) (s : State) : (updatePeer n f s).tb = s.tb := rfl
@[simp] theorem updatePeer_intake (n : Nat) (f : Peer → Peer) (s : State) : (updatePeer n f s).intake = s.intake := rfl
@[simp] theorem updatePeer_em (n : Nat) (f : Peer → Peer) (s : State) : (updatePeer n f s).em = s.em := rfl
@[simp] theorem updatePeer_store (n : Nat) (f : Peer → Peer) (s : State) : (updatePeer n f s).store = s.store := rfl
@[simp] theorem updatePeer_cues (n : Nat) (f : Peer → Peer) (s : State) : (updatePeer n f s).cues = s.cues := rfl
@[simp] theorem updatePeer_zone (n : Nat) (f : Peer → Peer) (s : State) : (updatePeer n f s).zone = s.zone := rfl
@[simp] theorem updatePeer_ros (n : Nat) (f : Peer → Peer) (s : State) : (updatePeer n f s).ros = { s.ros with peers := updateWhere (fun p => p.site == n) f s.ros.peers } := rfl
@[simp] theorem updatePeer_agree (n : Nat) (f : Peer → Peer) (s : State) : (updatePeer n f s).agree = s.agree := rfl
@[simp] theorem updatePeer_chans (n : Nat) (f : Peer → Peer) (s : State) : (updatePeer n f s).chans = s.chans := rfl
@[simp] theorem updatePeer_mon (n : Nat) (f : Peer → Peer) (s : State) : (updatePeer n f s).mon = s.mon := rfl
@[simp] theorem updatePeer_sc (n : Nat) (f : Peer → Peer) (s : State) : (updatePeer n f s).sc = s.sc := rfl
@[simp] theorem updatePeer_choices (n : Nat) (f : Peer → Peer) (s : State) : (updatePeer n f s).choices = s.choices := rfl
@[simp] theorem updatePeer_pending (n : Nat) (f : Peer → Peer) (s : State) : (updatePeer n f s).pending = s.pending := rfl

/-! ### updateFrame -/

@[simp] theorem updateFrame_osc (n : Nat) (f : FrameRecord → FrameRecord) (s : State) : (updateFrame n f s).osc = s.osc := rfl
@[simp] theorem updateFrame_tb (n : Nat) (f : FrameRecord → FrameRecord) (s : State) : (updateFrame n f s).tb = s.tb := rfl
@[simp] theorem updateFrame_intake (n : Nat) (f : FrameRecord → FrameRecord) (s : State) : (updateFrame n f s).intake = s.intake := rfl
@[simp] theorem updateFrame_em (n : Nat) (f : FrameRecord → FrameRecord) (s : State) : (updateFrame n f s).em = { s.em with table := updateWhere (fun r => r.number == n) f s.em.table } := rfl
@[simp] theorem updateFrame_store (n : Nat) (f : FrameRecord → FrameRecord) (s : State) : (updateFrame n f s).store = s.store := rfl
@[simp] theorem updateFrame_cues (n : Nat) (f : FrameRecord → FrameRecord) (s : State) : (updateFrame n f s).cues = s.cues := rfl
@[simp] theorem updateFrame_zone (n : Nat) (f : FrameRecord → FrameRecord) (s : State) : (updateFrame n f s).zone = s.zone := rfl
@[simp] theorem updateFrame_ros (n : Nat) (f : FrameRecord → FrameRecord) (s : State) : (updateFrame n f s).ros = s.ros := rfl
@[simp] theorem updateFrame_agree (n : Nat) (f : FrameRecord → FrameRecord) (s : State) : (updateFrame n f s).agree = s.agree := rfl
@[simp] theorem updateFrame_chans (n : Nat) (f : FrameRecord → FrameRecord) (s : State) : (updateFrame n f s).chans = s.chans := rfl
@[simp] theorem updateFrame_mon (n : Nat) (f : FrameRecord → FrameRecord) (s : State) : (updateFrame n f s).mon = s.mon := rfl
@[simp] theorem updateFrame_sc (n : Nat) (f : FrameRecord → FrameRecord) (s : State) : (updateFrame n f s).sc = s.sc := rfl
@[simp] theorem updateFrame_choices (n : Nat) (f : FrameRecord → FrameRecord) (s : State) : (updateFrame n f s).choices = s.choices := rfl
@[simp] theorem updateFrame_pending (n : Nat) (f : FrameRecord → FrameRecord) (s : State) : (updateFrame n f s).pending = s.pending := rfl

/-! ### countEm -/

@[simp] theorem countEm_osc (f : EmissionCounters → EmissionCounters) (s : State) : (countEm f s).osc = s.osc := rfl
@[simp] theorem countEm_tb (f : EmissionCounters → EmissionCounters) (s : State) : (countEm f s).tb = s.tb := rfl
@[simp] theorem countEm_intake (f : EmissionCounters → EmissionCounters) (s : State) : (countEm f s).intake = s.intake := rfl
@[simp] theorem countEm_em (f : EmissionCounters → EmissionCounters) (s : State) : (countEm f s).em = { s.em with counters := f s.em.counters } := rfl
@[simp] theorem countEm_store (f : EmissionCounters → EmissionCounters) (s : State) : (countEm f s).store = s.store := rfl
@[simp] theorem countEm_cues (f : EmissionCounters → EmissionCounters) (s : State) : (countEm f s).cues = s.cues := rfl
@[simp] theorem countEm_zone (f : EmissionCounters → EmissionCounters) (s : State) : (countEm f s).zone = s.zone := rfl
@[simp] theorem countEm_ros (f : EmissionCounters → EmissionCounters) (s : State) : (countEm f s).ros = s.ros := rfl
@[simp] theorem countEm_agree (f : EmissionCounters → EmissionCounters) (s : State) : (countEm f s).agree = s.agree := rfl
@[simp] theorem countEm_chans (f : EmissionCounters → EmissionCounters) (s : State) : (countEm f s).chans = s.chans := rfl
@[simp] theorem countEm_mon (f : EmissionCounters → EmissionCounters) (s : State) : (countEm f s).mon = s.mon := rfl
@[simp] theorem countEm_sc (f : EmissionCounters → EmissionCounters) (s : State) : (countEm f s).sc = s.sc := rfl
@[simp] theorem countEm_choices (f : EmissionCounters → EmissionCounters) (s : State) : (countEm f s).choices = s.choices := rfl
@[simp] theorem countEm_pending (f : EmissionCounters → EmissionCounters) (s : State) : (countEm f s).pending = s.pending := rfl

/-! ### startTransfer -/

@[simp] theorem startTransfer_osc (c : Cell) (b : Bool) (s : State) : (startTransfer c b s).osc = s.osc := rfl
@[simp] theorem startTransfer_tb (c : Cell) (b : Bool) (s : State) : (startTransfer c b s).tb = s.tb := rfl
@[simp] theorem startTransfer_intake (c : Cell) (b : Bool) (s : State) : (startTransfer c b s).intake = s.intake := rfl
@[simp] theorem startTransfer_em (c : Cell) (b : Bool) (s : State) : (startTransfer c b s).em = { s.em with transfer := some ⟨c, b, s.osc + Config.transferSpan⟩, carrier := b } := rfl
@[simp] theorem startTransfer_store (c : Cell) (b : Bool) (s : State) : (startTransfer c b s).store = s.store := rfl
@[simp] theorem startTransfer_cues (c : Cell) (b : Bool) (s : State) : (startTransfer c b s).cues = s.cues := rfl
@[simp] theorem startTransfer_zone (c : Cell) (b : Bool) (s : State) : (startTransfer c b s).zone = s.zone := rfl
@[simp] theorem startTransfer_ros (c : Cell) (b : Bool) (s : State) : (startTransfer c b s).ros = s.ros := rfl
@[simp] theorem startTransfer_agree (c : Cell) (b : Bool) (s : State) : (startTransfer c b s).agree = s.agree := rfl
@[simp] theorem startTransfer_chans (c : Cell) (b : Bool) (s : State) : (startTransfer c b s).chans = s.chans := rfl
@[simp] theorem startTransfer_mon (c : Cell) (b : Bool) (s : State) : (startTransfer c b s).mon = s.mon := rfl
@[simp] theorem startTransfer_sc (c : Cell) (b : Bool) (s : State) : (startTransfer c b s).sc = s.sc := rfl
@[simp] theorem startTransfer_choices (c : Cell) (b : Bool) (s : State) : (startTransfer c b s).choices = s.choices := rfl
@[simp] theorem startTransfer_pending (c : Cell) (b : Bool) (s : State) : (startTransfer c b s).pending = s.pending := rfl

/-! ### joinTable -/

@[simp] theorem joinTable_osc (r : FrameRecord) (s : State) : (joinTable r s).osc = s.osc := rfl
@[simp] theorem joinTable_tb (r : FrameRecord) (s : State) : (joinTable r s).tb = s.tb := rfl
@[simp] theorem joinTable_intake (r : FrameRecord) (s : State) : (joinTable r s).intake = s.intake := rfl
@[simp] theorem joinTable_em (r : FrameRecord) (s : State) : (joinTable r s).em = { s.em with table := s.em.table ++ [r] } := rfl
@[simp] theorem joinTable_store (r : FrameRecord) (s : State) : (joinTable r s).store = s.store := rfl
@[simp] theorem joinTable_cues (r : FrameRecord) (s : State) : (joinTable r s).cues = s.cues := rfl
@[simp] theorem joinTable_zone (r : FrameRecord) (s : State) : (joinTable r s).zone = s.zone := rfl
@[simp] theorem joinTable_ros (r : FrameRecord) (s : State) : (joinTable r s).ros = s.ros := rfl
@[simp] theorem joinTable_agree (r : FrameRecord) (s : State) : (joinTable r s).agree = s.agree := rfl
@[simp] theorem joinTable_chans (r : FrameRecord) (s : State) : (joinTable r s).chans = s.chans := rfl
@[simp] theorem joinTable_mon (r : FrameRecord) (s : State) : (joinTable r s).mon = s.mon := rfl
@[simp] theorem joinTable_sc (r : FrameRecord) (s : State) : (joinTable r s).sc = s.sc := rfl
@[simp] theorem joinTable_choices (r : FrameRecord) (s : State) : (joinTable r s).choices = s.choices := rfl
@[simp] theorem joinTable_pending (r : FrameRecord) (s : State) : (joinTable r s).pending = s.pending := rfl

/-! ### updateEntry -/

@[simp] theorem updateEntry_osc (n : Nat) (f : Entry → Entry) (s : State) : (updateEntry n f s).osc = s.osc := rfl
@[simp] theorem updateEntry_tb (n : Nat) (f : Entry → Entry) (s : State) : (updateEntry n f s).tb = s.tb := rfl
@[simp] theorem updateEntry_intake (n : Nat) (f : Entry → Entry) (s : State) : (updateEntry n f s).intake = s.intake := rfl
@[simp] theorem updateEntry_em (n : Nat) (f : Entry → Entry) (s : State) : (updateEntry n f s).em = s.em := rfl
@[simp] theorem updateEntry_store (n : Nat) (f : Entry → Entry) (s : State) : (updateEntry n f s).store = { s.store with directory := updateWhere (fun e => e.spot.id == n) f s.store.directory } := rfl
@[simp] theorem updateEntry_cues (n : Nat) (f : Entry → Entry) (s : State) : (updateEntry n f s).cues = s.cues := rfl
@[simp] theorem updateEntry_zone (n : Nat) (f : Entry → Entry) (s : State) : (updateEntry n f s).zone = s.zone := rfl
@[simp] theorem updateEntry_ros (n : Nat) (f : Entry → Entry) (s : State) : (updateEntry n f s).ros = s.ros := rfl
@[simp] theorem updateEntry_agree (n : Nat) (f : Entry → Entry) (s : State) : (updateEntry n f s).agree = s.agree := rfl
@[simp] theorem updateEntry_chans (n : Nat) (f : Entry → Entry) (s : State) : (updateEntry n f s).chans = s.chans := rfl
@[simp] theorem updateEntry_mon (n : Nat) (f : Entry → Entry) (s : State) : (updateEntry n f s).mon = s.mon := rfl
@[simp] theorem updateEntry_sc (n : Nat) (f : Entry → Entry) (s : State) : (updateEntry n f s).sc = s.sc := rfl
@[simp] theorem updateEntry_choices (n : Nat) (f : Entry → Entry) (s : State) : (updateEntry n f s).choices = s.choices := rfl
@[simp] theorem updateEntry_pending (n : Nat) (f : Entry → Entry) (s : State) : (updateEntry n f s).pending = s.pending := rfl

/-! ### updateStoreCounters -/

@[simp] theorem updateStoreCounters_osc (f : StoreCounters → StoreCounters) (s : State) : (updateStoreCounters f s).osc = s.osc := rfl
@[simp] theorem updateStoreCounters_tb (f : StoreCounters → StoreCounters) (s : State) : (updateStoreCounters f s).tb = s.tb := rfl
@[simp] theorem updateStoreCounters_intake (f : StoreCounters → StoreCounters) (s : State) : (updateStoreCounters f s).intake = s.intake := rfl
@[simp] theorem updateStoreCounters_em (f : StoreCounters → StoreCounters) (s : State) : (updateStoreCounters f s).em = s.em := rfl
@[simp] theorem updateStoreCounters_store (f : StoreCounters → StoreCounters) (s : State) : (updateStoreCounters f s).store = { s.store with counters := f s.store.counters } := rfl
@[simp] theorem updateStoreCounters_cues (f : StoreCounters → StoreCounters) (s : State) : (updateStoreCounters f s).cues = s.cues := rfl
@[simp] theorem updateStoreCounters_zone (f : StoreCounters → StoreCounters) (s : State) : (updateStoreCounters f s).zone = s.zone := rfl
@[simp] theorem updateStoreCounters_ros (f : StoreCounters → StoreCounters) (s : State) : (updateStoreCounters f s).ros = s.ros := rfl
@[simp] theorem updateStoreCounters_agree (f : StoreCounters → StoreCounters) (s : State) : (updateStoreCounters f s).agree = s.agree := rfl
@[simp] theorem updateStoreCounters_chans (f : StoreCounters → StoreCounters) (s : State) : (updateStoreCounters f s).chans = s.chans := rfl
@[simp] theorem updateStoreCounters_mon (f : StoreCounters → StoreCounters) (s : State) : (updateStoreCounters f s).mon = s.mon := rfl
@[simp] theorem updateStoreCounters_sc (f : StoreCounters → StoreCounters) (s : State) : (updateStoreCounters f s).sc = s.sc := rfl
@[simp] theorem updateStoreCounters_choices (f : StoreCounters → StoreCounters) (s : State) : (updateStoreCounters f s).choices = s.choices := rfl
@[simp] theorem updateStoreCounters_pending (f : StoreCounters → StoreCounters) (s : State) : (updateStoreCounters f s).pending = s.pending := rfl

/-! ### returnPages -/

@[simp] theorem returnPages_osc (l : List Nat) (s : State) : (returnPages l s).osc = s.osc := rfl
@[simp] theorem returnPages_tb (l : List Nat) (s : State) : (returnPages l s).tb = s.tb := rfl
@[simp] theorem returnPages_intake (l : List Nat) (s : State) : (returnPages l s).intake = s.intake := rfl
@[simp] theorem returnPages_em (l : List Nat) (s : State) : (returnPages l s).em = s.em := rfl
@[simp] theorem returnPages_store (l : List Nat) (s : State) : (returnPages l s).store = { s.store with freePages := s.store.freePages ++ l } := rfl
@[simp] theorem returnPages_cues (l : List Nat) (s : State) : (returnPages l s).cues = s.cues := rfl
@[simp] theorem returnPages_zone (l : List Nat) (s : State) : (returnPages l s).zone = s.zone := rfl
@[simp] theorem returnPages_ros (l : List Nat) (s : State) : (returnPages l s).ros = s.ros := rfl
@[simp] theorem returnPages_agree (l : List Nat) (s : State) : (returnPages l s).agree = s.agree := rfl
@[simp] theorem returnPages_chans (l : List Nat) (s : State) : (returnPages l s).chans = s.chans := rfl
@[simp] theorem returnPages_mon (l : List Nat) (s : State) : (returnPages l s).mon = s.mon := rfl
@[simp] theorem returnPages_sc (l : List Nat) (s : State) : (returnPages l s).sc = s.sc := rfl
@[simp] theorem returnPages_choices (l : List Nat) (s : State) : (returnPages l s).choices = s.choices := rfl
@[simp] theorem returnPages_pending (l : List Nat) (s : State) : (returnPages l s).pending = s.pending := rfl

/-! ### setAssembler -/

@[simp] theorem setAssembler_osc (a : Assembler) (s : State) : (setAssembler a s).osc = s.osc := rfl
@[simp] theorem setAssembler_tb (a : Assembler) (s : State) : (setAssembler a s).tb = s.tb := rfl
@[simp] theorem setAssembler_intake (a : Assembler) (s : State) : (setAssembler a s).intake = s.intake := rfl
@[simp] theorem setAssembler_em (a : Assembler) (s : State) : (setAssembler a s).em = s.em := rfl
@[simp] theorem setAssembler_store (a : Assembler) (s : State) : (setAssembler a s).store = { s.store with assembler := a } := rfl
@[simp] theorem setAssembler_cues (a : Assembler) (s : State) : (setAssembler a s).cues = s.cues := rfl
@[simp] theorem setAssembler_zone (a : Assembler) (s : State) : (setAssembler a s).zone = s.zone := rfl
@[simp] theorem setAssembler_ros (a : Assembler) (s : State) : (setAssembler a s).ros = s.ros := rfl
@[simp] theorem setAssembler_agree (a : Assembler) (s : State) : (setAssembler a s).agree = s.agree := rfl
@[simp] theorem setAssembler_chans (a : Assembler) (s : State) : (setAssembler a s).chans = s.chans := rfl
@[simp] theorem setAssembler_mon (a : Assembler) (s : State) : (setAssembler a s).mon = s.mon := rfl
@[simp] theorem setAssembler_sc (a : Assembler) (s : State) : (setAssembler a s).sc = s.sc := rfl
@[simp] theorem setAssembler_choices (a : Assembler) (s : State) : (setAssembler a s).choices = s.choices := rfl
@[simp] theorem setAssembler_pending (a : Assembler) (s : State) : (setAssembler a s).pending = s.pending := rfl

/-! ### writeSlot -/

@[simp] theorem writeSlot_osc (n : Nat) (b : List Byte) (s : State) : (writeSlot n b s).osc = s.osc := rfl
@[simp] theorem writeSlot_tb (n : Nat) (b : List Byte) (s : State) : (writeSlot n b s).tb = s.tb := rfl
@[simp] theorem writeSlot_intake (n : Nat) (b : List Byte) (s : State) : (writeSlot n b s).intake = s.intake := rfl
@[simp] theorem writeSlot_em (n : Nat) (b : List Byte) (s : State) : (writeSlot n b s).em = s.em := rfl
@[simp] theorem writeSlot_store (n : Nat) (b : List Byte) (s : State) : (writeSlot n b s).store = { s.store with memory := memWrite s.store.memory n ⟨b, Config.slotCheck b⟩ } := rfl
@[simp] theorem writeSlot_cues (n : Nat) (b : List Byte) (s : State) : (writeSlot n b s).cues = s.cues := rfl
@[simp] theorem writeSlot_zone (n : Nat) (b : List Byte) (s : State) : (writeSlot n b s).zone = s.zone := rfl
@[simp] theorem writeSlot_ros (n : Nat) (b : List Byte) (s : State) : (writeSlot n b s).ros = s.ros := rfl
@[simp] theorem writeSlot_agree (n : Nat) (b : List Byte) (s : State) : (writeSlot n b s).agree = s.agree := rfl
@[simp] theorem writeSlot_chans (n : Nat) (b : List Byte) (s : State) : (writeSlot n b s).chans = s.chans := rfl
@[simp] theorem writeSlot_mon (n : Nat) (b : List Byte) (s : State) : (writeSlot n b s).mon = s.mon := rfl
@[simp] theorem writeSlot_sc (n : Nat) (b : List Byte) (s : State) : (writeSlot n b s).sc = s.sc := rfl
@[simp] theorem writeSlot_choices (n : Nat) (b : List Byte) (s : State) : (writeSlot n b s).choices = s.choices := rfl
@[simp] theorem writeSlot_pending (n : Nat) (b : List Byte) (s : State) : (writeSlot n b s).pending = s.pending := rfl

/-! ### updateRecord -/

@[simp] theorem updateRecord_osc (n : Nat) (f : BreakRecord → BreakRecord) (s : State) : (updateRecord n f s).osc = s.osc := rfl
@[simp] theorem updateRecord_tb (n : Nat) (f : BreakRecord → BreakRecord) (s : State) : (updateRecord n f s).tb = s.tb := rfl
@[simp] theorem updateRecord_intake (n : Nat) (f : BreakRecord → BreakRecord) (s : State) : (updateRecord n f s).intake = s.intake := rfl
@[simp] theorem updateRecord_em (n : Nat) (f : BreakRecord → BreakRecord) (s : State) : (updateRecord n f s).em = s.em := rfl
@[simp] theorem updateRecord_store (n : Nat) (f : BreakRecord → BreakRecord) (s : State) : (updateRecord n f s).store = s.store := rfl
@[simp] theorem updateRecord_cues (n : Nat) (f : BreakRecord → BreakRecord) (s : State) : (updateRecord n f s).cues = { s.cues with table := updateWhere (fun r => r.id == n) f s.cues.table } := rfl
@[simp] theorem updateRecord_zone (n : Nat) (f : BreakRecord → BreakRecord) (s : State) : (updateRecord n f s).zone = s.zone := rfl
@[simp] theorem updateRecord_ros (n : Nat) (f : BreakRecord → BreakRecord) (s : State) : (updateRecord n f s).ros = s.ros := rfl
@[simp] theorem updateRecord_agree (n : Nat) (f : BreakRecord → BreakRecord) (s : State) : (updateRecord n f s).agree = s.agree := rfl
@[simp] theorem updateRecord_chans (n : Nat) (f : BreakRecord → BreakRecord) (s : State) : (updateRecord n f s).chans = s.chans := rfl
@[simp] theorem updateRecord_mon (n : Nat) (f : BreakRecord → BreakRecord) (s : State) : (updateRecord n f s).mon = s.mon := rfl
@[simp] theorem updateRecord_sc (n : Nat) (f : BreakRecord → BreakRecord) (s : State) : (updateRecord n f s).sc = s.sc := rfl
@[simp] theorem updateRecord_choices (n : Nat) (f : BreakRecord → BreakRecord) (s : State) : (updateRecord n f s).choices = s.choices := rfl
@[simp] theorem updateRecord_pending (n : Nat) (f : BreakRecord → BreakRecord) (s : State) : (updateRecord n f s).pending = s.pending := rfl

/-! ### countCues -/

@[simp] theorem countCues_osc (f : CueCounters → CueCounters) (s : State) : (countCues f s).osc = s.osc := rfl
@[simp] theorem countCues_tb (f : CueCounters → CueCounters) (s : State) : (countCues f s).tb = s.tb := rfl
@[simp] theorem countCues_intake (f : CueCounters → CueCounters) (s : State) : (countCues f s).intake = s.intake := rfl
@[simp] theorem countCues_em (f : CueCounters → CueCounters) (s : State) : (countCues f s).em = s.em := rfl
@[simp] theorem countCues_store (f : CueCounters → CueCounters) (s : State) : (countCues f s).store = s.store := rfl
@[simp] theorem countCues_cues (f : CueCounters → CueCounters) (s : State) : (countCues f s).cues = { s.cues with counters := f s.cues.counters } := rfl
@[simp] theorem countCues_zone (f : CueCounters → CueCounters) (s : State) : (countCues f s).zone = s.zone := rfl
@[simp] theorem countCues_ros (f : CueCounters → CueCounters) (s : State) : (countCues f s).ros = s.ros := rfl
@[simp] theorem countCues_agree (f : CueCounters → CueCounters) (s : State) : (countCues f s).agree = s.agree := rfl
@[simp] theorem countCues_chans (f : CueCounters → CueCounters) (s : State) : (countCues f s).chans = s.chans := rfl
@[simp] theorem countCues_mon (f : CueCounters → CueCounters) (s : State) : (countCues f s).mon = s.mon := rfl
@[simp] theorem countCues_sc (f : CueCounters → CueCounters) (s : State) : (countCues f s).sc = s.sc := rfl
@[simp] theorem countCues_choices (f : CueCounters → CueCounters) (s : State) : (countCues f s).choices = s.choices := rfl
@[simp] theorem countCues_pending (f : CueCounters → CueCounters) (s : State) : (countCues f s).pending = s.pending := rfl

/-! ### updateChan -/

@[simp] theorem updateChan_osc (k : Nat) (f : Channel → Channel) (s : State) : (updateChan k f s).osc = s.osc := rfl
@[simp] theorem updateChan_tb (k : Nat) (f : Channel → Channel) (s : State) : (updateChan k f s).tb = s.tb := rfl
@[simp] theorem updateChan_intake (k : Nat) (f : Channel → Channel) (s : State) : (updateChan k f s).intake = s.intake := rfl
@[simp] theorem updateChan_em (k : Nat) (f : Channel → Channel) (s : State) : (updateChan k f s).em = s.em := rfl
@[simp] theorem updateChan_store (k : Nat) (f : Channel → Channel) (s : State) : (updateChan k f s).store = s.store := rfl
@[simp] theorem updateChan_cues (k : Nat) (f : Channel → Channel) (s : State) : (updateChan k f s).cues = s.cues := rfl
@[simp] theorem updateChan_zone (k : Nat) (f : Channel → Channel) (s : State) : (updateChan k f s).zone = s.zone := rfl
@[simp] theorem updateChan_ros (k : Nat) (f : Channel → Channel) (s : State) : (updateChan k f s).ros = s.ros := rfl
@[simp] theorem updateChan_agree (k : Nat) (f : Channel → Channel) (s : State) : (updateChan k f s).agree = s.agree := rfl
@[simp] theorem updateChan_chans (k : Nat) (f : Channel → Channel) (s : State) : (updateChan k f s).chans = { s.chans with chan := s.chans.chan.modify k f } := rfl
@[simp] theorem updateChan_mon (k : Nat) (f : Channel → Channel) (s : State) : (updateChan k f s).mon = s.mon := rfl
@[simp] theorem updateChan_sc (k : Nat) (f : Channel → Channel) (s : State) : (updateChan k f s).sc = s.sc := rfl
@[simp] theorem updateChan_choices (k : Nat) (f : Channel → Channel) (s : State) : (updateChan k f s).choices = s.choices := rfl
@[simp] theorem updateChan_pending (k : Nat) (f : Channel → Channel) (s : State) : (updateChan k f s).pending = s.pending := rfl

/-! ### countChan -/

@[simp] theorem countChan_osc (k : Nat) (f : ChannelCounters → ChannelCounters) (s : State) : (countChan k f s).osc = s.osc := rfl
@[simp] theorem countChan_tb (k : Nat) (f : ChannelCounters → ChannelCounters) (s : State) : (countChan k f s).tb = s.tb := rfl
@[simp] theorem countChan_intake (k : Nat) (f : ChannelCounters → ChannelCounters) (s : State) : (countChan k f s).intake = s.intake := rfl
@[simp] theorem countChan_em (k : Nat) (f : ChannelCounters → ChannelCounters) (s : State) : (countChan k f s).em = s.em := rfl
@[simp] theorem countChan_store (k : Nat) (f : ChannelCounters → ChannelCounters) (s : State) : (countChan k f s).store = s.store := rfl
@[simp] theorem countChan_cues (k : Nat) (f : ChannelCounters → ChannelCounters) (s : State) : (countChan k f s).cues = s.cues := rfl
@[simp] theorem countChan_zone (k : Nat) (f : ChannelCounters → ChannelCounters) (s : State) : (countChan k f s).zone = s.zone := rfl
@[simp] theorem countChan_ros (k : Nat) (f : ChannelCounters → ChannelCounters) (s : State) : (countChan k f s).ros = s.ros := rfl
@[simp] theorem countChan_agree (k : Nat) (f : ChannelCounters → ChannelCounters) (s : State) : (countChan k f s).agree = s.agree := rfl
@[simp] theorem countChan_chans (k : Nat) (f : ChannelCounters → ChannelCounters) (s : State) : (countChan k f s).chans = { s.chans with chan := s.chans.chan.modify k fun c => { c with counters := f c.counters } } := rfl
@[simp] theorem countChan_mon (k : Nat) (f : ChannelCounters → ChannelCounters) (s : State) : (countChan k f s).mon = s.mon := rfl
@[simp] theorem countChan_sc (k : Nat) (f : ChannelCounters → ChannelCounters) (s : State) : (countChan k f s).sc = s.sc := rfl
@[simp] theorem countChan_choices (k : Nat) (f : ChannelCounters → ChannelCounters) (s : State) : (countChan k f s).choices = s.choices := rfl
@[simp] theorem countChan_pending (k : Nat) (f : ChannelCounters → ChannelCounters) (s : State) : (countChan k f s).pending = s.pending := rfl

/-! ### dropPlans -/

@[simp] theorem dropPlans_osc (s : State) : (dropPlans s).osc = s.osc := rfl
@[simp] theorem dropPlans_tb (s : State) : (dropPlans s).tb = s.tb := rfl
@[simp] theorem dropPlans_intake (s : State) : (dropPlans s).intake = s.intake := rfl
@[simp] theorem dropPlans_em (s : State) : (dropPlans s).em = s.em := rfl
@[simp] theorem dropPlans_store (s : State) : (dropPlans s).store = s.store := rfl
@[simp] theorem dropPlans_cues (s : State) : (dropPlans s).cues = s.cues := rfl
@[simp] theorem dropPlans_zone (s : State) : (dropPlans s).zone = s.zone := rfl
@[simp] theorem dropPlans_ros (s : State) : (dropPlans s).ros = s.ros := rfl
@[simp] theorem dropPlans_agree (s : State) : (dropPlans s).agree = s.agree := rfl
@[simp] theorem dropPlans_chans (s : State) : (dropPlans s).chans = { s.chans with chan := s.chans.chan.map fun c => { c with plan := none } } := rfl
@[simp] theorem dropPlans_mon (s : State) : (dropPlans s).mon = s.mon := rfl
@[simp] theorem dropPlans_sc (s : State) : (dropPlans s).sc = s.sc := rfl
@[simp] theorem dropPlans_choices (s : State) : (dropPlans s).choices = s.choices := rfl
@[simp] theorem dropPlans_pending (s : State) : (dropPlans s).pending = s.pending := rfl

/-! ### countIntake -/

@[simp] theorem countIntake_osc (f : IntakeCounters → IntakeCounters) (s : State) : (countIntake f s).osc = s.osc := rfl
@[simp] theorem countIntake_tb (f : IntakeCounters → IntakeCounters) (s : State) : (countIntake f s).tb = s.tb := rfl
@[simp] theorem countIntake_intake (f : IntakeCounters → IntakeCounters) (s : State) : (countIntake f s).intake = { s.intake with counters := f s.intake.counters } := rfl
@[simp] theorem countIntake_em (f : IntakeCounters → IntakeCounters) (s : State) : (countIntake f s).em = s.em := rfl
@[simp] theorem countIntake_store (f : IntakeCounters → IntakeCounters) (s : State) : (countIntake f s).store = s.store := rfl
@[simp] theorem countIntake_cues (f : IntakeCounters → IntakeCounters) (s : State) : (countIntake f s).cues = s.cues := rfl
@[simp] theorem countIntake_zone (f : IntakeCounters → IntakeCounters) (s : State) : (countIntake f s).zone = s.zone := rfl
@[simp] theorem countIntake_ros (f : IntakeCounters → IntakeCounters) (s : State) : (countIntake f s).ros = s.ros := rfl
@[simp] theorem countIntake_agree (f : IntakeCounters → IntakeCounters) (s : State) : (countIntake f s).agree = s.agree := rfl
@[simp] theorem countIntake_chans (f : IntakeCounters → IntakeCounters) (s : State) : (countIntake f s).chans = s.chans := rfl
@[simp] theorem countIntake_mon (f : IntakeCounters → IntakeCounters) (s : State) : (countIntake f s).mon = s.mon := rfl
@[simp] theorem countIntake_sc (f : IntakeCounters → IntakeCounters) (s : State) : (countIntake f s).sc = s.sc := rfl
@[simp] theorem countIntake_choices (f : IntakeCounters → IntakeCounters) (s : State) : (countIntake f s).choices = s.choices := rfl
@[simp] theorem countIntake_pending (f : IntakeCounters → IntakeCounters) (s : State) : (countIntake f s).pending = s.pending := rfl

/-! ### setAssembly -/

@[simp] theorem setAssembly_osc (a : Option Assembly) (s : State) : (setAssembly a s).osc = s.osc := rfl
@[simp] theorem setAssembly_tb (a : Option Assembly) (s : State) : (setAssembly a s).tb = s.tb := rfl
@[simp] theorem setAssembly_intake (a : Option Assembly) (s : State) : (setAssembly a s).intake = { s.intake with assembly := a } := rfl
@[simp] theorem setAssembly_em (a : Option Assembly) (s : State) : (setAssembly a s).em = s.em := rfl
@[simp] theorem setAssembly_store (a : Option Assembly) (s : State) : (setAssembly a s).store = s.store := rfl
@[simp] theorem setAssembly_cues (a : Option Assembly) (s : State) : (setAssembly a s).cues = s.cues := rfl
@[simp] theorem setAssembly_zone (a : Option Assembly) (s : State) : (setAssembly a s).zone = s.zone := rfl
@[simp] theorem setAssembly_ros (a : Option Assembly) (s : State) : (setAssembly a s).ros = s.ros := rfl
@[simp] theorem setAssembly_agree (a : Option Assembly) (s : State) : (setAssembly a s).agree = s.agree := rfl
@[simp] theorem setAssembly_chans (a : Option Assembly) (s : State) : (setAssembly a s).chans = s.chans := rfl
@[simp] theorem setAssembly_mon (a : Option Assembly) (s : State) : (setAssembly a s).mon = s.mon := rfl
@[simp] theorem setAssembly_sc (a : Option Assembly) (s : State) : (setAssembly a s).sc = s.sc := rfl
@[simp] theorem setAssembly_choices (a : Option Assembly) (s : State) : (setAssembly a s).choices = s.choices := rfl
@[simp] theorem setAssembly_pending (a : Option Assembly) (s : State) : (setAssembly a s).pending = s.pending := rfl

/-! ### setReception -/

@[simp] theorem setReception_osc (n : Option Nat) (s : State) : (setReception n s).osc = s.osc := rfl
@[simp] theorem setReception_tb (n : Option Nat) (s : State) : (setReception n s).tb = s.tb := rfl
@[simp] theorem setReception_intake (n : Option Nat) (s : State) : (setReception n s).intake = { s.intake with reception := n } := rfl
@[simp] theorem setReception_em (n : Option Nat) (s : State) : (setReception n s).em = s.em := rfl
@[simp] theorem setReception_store (n : Option Nat) (s : State) : (setReception n s).store = s.store := rfl
@[simp] theorem setReception_cues (n : Option Nat) (s : State) : (setReception n s).cues = s.cues := rfl
@[simp] theorem setReception_zone (n : Option Nat) (s : State) : (setReception n s).zone = s.zone := rfl
@[simp] theorem setReception_ros (n : Option Nat) (s : State) : (setReception n s).ros = s.ros := rfl
@[simp] theorem setReception_agree (n : Option Nat) (s : State) : (setReception n s).agree = s.agree := rfl
@[simp] theorem setReception_chans (n : Option Nat) (s : State) : (setReception n s).chans = s.chans := rfl
@[simp] theorem setReception_mon (n : Option Nat) (s : State) : (setReception n s).mon = s.mon := rfl
@[simp] theorem setReception_sc (n : Option Nat) (s : State) : (setReception n s).sc = s.sc := rfl
@[simp] theorem setReception_choices (n : Option Nat) (s : State) : (setReception n s).choices = s.choices := rfl
@[simp] theorem setReception_pending (n : Option Nat) (s : State) : (setReception n s).pending = s.pending := rfl

/-! ### dropExpectations -/

@[simp] theorem dropExpectations_osc (s : State) : (dropExpectations s).osc = s.osc := rfl
@[simp] theorem dropExpectations_tb (s : State) : (dropExpectations s).tb = s.tb := rfl
@[simp] theorem dropExpectations_intake (s : State) : (dropExpectations s).intake = { s.intake with continuity := s.intake.continuity.map fun k => { k with expect := none } } := rfl
@[simp] theorem dropExpectations_em (s : State) : (dropExpectations s).em = s.em := rfl
@[simp] theorem dropExpectations_store (s : State) : (dropExpectations s).store = s.store := rfl
@[simp] theorem dropExpectations_cues (s : State) : (dropExpectations s).cues = s.cues := rfl
@[simp] theorem dropExpectations_zone (s : State) : (dropExpectations s).zone = s.zone := rfl
@[simp] theorem dropExpectations_ros (s : State) : (dropExpectations s).ros = s.ros := rfl
@[simp] theorem dropExpectations_agree (s : State) : (dropExpectations s).agree = s.agree := rfl
@[simp] theorem dropExpectations_chans (s : State) : (dropExpectations s).chans = s.chans := rfl
@[simp] theorem dropExpectations_mon (s : State) : (dropExpectations s).mon = s.mon := rfl
@[simp] theorem dropExpectations_sc (s : State) : (dropExpectations s).sc = s.sc := rfl
@[simp] theorem dropExpectations_choices (s : State) : (dropExpectations s).choices = s.choices := rfl
@[simp] theorem dropExpectations_pending (s : State) : (dropExpectations s).pending = s.pending := rfl

/-! ### countAgree -/

@[simp] theorem countAgree_osc (f : AgreementCounters → AgreementCounters) (s : State) : (countAgree f s).osc = s.osc := rfl
@[simp] theorem countAgree_tb (f : AgreementCounters → AgreementCounters) (s : State) : (countAgree f s).tb = s.tb := rfl
@[simp] theorem countAgree_intake (f : AgreementCounters → AgreementCounters) (s : State) : (countAgree f s).intake = s.intake := rfl
@[simp] theorem countAgree_em (f : AgreementCounters → AgreementCounters) (s : State) : (countAgree f s).em = s.em := rfl
@[simp] theorem countAgree_store (f : AgreementCounters → AgreementCounters) (s : State) : (countAgree f s).store = s.store := rfl
@[simp] theorem countAgree_cues (f : AgreementCounters → AgreementCounters) (s : State) : (countAgree f s).cues = s.cues := rfl
@[simp] theorem countAgree_zone (f : AgreementCounters → AgreementCounters) (s : State) : (countAgree f s).zone = s.zone := rfl
@[simp] theorem countAgree_ros (f : AgreementCounters → AgreementCounters) (s : State) : (countAgree f s).ros = s.ros := rfl
@[simp] theorem countAgree_agree (f : AgreementCounters → AgreementCounters) (s : State) : (countAgree f s).agree = f s.agree := rfl
@[simp] theorem countAgree_chans (f : AgreementCounters → AgreementCounters) (s : State) : (countAgree f s).chans = s.chans := rfl
@[simp] theorem countAgree_mon (f : AgreementCounters → AgreementCounters) (s : State) : (countAgree f s).mon = s.mon := rfl
@[simp] theorem countAgree_sc (f : AgreementCounters → AgreementCounters) (s : State) : (countAgree f s).sc = s.sc := rfl
@[simp] theorem countAgree_choices (f : AgreementCounters → AgreementCounters) (s : State) : (countAgree f s).choices = s.choices := rfl
@[simp] theorem countAgree_pending (f : AgreementCounters → AgreementCounters) (s : State) : (countAgree f s).pending = s.pending := rfl

/-! ### raise -/

@[simp] theorem raise_osc (e : Event) (s : State) : (raise e s).osc = s.osc := rfl
@[simp] theorem raise_tb (e : Event) (s : State) : (raise e s).tb = s.tb := rfl
@[simp] theorem raise_intake (e : Event) (s : State) : (raise e s).intake = s.intake := rfl
@[simp] theorem raise_em (e : Event) (s : State) : (raise e s).em = s.em := rfl
@[simp] theorem raise_store (e : Event) (s : State) : (raise e s).store = s.store := rfl
@[simp] theorem raise_cues (e : Event) (s : State) : (raise e s).cues = s.cues := rfl
@[simp] theorem raise_zone (e : Event) (s : State) : (raise e s).zone = s.zone := rfl
@[simp] theorem raise_ros (e : Event) (s : State) : (raise e s).ros = s.ros := rfl
@[simp] theorem raise_agree (e : Event) (s : State) : (raise e s).agree = s.agree := rfl
@[simp] theorem raise_chans (e : Event) (s : State) : (raise e s).chans = s.chans := rfl
@[simp] theorem raise_mon (e : Event) (s : State) : (raise e s).mon = startRecord s.osc (queueEvent e s.tb.now s.mon) := rfl
@[simp] theorem raise_sc (e : Event) (s : State) : (raise e s).sc = s.sc := rfl
@[simp] theorem raise_choices (e : Event) (s : State) : (raise e s).choices = s.choices := rfl
@[simp] theorem raise_pending (e : Event) (s : State) : (raise e s).pending = s.pending := rfl

/-! ### Site time and every instant held, moved by wraps of S -/

@[simp] theorem stateShift_osc (k : Int) (s : State) : (s.shift k).osc = s.osc := rfl
@[simp] theorem stateShift_tb (k : Int) (s : State) : (s.shift k).tb = s.tb.shift k := rfl
@[simp] theorem stateShift_intake (k : Int) (s : State) : (s.shift k).intake = s.intake.shift k := rfl
@[simp] theorem stateShift_em (k : Int) (s : State) : (s.shift k).em = s.em.shift k := rfl
@[simp] theorem stateShift_store (k : Int) (s : State) : (s.shift k).store = s.store.shift k := rfl
@[simp] theorem stateShift_cues (k : Int) (s : State) : (s.shift k).cues = s.cues.shift k := rfl
@[simp] theorem stateShift_zone (k : Int) (s : State) : (s.shift k).zone = s.zone.shift k := rfl
@[simp] theorem stateShift_ros (k : Int) (s : State) : (s.shift k).ros = s.ros.shift k := rfl
@[simp] theorem stateShift_agree (k : Int) (s : State) : (s.shift k).agree = s.agree := rfl
@[simp] theorem stateShift_chans (k : Int) (s : State) : (s.shift k).chans = s.chans.shift k := rfl
@[simp] theorem stateShift_mon (k : Int) (s : State) : (s.shift k).mon = s.mon := rfl
@[simp] theorem stateShift_sc (k : Int) (s : State) : (s.shift k).sc = s.sc := rfl
@[simp] theorem stateShift_choices (k : Int) (s : State) : (s.shift k).choices = s.choices := rfl
@[simp] theorem stateShift_pending (k : Int) (s : State) : (s.shift k).pending = s.pending := rfl

@[simp] theorem shift_now (k : Int) (t : TimeBase) : (t.shift k).now = shiftTime k t.now := rfl
@[simp] theorem shift_trim (k : Int) (t : TimeBase) : (t.shift k).trim = t.trim := rfl
@[simp] theorem shift_carry (k : Int) (t : TimeBase) : (t.shift k).carry = t.carry := rfl
@[simp] theorem shift_disc (k : Int) (t : TimeBase) : (t.shift k).disc = t.disc := rfl
@[simp] theorem shift_tracked (k : Int) (t : TimeBase) : (t.shift k).tracked = t.tracked := rfl
@[simp] theorem shift_selected (k : Int) (t : TimeBase) : (t.shift k).selected = t.selected := rfl
@[simp] theorem shift_refA (k : Int) (t : TimeBase) : (t.shift k).refA = t.refA.shift k := rfl
@[simp] theorem shift_refB (k : Int) (t : TimeBase) : (t.shift k).refB = t.refB.shift k := rfl
@[simp] theorem shift_acquireRun (k : Int) (t : TimeBase) : (t.shift k).acquireRun = t.acquireRun := rfl
@[simp] theorem shift_excessRun (k : Int) (t : TimeBase) : (t.shift k).excessRun = t.excessRun := rfl
@[simp] theorem shift_history (k : Int) (t : TimeBase) : (t.shift k).history = t.history := rfl
@[simp] theorem shift_u (k : Int) (t : TimeBase) : (t.shift k).u = t.u := rfl
@[simp] theorem shift_grade (k : Int) (t : TimeBase) : (t.shift k).grade = t.grade := rfl
@[simp] theorem shift_slew (k : Int) (t : TimeBase) : (t.shift k).slew = t.slew := rfl
@[simp] theorem shift_lastTaken (k : Int) (t : TimeBase) : (t.shift k).lastTaken = t.lastTaken.map (shiftTime k) := rfl
@[simp] theorem shift_announced (k : Int) (t : TimeBase) : (t.shift k).announced = t.announced.map (shiftSecond k) := rfl
@[simp] theorem shift_stepCount (k : Int) (t : TimeBase) : (t.shift k).stepCount = t.stepCount := rfl
@[simp] theorem shift_uEntry (k : Int) (t : TimeBase) : (t.shift k).uEntry = t.uEntry := rfl
@[simp] theorem shift_holdSeconds (k : Int) (t : TimeBase) : (t.shift k).holdSeconds = t.holdSeconds := rfl

@[simp] theorem refShift_valid (k : Int) (r : RefRecord) : (r.shift k).valid = r.valid := rfl
@[simp] theorem refShift_goodRun (k : Int) (r : RefRecord) : (r.shift k).goodRun = r.goodRun := rfl
@[simp] theorem refShift_badRun (k : Int) (r : RefRecord) : (r.shift k).badRun = r.badRun := rfl
@[simp] theorem refShift_lastMark (k : Int) (r : RefRecord) : (r.shift k).lastMark = r.lastMark.map fun m => (shiftTime k m.1, m.2) := rfl
@[simp] theorem refShift_lastLabel (k : Int) (r : RefRecord) : (r.shift k).lastLabel = r.lastLabel := rfl
@[simp] theorem refShift_expected (k : Int) (r : RefRecord) : (r.shift k).expected = r.expected.map fun e => (shiftTime k e.1, e.2) := rfl
@[simp] theorem refShift_goodMarks (k : Int) (r : RefRecord) : (r.shift k).goodMarks = r.goodMarks := rfl
@[simp] theorem refShift_badMarks (k : Int) (r : RefRecord) : (r.shift k).badMarks = r.badMarks := rfl
@[simp] theorem refShift_missingMarks (k : Int) (r : RefRecord) : (r.shift k).missingMarks = r.missingMarks := rfl
@[simp] theorem refShift_badLabels (k : Int) (r : RefRecord) : (r.shift k).badLabels = r.badLabels := rfl
@[simp] theorem refShift_windowMark (k : Int) (r : RefRecord) : (r.shift k).windowMark = r.windowMark.map (shiftSecond k) := rfl
@[simp] theorem refShift_windowClosed (k : Int) (r : RefRecord) : (r.shift k).windowClosed = shiftSecond k r.windowClosed := rfl

@[simp] theorem intakeShift_reception (k : Int) (i : Intake) : (i.shift k).reception = i.reception := rfl
@[simp] theorem intakeShift_feed (k : Int) (i : Intake) : (i.shift k).feed = i.feed := rfl
@[simp] theorem intakeShift_lossTimer (k : Int) (i : Intake) : (i.shift k).lossTimer = i.lossTimer.map (shiftTime k) := rfl
@[simp] theorem intakeShift_lastGood (k : Int) (i : Intake) : (i.shift k).lastGood = i.lastGood.map (shiftTime k) := rfl
@[simp] theorem intakeShift_continuity (k : Int) (i : Intake) : (i.shift k).continuity = i.continuity := rfl
@[simp] theorem intakeShift_assembly (k : Int) (i : Intake) : (i.shift k).assembly = i.assembly := rfl
@[simp] theorem intakeShift_lastComplete (k : Int) (i : Intake) : (i.shift k).lastComplete = i.lastComplete := rfl
@[simp] theorem intakeShift_lastAccepted (k : Int) (i : Intake) : (i.shift k).lastAccepted = i.lastAccepted.map (shiftTime k) := rfl
@[simp] theorem intakeShift_counters (k : Int) (i : Intake) : (i.shift k).counters = i.counters := rfl

@[simp] theorem frameShift_number (k : Int) (r : FrameRecord) : (r.shift k).number = r.number := rfl
@[simp] theorem frameShift_c (k : Int) (r : FrameRecord) : (r.shift k).c = shiftTime k r.c := rfl
@[simp] theorem frameShift_e (k : Int) (r : FrameRecord) : (r.shift k).e = shiftTime k r.e := rfl
@[simp] theorem frameShift_q (k : Int) (r : FrameRecord) : (r.shift k).q = shiftTime k r.q := rfl
@[simp] theorem frameShift_lead (k : Int) (r : FrameRecord) : (r.shift k).lead = r.lead := rfl
@[simp] theorem frameShift_declared (k : Int) (r : FrameRecord) : (r.shift k).declared = r.declared := rfl
@[simp] theorem frameShift_taken (k : Int) (r : FrameRecord) : (r.shift k).taken = r.taken := rfl
@[simp] theorem frameShift_counts (k : Int) (r : FrameRecord) : (r.shift k).counts = r.counts := rfl
@[simp] theorem frameShift_status (k : Int) (r : FrameRecord) : (r.shift k).status = r.status := rfl
@[simp] theorem frameShift_state (k : Int) (r : FrameRecord) : (r.shift k).state = r.state := rfl
@[simp] theorem frameShift_firstSlot (k : Int) (r : FrameRecord) : (r.shift k).firstSlot = r.firstSlot := rfl
@[simp] theorem frameShift_slotsHeld (k : Int) (r : FrameRecord) : (r.shift k).slotsHeld = r.slotsHeld := rfl
@[simp] theorem frameShift_sent (k : Int) (r : FrameRecord) : (r.shift k).sent = r.sent := rfl
@[simp] theorem frameShift_consumed (k : Int) (r : FrameRecord) : (r.shift k).consumed = r.consumed := rfl
@[simp] theorem frameShift_cut (k : Int) (r : FrameRecord) : (r.shift k).cut = r.cut := rfl

@[simp] theorem emissionShift_queue (k : Int) (m : Emission) : (m.shift k).queue = m.queue := rfl
@[simp] theorem emissionShift_table (k : Int) (m : Emission) : (m.shift k).table = m.table.map (FrameRecord.shift k) := rfl
@[simp] theorem emissionShift_current (k : Int) (m : Emission) : (m.shift k).current = m.current := rfl
@[simp] theorem emissionShift_nextCell (k : Int) (m : Emission) : (m.shift k).nextCell = m.nextCell.map (shiftTime k) := rfl
@[simp] theorem emissionShift_heldBack (k : Int) (m : Emission) : (m.shift k).heldBack = m.heldBack := rfl
@[simp] theorem emissionShift_state (k : Int) (m : Emission) : (m.shift k).state = m.state := rfl
@[simp] theorem emissionShift_causes (k : Int) (m : Emission) : (m.shift k).causes = m.causes := rfl
@[simp] theorem emissionShift_starve (k : Int) (m : Emission) : (m.shift k).starve = m.starve.map (shiftTime k) := rfl
@[simp] theorem emissionShift_discardRun (k : Int) (m : Emission) : (m.shift k).discardRun = m.discardRun := rfl
@[simp] theorem emissionShift_releaseRun (k : Int) (m : Emission) : (m.shift k).releaseRun = m.releaseRun := rfl
@[simp] theorem emissionShift_transfer (k : Int) (m : Emission) : (m.shift k).transfer = m.transfer := rfl
@[simp] theorem emissionShift_carrier (k : Int) (m : Emission) : (m.shift k).carrier = m.carrier := rfl
@[simp] theorem emissionShift_stepRun (k : Int) (m : Emission) : (m.shift k).stepRun = m.stepRun.map (shiftTime k) := rfl
@[simp] theorem emissionShift_counters (k : Int) (m : Emission) : (m.shift k).counters = m.counters := rfl

@[simp] theorem storeShift_memory (k : Int) (st : SpotStore) : (st.shift k).memory = st.memory := rfl
@[simp] theorem storeShift_freePages (k : Int) (st : SpotStore) : (st.shift k).freePages = st.freePages := rfl
@[simp] theorem storeShift_directory (k : Int) (st : SpotStore) : (st.shift k).directory = st.directory := rfl
@[simp] theorem storeShift_assembler (k : Int) (st : SpotStore) : (st.shift k).assembler = st.assembler := rfl
@[simp] theorem storeShift_checkQueue (k : Int) (st : SpotStore) : (st.shift k).checkQueue = st.checkQueue := rfl
@[simp] theorem storeShift_check (k : Int) (st : SpotStore) : (st.shift k).check = st.check.map fun c => { c with completes := shiftTime k c.completes } := rfl
@[simp] theorem storeShift_counters (k : Int) (st : SpotStore) : (st.shift k).counters = st.counters := rfl

@[simp] theorem recordShift_id (k : Int) (r : BreakRecord) : (r.shift k).id = r.id := rfl
@[simp] theorem recordShift_version (k : Int) (r : BreakRecord) : (r.shift k).version = r.version := rfl
@[simp] theorem recordShift_check (k : Int) (r : BreakRecord) : (r.shift k).check = r.check := rfl
@[simp] theorem recordShift_tag (k : Int) (r : BreakRecord) : (r.shift k).tag = r.tag := rfl
@[simp] theorem recordShift_cOut (k : Int) (r : BreakRecord) : (r.shift k).cOut = shiftTime k r.cOut := rfl
@[simp] theorem recordShift_cIn (k : Int) (r : BreakRecord) : (r.shift k).cIn = shiftTime k r.cIn := rfl
@[simp] theorem recordShift_spots (k : Int) (r : BreakRecord) : (r.shift k).spots = r.spots := rfl
@[simp] theorem recordShift_pad (k : Int) (r : BreakRecord) : (r.shift k).pad = r.pad := rfl
@[simp] theorem recordShift_state (k : Int) (r : BreakRecord) : (r.shift k).state = r.state := rfl
@[simp] theorem recordShift_stance (k : Int) (r : BreakRecord) : (r.shift k).stance = r.stance := rfl
@[simp] theorem recordShift_decisionAt (k : Int) (r : BreakRecord) : (r.shift k).decisionAt = shiftTime k r.decisionAt := rfl
@[simp] theorem recordShift_lockAt (k : Int) (r : BreakRecord) : (r.shift k).lockAt = shiftTime k r.lockAt := rfl
@[simp] theorem recordShift_endAt (k : Int) (r : BreakRecord) : (r.shift k).endAt = r.endAt.map (shiftTime k) := rfl
@[simp] theorem recordShift_removalAt (k : Int) (r : BreakRecord) : (r.shift k).removalAt = r.removalAt.map (shiftTime k) := rfl
@[simp] theorem recordShift_channel (k : Int) (r : BreakRecord) : (r.shift k).channel = r.channel := rfl
@[simp] theorem recordShift_abandonCause (k : Int) (r : BreakRecord) : (r.shift k).abandonCause = r.abandonCause := rfl
@[simp] theorem recordShift_splitReported (k : Int) (r : BreakRecord) : (r.shift k).splitReported = r.splitReported := rfl
@[simp] theorem recordShift_lateReported (k : Int) (r : BreakRecord) : (r.shift k).lateReported = r.lateReported := rfl
@[simp] theorem recordShift_watch (k : Int) (r : BreakRecord) : (r.shift k).watch = r.watch := rfl

@[simp] theorem cueShift_table (k : Int) (d : CueDecoder) : (d.shift k).table = d.table.map (BreakRecord.shift k) := rfl
@[simp] theorem cueShift_counters (k : Int) (d : CueDecoder) : (d.shift k).counters = d.counters := rfl

@[simp] theorem channelShift_state (k : Int) (c : Channel) : (c.shift k).state = c.state := rfl
@[simp] theorem channelShift_bound (k : Int) (c : Channel) : (c.shift k).bound = c.bound.map fun b => { b with cOut := shiftTime k b.cOut, cIn := shiftTime k b.cIn } := rfl
@[simp] theorem channelShift_tag (k : Int) (c : Channel) : (c.shift k).tag = c.tag := rfl
@[simp] theorem channelShift_items (k : Int) (c : Channel) : (c.shift k).items = c.items := rfl
@[simp] theorem channelShift_padItem (k : Int) (c : Channel) : (c.shift k).padItem = c.padItem := rfl
@[simp] theorem channelShift_listedLength (k : Int) (c : Channel) : (c.shift k).listedLength = c.listedLength := rfl
@[simp] theorem channelShift_padLength (k : Int) (c : Channel) : (c.shift k).padLength = c.padLength := rfl
@[simp] theorem channelShift_cursor (k : Int) (c : Channel) : (c.shift k).cursor = c.cursor := rfl
@[simp] theorem channelShift_plan (k : Int) (c : Channel) : (c.shift k).plan = c.plan := rfl
@[simp] theorem channelShift_lastFailed (k : Int) (c : Channel) : (c.shift k).lastFailed = c.lastFailed := rfl
@[simp] theorem channelShift_counters (k : Int) (c : Channel) : (c.shift k).counters = c.counters := rfl

@[simp] theorem channelsShift_chan (k : Int) (ch : Channels) : (ch.shift k).chan = ch.chan.map (Channel.shift k) := rfl
@[simp] theorem channelsShift_lastPass (k : Int) (ch : Channels) : (ch.shift k).lastPass = ch.lastPass.map (shiftTime k) := rfl
@[simp] theorem channelsShift_lastGap (k : Int) (ch : Channels) : (ch.shift k).lastGap = ch.lastGap.map (shiftTime k) := rfl
@[simp] theorem channelsShift_passCount (k : Int) (ch : Channels) : (ch.shift k).passCount = ch.passCount := rfl

@[simp] theorem zoneShift_line (k : Int) (z : ZoneLine) : (z.shift k).line = z.line := rfl
@[simp] theorem zoneShift_busySince (k : Int) (z : ZoneLine) : (z.shift k).busySince = z.busySince.map (shiftTime k) := rfl
@[simp] theorem zoneShift_rxLevel (k : Int) (z : ZoneLine) : (z.shift k).rxLevel = z.rxLevel := rfl
@[simp] theorem zoneShift_idleSince (k : Int) (z : ZoneLine) : (z.shift k).idleSince = z.idleSince.map (shiftTime k) := rfl
@[simp] theorem zoneShift_receiver (k : Int) (z : ZoneLine) : (z.shift k).receiver = z.receiver.shift k := rfl
@[simp] theorem zoneShift_slot (k : Int) (z : ZoneLine) : (z.shift k).slot = z.slot := rfl
@[simp] theorem zoneShift_flight (k : Int) (z : ZoneLine) : (z.shift k).flight = z.flight.map fun f => { f with guardAt := shiftTime k f.guardAt } := rfl
@[simp] theorem zoneShift_echo (k : Int) (z : ZoneLine) : (z.shift k).echo = z.echo.shift k := rfl
@[simp] theorem zoneShift_schedule (k : Int) (z : ZoneLine) : (z.shift k).schedule = z.schedule.map (shiftTime k) := rfl
@[simp] theorem zoneShift_waitFrom (k : Int) (z : ZoneLine) : (z.shift k).waitFrom = z.waitFrom.map (shiftTime k) := rfl
@[simp] theorem zoneShift_counters (k : Int) (z : ZoneLine) : (z.shift k).counters = z.counters := rfl

@[simp] theorem peerShift_site (k : Int) (p : Peer) : (p.shift k).site = p.site := rfl
@[simp] theorem peerShift_state (k : Int) (p : Peer) : (p.shift k).state = p.state := rfl
@[simp] theorem peerShift_last (k : Int) (p : Peer) : (p.shift k).last = p.last := rfl
@[simp] theorem peerShift_lastHeard (k : Int) (p : Peer) : (p.shift k).lastHeard = p.lastHeard.map (shiftTime k) := rfl
@[simp] theorem peerShift_timer (k : Int) (p : Peer) : (p.shift k).timer = p.timer.map (shiftTime k) := rfl
@[simp] theorem peerShift_periodicTaken (k : Int) (p : Peer) : (p.shift k).periodicTaken = p.periodicTaken := rfl
@[simp] theorem peerShift_urgentTaken (k : Int) (p : Peer) : (p.shift k).urgentTaken = p.urgentTaken := rfl
@[simp] theorem peerShift_absences (k : Int) (p : Peer) : (p.shift k).absences = p.absences := rfl

@[simp] theorem rosterShift_roster (k : Int) (r : PeerRoster) : (r.shift k).roster = r.roster := rfl
@[simp] theorem rosterShift_quorum (k : Int) (r : PeerRoster) : (r.shift k).quorum = r.quorum := rfl
@[simp] theorem rosterShift_peers (k : Int) (r : PeerRoster) : (r.shift k).peers = r.peers.map (Peer.shift k) := rfl
@[simp] theorem rosterShift_duplicate (k : Int) (r : PeerRoster) : (r.shift k).duplicate = r.duplicate := rfl
@[simp] theorem rosterShift_malformed (k : Int) (r : PeerRoster) : (r.shift k).malformed = r.malformed := rfl
@[simp] theorem rosterShift_otherZone (k : Int) (r : PeerRoster) : (r.shift k).otherZone = r.otherZone := rfl
@[simp] theorem rosterShift_strangers (k : Int) (r : PeerRoster) : (r.shift k).strangers = r.strangers := rfl
@[simp] theorem rosterShift_ownEchoes (k : Int) (r : PeerRoster) : (r.shift k).ownEchoes = r.ownEchoes := rfl
@[simp] theorem rosterShift_duplicates (k : Int) (r : PeerRoster) : (r.shift k).duplicates = r.duplicates := rfl

/-! ### tick -/

/-- One TU of the oscillator: the oscillator count and the time base, and the wrap of S when site time has passed its
maximum. -/
theorem tick_eq (s : State) : tick s = ({ s with osc := s.osc + 1, tb := s.tb.tick } : State).wrapTime := rfl

end Sys2Proof.Laws
end

