-- ==== Sys2Proof/Laws/Frames.lean ====
section
/-! SUPPORT. What the operations of the break table, the agreement unit, the channels and the spot store leave alone:
the oscillator count, the time base, feed intake, the emission controller, the roster, the count of choices and the
queue of commands. One lemma for each operation; a proof cites it and does not unfold the operation. -/

namespace Sys2Proof.Laws

open Sys2Proof Sys2Proof.Machine

/-- The part of the state that these operations leave alone. -/
structure Outer where
  osc : Nat
  tb : TimeBase
  intake : Intake
  em : Emission
  ros : PeerRoster
  choices : Nat
  pending : List Instr

/-- The outer part of a state. -/
def outer (s : State) : Outer := ⟨s.osc, s.tb, s.intake, s.em, s.ros, s.choices, s.pending⟩

/-- A loop keeps what its body keeps. -/
theorem forEach_keeps {α β γ : Type} (P : β → γ) (f : α → β → β) (h : ∀ a b, P (f a b) = P b) (l : List α) (b : β) :
    P (forEach f l b) = P b := by
  induction l generalizing b with
  | nil => rfl
  | cons x xs ih => rw [forEach, ih, h]

/-- A repetition keeps what its body keeps. -/
theorem iter_keeps {β γ : Type} (P : β → γ) (f : β → β) (h : ∀ b, P (f b) = P b) (n : Nat) (b : β) :
    P (iter f n b) = P b := by
  induction n generalizing b with
  | zero => rfl
  | succ n ih => rw [iter, ih, h]

/-! ### Elementary updates -/

@[simp] theorem outer_updateEntry (n : Nat) (f : Entry → Entry) (s : State) : outer (updateEntry n f s) = outer s := rfl
@[simp] theorem outer_updateStoreCounters (f : StoreCounters → StoreCounters) (s : State) :
    outer (updateStoreCounters f s) = outer s := rfl
@[simp] theorem outer_returnPages (l : List Nat) (s : State) : outer (returnPages l s) = outer s := rfl
@[simp] theorem outer_setAssembler (a : Assembler) (s : State) : outer (setAssembler a s) = outer s := rfl
@[simp] theorem outer_writeSlot (n : Nat) (b : List Byte) (s : State) : outer (writeSlot n b s) = outer s := rfl
@[simp] theorem outer_updateRecord (n : Nat) (f : BreakRecord → BreakRecord) (s : State) :
    outer (updateRecord n f s) = outer s := rfl
@[simp] theorem outer_countCues (f : CueCounters → CueCounters) (s : State) : outer (countCues f s) = outer s := rfl
@[simp] theorem outer_updateChan (k : Nat) (f : Channel → Channel) (s : State) : outer (updateChan k f s) = outer s := rfl
@[simp] theorem outer_countChan (k : Nat) (f : ChannelCounters → ChannelCounters) (s : State) :
    outer (countChan k f s) = outer s := rfl
@[simp] theorem outer_dropPlans (s : State) : outer (dropPlans s) = outer s := rfl
@[simp] theorem outer_countAgree (f : AgreementCounters → AgreementCounters) (s : State) :
    outer (countAgree f s) = outer s := rfl
@[simp] theorem outer_raise (e : Event) (s : State) : outer (raise e s) = outer s := rfl
@[simp] theorem outer_updateControl (f : SiteControl → SiteControl) (s : State) : outer (updateControl f s) = outer s :=
  rfl
@[simp] theorem outer_updateZone (f : ZoneLine → ZoneLine) (s : State) : outer (updateZone f s) = outer s := rfl
@[simp] theorem outer_countZone (f : LineCounters → LineCounters) (s : State) : outer (countZone f s) = outer s := rfl
@[simp] theorem outer_store (x : SpotStore) (s : State) : outer { s with store := x } = outer s := rfl
@[simp] theorem outer_cues (x : CueDecoder) (s : State) : outer { s with cues := x } = outer s := rfl
@[simp] theorem outer_chans (x : Channels) (s : State) : outer { s with chans := x } = outer s := rfl
@[simp] theorem outer_zone (x : ZoneLine) (s : State) : outer { s with zone := x } = outer s := rfl
@[simp] theorem outer_sc (x : SiteControl) (s : State) : outer { s with sc := x } = outer s := rfl
@[simp] theorem outer_mon (x : Monitor) (s : State) : outer { s with mon := x } = outer s := rfl

/-! ### The monitor port, the latches and the waiting slot -/

@[simp] theorem outer_raiseAll (l : List Event) (s : State) : outer (raiseAll l s) = outer s :=
  forEach_keeps outer raise (fun _ _ => rfl) l s
@[simp] theorem outer_formReport (s : State) : outer (formReport s) = outer s := rfl
@[simp] theorem outer_putLatch (l : Latch) (v : Bool) (s : State) : outer (putLatch l v s) = outer s := by
  unfold putLatch; split <;> rfl
@[simp] theorem outer_setLatch (l : Latch) (s : State) : outer (setLatch l s) = outer s := outer_putLatch l true s
@[simp] theorem outer_joinSlot (k : AnnouncementKind) (s : State) : outer (joinSlot k s) = outer s := by
  unfold joinSlot; split <;> rfl
@[simp] theorem outer_urgent (s : State) : outer (urgent s) = outer s := by
  unfold urgent; split <;> simp

/-! ### The spot store -/

@[simp] theorem outer_dropCapture (s : State) : outer (dropCapture s) = outer s := by
  unfold dropCapture; split <;> simp
@[simp] theorem outer_endSegment (s : State) : outer (endSegment s) = outer s := by simp [endSegment]
@[simp] theorem outer_protectSpot (x : Spot) (s : State) : outer (protectSpot x s) = outer s := by
  unfold protectSpot; split <;> simp
@[simp] theorem outer_freezeSpot (x : Spot) (s : State) : outer (freezeSpot x s) = outer s := by
  unfold freezeSpot; split <;> simp

section Notify

variable {notify : State → State} (hn : ∀ s, outer (notify s) = outer s)
include hn

theorem outer_makeMissing (src : Option DamageSource) (id : Nat) (l : List Nat) (s : State) :
    outer (makeMissing notify src id l s) = outer s := by
  unfold makeMissing; split
  · rfl
  · cases src <;> simp [hn]
theorem outer_removeEntry (id : Nat) (s : State) : outer (removeEntry notify id s) = outer s := by
  unfold removeEntry; split
  · rfl
  · dsimp only; rw [hn]; split <;> (try split) <;> simp
theorem outer_tryExpire (id : Nat) (s : State) : outer (tryExpire notify id s) = outer s := by
  unfold tryExpire; split
  · rfl
  · split <;> simp [outer_removeEntry hn]
theorem outer_releaseSpot (x : Spot) (s : State) : outer (releaseSpot notify x s) = outer s := by
  unfold releaseSpot; split <;> simp [outer_tryExpire hn]
theorem outer_applyPending (src : Option DamageSource) (id : Nat) (s : State) :
    outer (applyPending notify src id s) = outer s := by
  unfold applyPending; split
  · rfl
  · split <;> simp [outer_makeMissing hn]
theorem outer_unfreezeSpot (x : Spot) (s : State) : outer (unfreezeSpot notify x s) = outer s := by
  unfold unfreezeSpot; split
  · rfl
  · dsimp only; split <;> simp [outer_tryExpire hn, outer_applyPending hn]
theorem outer_startCheck (s : State) : outer (startCheck notify s) = outer s := by
  unfold startCheck; split
  · split <;> simp [hn]
  · rfl
theorem outer_storeFailure (id k : Nat) (s : State) : outer (storeFailure notify id k s) = outer s := by
  unfold storeFailure; split
  · rfl
  · split
    · split <;> simp
    · simp [outer_makeMissing hn]
theorem outer_unbindChannel (k : Nat) (s : State) : outer (unbindChannel notify k s) = outer s := by
  unfold unbindChannel; split
  · rfl
  · simp only [outer_raise]
    rw [forEach_keeps outer _ (fun x s => outer_releaseSpot hn x s)]
    split
    · rw [forEach_keeps outer _ (fun x s => outer_unfreezeSpot hn x s)]; simp [hn]
    · simp [hn]

end Notify

/-! ### The agreement unit -/

@[simp] theorem outer_reportStance (id : Nat) (o : Option Stance) (n : Stance) (s : State) :
    outer (reportStance id o n s) = outer s := by simp [reportStance]
@[simp] theorem outer_setStance (id : Nat) (n : Stance) (s : State) : outer (setStance id n s) = outer s := by
  unfold setStance; split
  · rfl
  · split <;> simp
@[simp] theorem outer_refreshRecord (id : Nat) (s : State) : outer (refreshRecord id s) = outer s := by
  unfold refreshRecord; split
  · rfl
  · split <;> simp
@[simp] theorem outer_refreshOpen (s : State) : outer (refreshOpen s) = outer s :=
  forEach_keeps outer _ (fun _ _ => by simp) _ _
@[simp] theorem outer_moveState (id : Nat) (n : BreakState) (s : State) : outer (moveState id n s) = outer s := by
  unfold moveState; split <;> simp
@[simp] theorem outer_holdRecord (id : Nat) (h : HoldReason) (s : State) : outer (holdRecord id h s) = outer s := by
  unfold holdRecord; split
  · rfl
  · dsimp only; rw [outer_refreshOpen]
    split <;> rw [outer_countAgree, outer_urgent, outer_reportStance] <;> split <;>
      simp [outer_unbindChannel outer_refreshOpen]
@[simp] theorem outer_reconcileBut (x n : Nat) (s : State) : outer (reconcileBut x n s) = outer s := by
  induction n generalizing s with
  | zero => simp [reconcileBut]
  | succ n ih => unfold reconcileBut; split <;> simp [ih]
@[simp] theorem outer_refreshBut (x : Nat) (s : State) : outer (refreshBut x s) = outer s := by simp [refreshBut]
@[simp] theorem outer_refresh (s : State) : outer (refresh s) = outer s := by simp [refresh]
@[simp] theorem outer_unbind (k : Nat) (s : State) : outer (unbind k s) = outer s := outer_unbindChannel outer_refresh k s
@[simp] theorem outer_comparePeer (id : Nat) (p : Peer) (s : State) : outer (comparePeer id p s) = outer s := by
  unfold comparePeer; split
  · rfl
  · dsimp only; split <;> simp
@[simp] theorem outer_compareAll (id : Nat) (s : State) : outer (compareAll id s) = outer s :=
  forEach_keeps outer _ (fun _ _ => by simp) _ _
@[simp] theorem outer_channelMove (id : Nat) (n : BreakState) (c : Option AbandonCause) (s : State) :
    outer (channelMove id n c s) = outer s := by
  unfold channelMove; split
  · rfl
  · split
    · dsimp only; split <;> simp
    · rfl
@[simp] theorem outer_removeRecord (id : Nat) (s : State) : outer (removeRecord id s) = outer s := by
  unfold removeRecord; split
  · rfl
  · simp only [outer_raise, outer_refresh, outer_urgent, outer_cues]
    rw [forEach_keeps outer _ (fun x s => outer_releaseSpot (outer_refreshBut id) x s)]
    split <;> simp [outer_unbindChannel (outer_refreshBut id)]
@[simp] theorem outer_settleRemoval (id : Nat) (s : State) : outer (settleRemoval id s) = outer s := by
  unfold settleRemoval; split
  · rfl
  · split <;> simp

/-! ### The insertion channels -/

@[simp] theorem outer_bindChannel (k : Nat) (r : BreakRecord) (s : State) : outer (bindChannel k r s) = outer s := by
  simp only [bindChannel, outer_countChan, outer_raise, outer_updateRecord]
  rw [forEach_keeps outer _ (fun x s => outer_protectSpot x s)]; simp
@[simp] theorem outer_giveUp (c : AbandonCause) (k : Nat) (s : State) : outer (giveUp c k s) = outer s := by
  unfold giveUp; split
  · rfl
  · cases c <;> simp
@[simp] theorem outer_endPlay (k : Nat) (s : State) : outer (endPlay k s) = outer s := by
  unfold endPlay; split <;> simp
@[simp] theorem outer_armChannel (k : Nat) (s : State) : outer (armChannel k s) = outer s := by
  unfold armChannel; split
  · rfl
  · split
    · rfl
    · dsimp only; split
      · simp [forEach_keeps outer _ (fun x s => outer_freezeSpot x s)]
      · split <;> simp [forEach_keeps outer _ (fun x s => outer_freezeSpot x s)]
@[simp] theorem outer_setChannelState (k : Nat) (n : ChannelState) (position : Nat) (s : State) :
    outer (setChannelState k n position s) = outer s := by
  unfold setChannelState; split <;> simp
@[simp] theorem outer_padReached (k : Nat) (s : State) : outer (padReached k s) = outer s := by
  unfold padReached; split
  · rfl
  · split <;> simp
@[simp] theorem outer_planFrame (p : FramePass) (k : Nat) (s : State) : outer (planFrame p k s) = outer s := by
  unfold planFrame; split
  · rfl
  · simp
@[simp] theorem outer_playPass (p : FramePass) (k : Nat) (b : BoundBreak) (s : State) :
    outer (playPass p k b s) = outer s := by
  unfold playPass; (repeat' split) <;> simp
@[simp] theorem outer_armedPass (p : FramePass) (k : Nat) (b : BoundBreak) (s : State) :
    outer (armedPass p k b s) = outer s := by
  unfold armedPass; (repeat' split) <;> simp
@[simp] theorem outer_channelPass (p : FramePass) (k : Nat) (s : State) : outer (channelPass p k s) = outer s := by
  unfold channelPass; (repeat' split) <;> simp
@[simp] theorem outer_framePass (p : FramePass) (s : State) : outer (framePass p s) = outer s := by
  simp only [framePass, outer_chans]
  rw [forEach_keeps outer _ (fun x s => outer_channelPass p x s)]; split <;> simp
@[simp] theorem outer_channelGap (c : Time) (k : Nat) (s : State) : outer (channelGap c k s) = outer s := by
  unfold channelGap; (repeat' split) <;> simp
@[simp] theorem outer_frameGapToChannels (c : Time) (s : State) : outer (frameGapToChannels c s) = outer s := by
  unfold frameGapToChannels; rw [forEach_keeps outer _ (fun x s => outer_channelGap c x s)]; simp
@[simp] theorem outer_overrideChannels (s : State) : outer (overrideChannels s) = outer s := by
  refine forEach_keeps outer _ (fun x s => ?_) _ _
  unfold channelOverride; (repeat' split) <;> simp
@[simp] theorem outer_readFailed (k : Nat) (p : FramePlan) (id g : Nat) (s : State) :
    outer (readFailed k p id g s) = outer s := by
  unfold readFailed; dsimp only
  (repeat' split) <;> simp [outer_storeFailure outer_refresh]
@[simp] theorem outer_substitutedCell (k : Nat) (p : FramePlan) (c : Cell) (s : State) :
    outer (substitutedCell k p c s).2 = outer s := by
  unfold substitutedCell; split
  · simp
  · dsimp only; split <;> split <;> simp
@[simp] theorem outer_passChannels (n : Nat) (c : Cell) (s : State) : outer (passChannels n c s).2 = outer s := by
  unfold passChannels; split <;> simp

end Sys2Proof.Laws
end

