-- ==== Sys2Proof/Laws/Wrap.lean ====
section
/-! SUPPORT. Site time across the wrap of S: what bringing it back into its range does, and that what two instants say of
each other stays when every instant moves. -/

namespace Sys2Proof.Laws

open Sys2Proof Sys2Proof.Machine

/-! ### What a wrap and a step do -/

/-- All that bringing site time back into its range can do: nothing, or move every instant by one wrap of S. -/
theorem wrapTime_cases (s : State) : s.wrapTime = s ∧ 0 ≤ s.tb.now ∧ s.tb.now < Config.timeWrap
    ∨ s.wrapTime = s.shift (-1) ∧ Config.timeWrap ≤ s.tb.now ∨ s.wrapTime = s.shift 1 ∧ s.tb.now < 0 := by
  unfold State.wrapTime
  by_cases h : Config.timeWrap ≤ s.tb.now
  · exact .inr (.inl ⟨if_pos h, h⟩)
  · by_cases h' : s.tb.now < 0
    · exact .inr (.inr ⟨by rw [if_neg h, if_pos h'], h'⟩)
    · exact .inl ⟨by rw [if_neg h, if_neg h'], not_lt.1 h', not_le.1 h⟩

/-- A site time within its range is left as it is, and so is every instant held. -/
theorem wrapTime_of_range {s : State} (h : 0 ≤ s.tb.now) (h' : s.tb.now < Config.timeWrap) : s.wrapTime = s := by
  unfold State.wrapTime; rw [if_neg (not_le.2 h'), if_neg (not_lt.2 h)]

/-- A step goes to its label, or to the label's recurrence across the wrap less than 2 s away. -/
theorem stepTarget_cases (now : Time) (label : Nat) : stepTarget now label = label * Config.second
    ∨ stepTarget now label = label * Config.second + Config.timeWrap ∧ stepTarget now label - now < 20000000
    ∨ stepTarget now label = label * Config.second - Config.timeWrap ∧ now - stepTarget now label < 20000000 := by
  unfold stepTarget; dsimp only; split
  · next h => exact .inr (.inl ⟨rfl, h⟩)
  · split
    · next h => exact .inr (.inr ⟨rfl, h⟩)
    · exact .inl rfl

/-! ### Two instants that move together -/

@[simp] theorem shiftTime_le (k : Int) (a b : Time) : shiftTime k a ≤ shiftTime k b ↔ a ≤ b := add_le_add_iff_right _

@[simp] theorem shiftTime_lt (k : Int) (a b : Time) : shiftTime k a < shiftTime k b ↔ a < b := add_lt_add_iff_right _

theorem shiftTime_add (k : Int) (a b : Time) : shiftTime k a + b = shiftTime k (a + b) := Int.add_right_comm _ _ _

theorem shiftTime_sub (k : Int) (a b : Time) : shiftTime k a - b = shiftTime k (a - b) := add_sub_right_comm _ _ _

@[simp] theorem shiftTime_diff (k : Int) (a b : Time) : shiftTime k a - shiftTime k b = a - b := add_sub_add_right_eq_sub _ _ _

@[simp] theorem isDue_shift (k : Int) (now : Time) (t : Option Time) :
    isDue (shiftTime k now) (t.map (shiftTime k)) = isDue now t := by
  cases t <;> simp [isDue]

@[simp] theorem secondOf_shift (k : Int) (t : Time) : secondOf (shiftTime k t) = shiftSecond k (secondOf t) := by
  simp only [secondOf, shiftTime, shiftSecond, Config.second, Config.timeWrap, Config.secondsWrap]; omega

@[simp] theorem fractionOf_shift (k : Int) (t : Time) : fractionOf (shiftTime k t) = fractionOf t := by
  simp only [fractionOf, shiftTime, Config.second, Config.timeWrap]; omega

/-- What is found in a list of moved items is what was found before the move, moved. -/
theorem find?_shift {α : Type} {q p : α → Bool} {f : α → α} (h : ∀ x, q (f x) = p x) (l : List α) :
    (l.map f).find? q = (l.find? p).map f := by
  rw [List.find?_map]; congr 2; exact funext h

theorem le_shift_range (k : Int) (a b : Time) (c : Time) : shiftTime k a + c ≤ shiftTime k b ↔ a + c ≤ b := by
  rw [shiftTime_add, shiftTime_le]

theorem le_shift_range' (k : Int) (a b : Time) (c : Time) : shiftTime k a ≤ shiftTime k b + c ↔ a ≤ b + c := by
  rw [shiftTime_add, shiftTime_le]

theorem lt_shift_range (k : Int) (a b : Time) (c : Time) : shiftTime k a + c < shiftTime k b ↔ a + c < b := by
  rw [shiftTime_add, shiftTime_lt]

/-! ### What is due, block by block -/

theorem fitted_shift (k : Int) (s : State) (r : Ref) : (s.shift k).fitted r = s.fitted r := by
  cases r <;> rfl

theorem boundaryDue_shift (k : Int) (s : State) : boundaryDue (s.shift k) = boundaryDue s := by
  simp only [boundaryDue, stateShift_tb, shift_disc, shift_announced, shift_now, secondOf_shift]
  cases s.tb.announced with
  | none => rfl
  | some n => simp only [Option.map_some]; congr 1; simp [shiftSecond]

theorem localTest_shift (k : Int) (t : TimeBase) : localTest (t.shift k) = localTest t := rfl

theorem ref_shift (k : Int) (t : TimeBase) (r : Ref) : (t.shift k).ref r = (t.ref r).shift k := by cases r <;> rfl

theorem lastClosed_shift (k : Int) (t : Time) : lastClosed (shiftTime k t) = shiftSecond k (lastClosed t) := by
  unfold lastClosed; rw [shiftTime_sub]; exact secondOf_shift k _

theorem missingDue_shift (k : Int) (r : Ref) (s : State) : missingDue r (s.shift k) = missingDue r s := by
  simp only [missingDue, fitted_shift, stateShift_tb, localTest_shift, ref_shift, refShift_windowClosed, shift_now,
    lastClosed_shift, refShift_expected]
  congr 1; split
  · simp [shiftSecond]
  · cases (s.tb.ref r).expected <;> simp [le_shift_range]

theorem lateFrame_shift (k : Int) (s : State) : lateFrame (s.shift k) = (lateFrame s).map (FrameRecord.shift k) := by
  simp only [lateFrame, stateShift_em, emissionShift_table]
  exact find?_shift (by intro x; simp) _

theorem releaseDue_shift (k : Int) (s : State) : releaseDue (s.shift k) = (releaseDue s).map (FrameRecord.shift k) := by
  simp only [releaseDue, stateShift_em, emissionShift_table]
  exact find?_shift (by intro x; simp) _

theorem instantDue_shift (k : Int) (s : State) : instantDue (s.shift k) = (instantDue s).map (shiftTime k) := by
  simp only [instantDue, lateFrame_shift, releaseDue_shift, Option.isSome_map, stateShift_em, emissionShift_nextCell]
  split
  · rfl
  · cases s.em.nextCell with
    | none => rfl
    | some t => simp only [Option.map_some, stateShift_tb, shift_now, shiftTime_le]; split <;> rfl

theorem currentFrame_shift (k : Int) (s : State) :
    (s.shift k).currentFrame = s.currentFrame.map (FrameRecord.shift k) := by
  simp only [State.currentFrame, stateShift_em, emissionShift_current]
  cases s.em.current with
  | none => rfl
  | some n => exact find?_shift (by intro x; rfl) _

theorem dueEmission_shift (k : Int) (s : State) : dueEmission (s.shift k) = dueEmission s := by
  simp only [dueEmission, lateFrame_shift, releaseDue_shift, instantDue_shift, currentFrame_shift, Option.isSome_map]
  rfl

theorem checkDue_shift (k : Int) (s : State) : (checkDue (s.shift k)).isSome = (checkDue s).isSome := by
  simp only [checkDue, stateShift_store, storeShift_check]
  cases s.store.check with
  | none => rfl
  | some c => simp only [Option.map_some, stateShift_tb, shift_now, shiftTime_le]; split <;> rfl

theorem earliest_shift (k : Int) (l : List (Time × BreakInstant)) :
    earliest (l.map fun x => (shiftTime k x.1, x.2)) = (earliest l).map fun x => (shiftTime k x.1, x.2) := by
  induction l with
  | nil => rfl
  | cons a l ih =>
    simp only [List.map_cons, earliest, ih]
    cases earliest l with
    | none => rfl
    | some b => simp only [Option.map_some, shiftTime_lt]; split <;> rfl

theorem instants_shift (k : Int) (r : BreakRecord) :
    (r.shift k).instants = r.instants.map fun x => (shiftTime k x.1, x.2) := by
  simp only [BreakRecord.instants, List.map_append]
  have h1 : (r.shift k).watchOpenAt = shiftTime k r.watchOpenAt := shiftTime_add _ _ _
  have h2 : (r.shift k).watchCloseAt = shiftTime k r.watchCloseAt := shiftTime_sub _ _ _
  simp only [h1, h2, recordShift_state, recordShift_watch, recordShift_decisionAt,
    recordShift_lockAt, recordShift_endAt, recordShift_removalAt]
  simp only [apply_ite (List.map fun x : Time × BreakInstant => (shiftTime k x.1, x.2))]
  cases r.endAt <;> cases r.removalAt <;> rfl

theorem dueInstant_shift (k : Int) (r : BreakRecord) (now : Time) :
    (r.shift k).dueInstant (shiftTime k now) = r.dueInstant now := by
  simp only [BreakRecord.dueInstant, instants_shift, earliest_shift]
  cases earliest r.instants with
  | none => rfl
  | some x => simp

theorem dueBreaks_shift (k : Int) (s : State) : dueBreaks (s.shift k) = dueBreaks s := by
  simp only [dueBreaks, decisionDue, stateShift_cues, cueShift_table, stateShift_tb, shift_now]
  rw [find?_shift (p := fun r => r.dueInstant s.tb.now == some .decision) (fun x => by simp only [dueInstant_shift])]
  rw [Option.isSome_map, List.filterMap_map]
  congr 2
  funext r; simp only [Function.comp, dueInstant_shift]; rfl

theorem messageEnded_shift (k : Int) (s : State) : messageEnded (s.shift k) = messageEnded s := by
  simp only [messageEnded, stateShift_zone, zoneShift_receiver]
  cases s.zone.receiver <;> rfl

theorem cellMissed_shift (k : Int) (s : State) : cellMissed (s.shift k) = cellMissed s := by
  simp only [cellMissed, stateShift_zone, zoneShift_receiver]
  cases s.zone.receiver with
  | off => rfl
  | hunt => rfl
  | message m =>
    simp only [Receiver.shift, Reception.missed, stateShift_tb, shift_now, lt_shift_range]; rfl

theorem lineIdleDue_shift (k : Int) (s : State) : lineIdleDue (s.shift k) = lineIdleDue s := by
  simp only [lineIdleDue, stateShift_zone, zoneShift_busySince, stateShift_tb, shift_now]
  cases s.zone.busySince with
  | none => rfl
  | some t => simp only [Option.map_some, le_shift_range]; rfl

theorem guarded_shift (k : Int) (z : ZoneLine) :
    (z.shift k).guarded = z.guarded.map fun f => { f with guardAt := shiftTime k f.guardAt } := by
  rcases z with ⟨line, _, _, _, _, _, flight, _, _, _, _⟩
  cases line <;> cases flight <;> try rfl
  rename_i f; rcases f with ⟨_, _, _, _, g, _⟩; cases g <;> rfl

theorem guardEnded_shift (k : Int) (s : State) : (guardEnded (s.shift k)).isSome = (guardEnded s).isSome := by
  have hv : (s.shift k).validConfig = s.validConfig := rfl
  simp only [guardEnded, hv, stateShift_zone, guarded_shift, stateShift_tb, shift_now]
  cases s.validConfig <;> cases s.zone.guarded <;> try rfl
  rename_i c f
  have h : ({ f with guardAt := shiftTime k f.guardAt } : InFlight).opensAt = shiftTime k f.opensAt := shiftTime_add _ _ _
  simp only [Option.map_some, h, shiftTime_lt]
  split <;> rfl

theorem windowClosing_shift (k : Int) (s : State) : windowClosing (s.shift k) = windowClosing s := by
  simp only [windowClosing, stateShift_zone, zoneShift_echo, stateShift_tb, shift_now]
  cases s.zone.echo with
  | closed => rfl
  | opened o c f =>
    have h : markPending (shiftTime k c) (s.shift k) = markPending c s := by
      simp only [markPending, stateShift_zone, zoneShift_busySince, zoneShift_rxLevel, stateShift_tb, shift_now]
      cases s.zone.busySince with
      | none => rfl
      | some t => simp only [Option.map_some, shiftTime_le, le_shift_range']
    simp only [EchoWindow.shift, shiftTime_lt, h]

theorem attemptEnded_shift (k : Int) (s : State) : (attemptEnded (s.shift k)).isSome = (attemptEnded s).isSome := by
  simp only [attemptEnded, stateShift_zone, zoneShift_line, zoneShift_flight, stateShift_tb, shift_now]
  cases s.zone.line <;> cases s.zone.flight <;> try rfl
  rename_i f; simp only [Option.map_some]
  cases f.verdict with
  | none => rfl
  | some v => simp only [le_shift_range]; split <;> rfl

theorem retryDue_shift (k : Int) (s : State) : (retryDue (s.shift k)).isSome = (retryDue s).isSome := by
  have hv : (s.shift k).validConfig = s.validConfig := rfl
  simp only [retryDue, hv, stateShift_zone, zoneShift_line, zoneShift_flight, zoneShift_waitFrom, stateShift_tb,
    shift_now]
  cases s.validConfig <;> cases s.zone.line <;> cases s.zone.flight <;> cases s.zone.waitFrom <;> try rfl
  simp only [Option.map_some, le_shift_range]; split <;> rfl

theorem attemptDue_shift (k : Int) (s : State) : (attemptDue (s.shift k)).isSome = (attemptDue s).isSome := by
  have hv : (s.shift k).validConfig = s.validConfig := rfl
  simp only [attemptDue, hv, stateShift_zone, zoneShift_slot, zoneShift_flight, zoneShift_idleSince, stateShift_tb,
    shift_now]
  cases s.validConfig <;> cases s.zone.slot <;> cases s.zone.flight <;> cases s.zone.idleSince <;> try rfl
  simp only [Option.map_some, Option.map_none, le_shift_range, apply_ite Option.isSome, Option.isSome_some]

theorem periodicDue_shift (k : Int) (s : State) : (periodicDue (s.shift k)).isSome = (periodicDue s).isSome := by
  have hv : (s.shift k).validConfig = s.validConfig := rfl
  simp only [periodicDue, hv, stateShift_zone, zoneShift_schedule, stateShift_tb, shift_now]
  cases s.validConfig <;> cases s.zone.schedule <;> try rfl
  simp only [Option.map_some, shiftTime_le]; split <;> rfl

theorem silentPeer_shift (k : Int) (n : Nat) (s : State) :
    silentPeer n (s.shift k) = (silentPeer n s).map (Peer.shift k) := by
  have h : (s.shift k).peer? n = (s.peer? n).map (Peer.shift k) := find?_shift (fun x => rfl) _
  simp only [silentPeer, h]
  cases s.peer? n with
  | none => rfl
  | some p =>
    simp only [Option.map_some, peerShift_state, peerShift_timer, stateShift_tb, shift_now, isDue_shift]
    split <;> rfl

theorem dueZone_shift (k : Int) (s : State) : dueZone (s.shift k) = dueZone s := by
  simp only [dueZone, messageEnded_shift, cellMissed_shift, lineIdleDue_shift, guardEnded_shift, windowClosing_shift,
    attemptEnded_shift, retryDue_shift, attemptDue_shift, periodicDue_shift, silentPeer_shift, stateShift_ros,
    rosterShift_peers, List.filterMap_map]
  congr 2
  funext p; simp only [Function.comp, peerShift_site, Option.map_map]; congr 1

/-! ### The stances -/

theorem reservedOthers_shift (k : Int) (s : State) (id : Nat) :
    reservedOthers (s.shift k) id = (reservedOthers s id).map (BreakRecord.shift k) := by
  simp only [reservedOthers, stateShift_cues, cueShift_table, List.filter_map]; rfl

theorem covers_shift (k : Int) (r : BreakRecord) (t : Time) : (r.shift k).covers (shiftTime k t) = r.covers t := by
  simp [BreakRecord.covers]

theorem channelFree_shift (k : Int) (s : State) (r : BreakRecord) :
    channelFree (s.shift k) (r.shift k) = channelFree s r := by
  simp only [channelFree, reservedOthers_shift, recordShift_id]
  have : (r.shift k).cOut :: ((reservedOthers s r.id).map (BreakRecord.shift k)).map BreakRecord.cOut
      = (r.cOut :: (reservedOthers s r.id).map BreakRecord.cOut).map (shiftTime k) := by
    simp [List.map_map, Function.comp_def]
  rw [this, List.filter_map, List.all_map, List.all_map]
  congr 1
  have h2 : ((r.shift k).covers ∘ shiftTime k) = r.covers := funext fun t => covers_shift k r t
  rw [h2]
  congr 1
  funext t
  simp only [Function.comp, List.countP_map]
  congr 3
  funext o; exact covers_shift k o t

/-- The stance of a record does not change when every instant moves (R137 to R140). -/
theorem stanceOf_shift (k : Int) (s : State) (r : BreakRecord) : stanceOf (s.shift k) (r.shift k) = stanceOf s r := by
  have h1 : siteReason (s.shift k) = siteReason s := rfl
  have hc : ∀ x, classOf (s.shift k).store x = classOf s.store x := fun x => rfl
  have h2 : ∀ l, firstNotReady (s.shift k).store l = firstNotReady s.store l := by
    intro l; induction l with
    | nil => rfl
    | cons a l ih => simp only [firstNotReady, hc, ih]
  have h3 : ∀ l, allSatisfied (s.shift k).store l = allSatisfied s.store l := fun l => rfl
  have h4 : (r.shift k).spotsNamed = r.spotsNamed := rfl
  simp only [stanceOf, h1, h2, h3, h4, channelFree_shift]

end Sys2Proof.Laws
end

