-- ==== Sys2Proof/Laws/Ops.lean ====
section
/-! SUPPORT. The laws of the named operations over slot memories, byte strings, lists of records, the monitor port and
the alarm latches. -/

namespace Sys2Proof.Laws

open Sys2Proof Sys2Proof.Machine

/-! ### Slot memories -/

/-- A read of the slot just written gives the value written. -/
theorem memRead_memWrite_same {α : Type} (m : List (Nat × α)) (a : Nat) (v : α) : memRead (memWrite m a v) a = some v := by
  induction m with
  | nil => simp [memWrite, memRead]
  | cons x rest ih =>
    obtain ⟨k, w⟩ := x
    unfold memWrite
    by_cases h : a < k
    · simp [h, memRead]
    · by_cases h' : a = k
      · simp [h', memRead]
      · have : k ≠ a := fun e => h' e.symm
        simp [h, h', memRead, this, ih]

/-- A write leaves every other slot as it was. -/
theorem memRead_memWrite_other {α : Type} (m : List (Nat × α)) (a b : Nat) (v : α) (h : b ≠ a) :
    memRead (memWrite m a v) b = memRead m b := by
  induction m with
  | nil => simp [memWrite, memRead, Ne.symm h]
  | cons x rest ih =>
    obtain ⟨k, w⟩ := x
    unfold memWrite
    by_cases h₁ : a < k
    · simp [h₁, memRead, Ne.symm h]
    · by_cases h₂ : a = k
      · subst h₂; simp [memRead, Ne.symm h]
      · simp [h₁, h₂, memRead, ih]

/-- Every position of a list lies above `k`. -/
def above {α : Type} (k : Nat) (m : List (Nat × α)) : Prop := ∀ x ∈ m, k < x.1

/-- The canonical form of a list with a first entry: the rest lies above it and is canonical. -/
theorem memWf_cons {α : Type} (x : Nat × α) (m : List (Nat × α)) :
    memWf (x :: m) = true ↔ above x.1 m ∧ memWf m = true := by
  induction m generalizing x with
  | nil => simp [memWf, above]
  | cons y rest ih =>
    simp only [memWf, Bool.and_eq_true, decide_eq_true_eq]
    constructor
    · rintro ⟨hlt, hw⟩
      refine ⟨?_, hw⟩
      intro z hz
      rcases List.mem_cons.1 hz with rfl | hz
      · exact hlt
      · exact Nat.lt_trans hlt (((ih y).1 hw).1 z hz)
    · rintro ⟨ha, hw⟩
      exact ⟨ha y (by simp), hw⟩

/-- A write into entries that lie above `k`, at a position above `k`, leaves entries that lie above `k`. -/
theorem above_memWrite {α : Type} (k a : Nat) (v : α) (m : List (Nat × α)) (h : above k m) (ha : k < a) :
    above k (memWrite m a v) := by
  induction m with
  | nil => simpa [memWrite, above] using ha
  | cons x rest ih =>
    obtain ⟨b, w⟩ := x
    have hr : above k rest := fun z hz => h z (by simp [hz])
    have hb : k < b := h (b, w) (by simp)
    unfold memWrite
    split
    · intro z hz
      rcases List.mem_cons.1 hz with rfl | hz
      · exact ha
      · exact h z hz
    · split
      · intro z hz
        rcases List.mem_cons.1 hz with rfl | hz
        · exact ha
        · exact hr z hz
      · intro z hz
        rcases List.mem_cons.1 hz with rfl | hz
        · exact hb
        · exact ih hr z hz

/-- A write keeps the canonical form. -/
theorem memWf_memWrite {α : Type} (m : List (Nat × α)) (a : Nat) (v : α) (h : memWf m = true) :
    memWf (memWrite m a v) = true := by
  induction m with
  | nil => rfl
  | cons x rest ih =>
    obtain ⟨k, w⟩ := x
    have hk := (memWf_cons _ _).1 h
    unfold memWrite
    split
    · next hlt =>
      refine (memWf_cons _ _).2 ⟨fun z hz => ?_, h⟩
      rcases List.mem_cons.1 hz with rfl | hz
      · exact hlt
      · exact Nat.lt_trans hlt (hk.1 z hz)
    · split
      · next he => exact (memWf_cons _ _).2 ⟨he ▸ hk.1, hk.2⟩
      · next hn hne =>
        exact (memWf_cons _ _).2 ⟨above_memWrite k a v rest hk.1 (by omega), ih hk.2⟩

/-- The spot store's one writing operation keeps the canonical form of the memories. -/
theorem memoryLaw_writeSlot (a : Nat) (b : List Byte) (s : State) (h : MemoryLaw s) : MemoryLaw (writeSlot a b s) :=
  ⟨h.1, memWf_memWrite _ _ _ h.2⟩

/-- The flags of the queue change nothing in its slots. -/
theorem checkHigh_slots (s : State) : (checkHigh s).em.queue.slots = s.em.queue.slots := by
  unfold checkHigh; dsimp only; split <;> rfl
theorem checkLow_slots (s : State) : (checkLow s).em.queue.slots = s.em.queue.slots := by
  unfold checkLow; dsimp only; split <;> rfl
theorem checkHigh_store (s : State) : (checkHigh s).store = s.store := by
  unfold checkHigh; dsimp only; split <;> rfl
theorem checkLow_store (s : State) : (checkLow s).store = s.store := by
  unfold checkLow; dsimp only; split <;> rfl

/-- The emission queue's one writing operation keeps the canonical form of the memories. -/
theorem memoryLaw_storeCell (c : Cell) (s : State) (h : MemoryLaw s) : MemoryLaw (storeCell c s) := by
  unfold storeCell MemoryLaw
  dsimp only
  rw [checkHigh_slots, checkHigh_store]
  exact ⟨memWf_memWrite _ _ _ h.1, h.2⟩

/-- The memories are in canonical form right after power-on reset. -/
theorem memoryLaw_reset : MemoryLaw State.reset := ⟨rfl, rfl⟩

/-! ### Byte strings -/

/-- A number in `n` bytes takes `n` bytes. -/
@[simp] theorem numBytes_length (n v : Nat) : (numBytes n v).length = n := by
  induction n with
  | zero => rfl
  | succ n ih => simp [numBytes, ih]

@[simp] theorem intBytes_length (n : Nat) (v : Int) : (intBytes n v).length = n := by simp [intBytes]
@[simp] theorem noneBytes_length (n : Nat) : (noneBytes n).length = n := by simp [noneBytes]
@[simp] theorem timeBytes_length (t : Time) : (timeBytes t).length = 8 := by simp [timeBytes]
@[simp] theorem codeByte_length (n : Nat) : (codeByte n).length = 1 := rfl
@[simp] theorem boolByte_length (b : Bool) : (boolByte b).length = 1 := rfl
@[simp] theorem crc16Bytes_length (l : List Byte) : (crc16Bytes l).length = 2 := by simp [crc16Bytes]

/-- A monitor record is six bytes longer than its body. -/
@[simp] theorem monitorRecord_length (type : Nat) (body : List Byte) :
    (monitorRecord type body).length = body.length + 6 := by
  simp only [monitorRecord, List.length_append, List.length_cons, List.length_nil, numBytes_length, crc16Bytes_length]
  omega

/-! ### Lists of records -/

/-- An item of an updated list is an updated item of the list. -/
theorem mem_updateWhere {α : Type} {p : α → Bool} {f : α → α} {l : List α} {y : α} :
    y ∈ updateWhere p f l ↔ ∃ x ∈ l, y = if p x then f x else x := by
  simp only [updateWhere, List.mem_map]
  exact ⟨fun ⟨x, hx, he⟩ => ⟨x, hx, he.symm⟩, fun ⟨x, hx, he⟩ => ⟨x, hx, he.symm⟩⟩

@[simp] theorem updateWhere_length {α : Type} (p : α → Bool) (f : α → α) (l : List α) :
    (updateWhere p f l).length = l.length := by simp [updateWhere]

/-- An update that keeps a figure of each item keeps the list of the figures. -/
theorem map_updateWhere {α β : Type} (g : α → β) (p : α → Bool) (f : α → α) (h : ∀ x, g (f x) = g x) (l : List α) :
    (updateWhere p f l).map g = l.map g := by
  simp only [updateWhere, List.map_map]
  exact List.map_congr_left fun x _ => by simp only [Function.comp]; split <;> simp [h]

/-! ### The monitor port -/

/-- The idle port takes records out of the queue; it puts none in. -/
theorem startRecord_queue_length (osc : Nat) (m : Monitor) : (startRecord osc m).queue.length ≤ m.queue.length := by
  unfold startRecord; split
  · exact Nat.le_refl _
  · exact Nat.le_refl _
  · next h => simp [h]
  · exact Nat.le_refl _

/-- The event queue never grows past 32 records (R192). -/
theorem queueEvent_queue_length (e : Event) (t : Time) (m : Monitor) (h : m.queue.length ≤ Config.eventQueueMax) :
    (queueEvent e t m).queue.length ≤ Config.eventQueueMax := by
  unfold queueEvent; dsimp only; split
  · next hlt => simp only [List.length_append, List.length_cons, List.length_nil]; omega
  · exact h

/-- Raising an event keeps the event queue within its 32 records (R192). -/
theorem raise_queue_length (e : Event) (s : State) (h : s.mon.queue.length ≤ Config.eventQueueMax) :
    (raise e s).mon.queue.length ≤ Config.eventQueueMax :=
  Nat.le_trans (startRecord_queue_length _ _) (queueEvent_queue_length e s.tb.now s.mon h)

/-- The bits of a record at the monitor port, ten for each byte (R191). -/
@[simp] theorem monitorSignal_length (bytes : List Byte) : (monitorSignal bytes).length = 10 * bytes.length := by
  induction bytes with
  | nil => rfl
  | cons b rest ih =>
    have h : (monitorBits b).length = 10 := rfl
    simp only [monitorSignal, List.flatMap_cons, List.length_append, List.length_cons, h] at *
    omega

/-! ### The alarm latches -/

/-- A latch put to a value has it, and no other latch changes. -/
theorem putLatch_latch (l m : Latch) (v : Bool) (s : State) :
    (putLatch l v s).sc.latch m = if m = l then v else s.sc.latch m := by
  unfold putLatch; split
  · next h => split
              · next e => exact e ▸ h
              · rfl
  · cases l <;> cases m <;> rfl

/-- A cause that reaches a latch sets it and leaves the others (R188). -/
theorem setLatch_latch (l m : Latch) (s : State) :
    (setLatch l s).sc.latch m = (decide (m = l) || s.sc.latch m) := by
  unfold setLatch; rw [putLatch_latch]; split <;> simp_all

/-! ### The waiting slot -/

/-- An announcement that joins the slot stands in it, merged with the one that waited (R109). -/
theorem joinSlot_slot (k : AnnouncementKind) (s : State) :
    (joinSlot k s).zone.slot = some (match s.zone.slot with | none => k | some w => mergeKind k w) := by
  unfold joinSlot; split <;> simp [*]

end Sys2Proof.Laws
end

