-- ==== Sys2Proof/Laws/PerInstr.lean ====
section
/-! SUPPORT. One lemma per command: it is well formed exactly when the bytes it carries are as many as the manual asks
for. The family is `Lengths` (LAWS.json). -/

namespace Sys2Proof.Laws

open Sys2Proof

/-- The bytes that come in with a command. -/
def carried : Instr → List Byte
  | .powerOnReset => []
  | .restart => []
  | .loadStart => []
  | .configReadComplete record => record
  | .noRecord _ => []
  | .inhibitChange _ => []
  | .overrideChange _ => []
  | .latchClear => []
  | .labelRecord _ record => record
  | .markArrival _ => []
  | .missingVerdict _ => []
  | .secondBoundary => []
  | .reportSpanExpiry => []
  | .runtCell => []
  | .cellTaken cell => cell
  | .feedLoss => []
  | .assemblingLate => []
  | .frameRelease => []
  | .cellInstant => []
  | .fillerInstant => []
  | .starveExpiry => []
  | .checkComplete => []
  | .decisionInstant => []
  | .lockInstant _ => []
  | .endInstant _ => []
  | .removalInstant _ => []
  | .watchOpen _ => []
  | .watchClose _ => []
  | .attemptStart => []
  | .deferral _ => []
  | .echoWindowClose => []
  | .attemptEnd => []
  | .retryStart => []
  | .lineIdle => []
  | .periodicDue => []
  | .zoneMessage bytes => bytes
  | .messageBroken => []
  | .silenceTimerExpiry _ => []
  | .monitorRecordEnd => []
  | .lineBusy _ => []
  | .openingMark _ => []
  | .echoWindowOpen => []
  | .transferEnd => []
  | .latchClearRelease => []

/-- How many bytes a zone message has: 5 when its entry count is above 8, and 7 + 8 × n otherwise (R106). -/
def messageLength (bytes : List Byte) : Nat :=
  if 8 < (bytes.getD 4 0).toNat then 5 else 7 + 8 * (bytes.getD 4 0).toNat

/-- How many bytes the manual gives a command (R3, R23, R106, R180). -/
def askedLength : Instr → Nat
  | .powerOnReset => 0
  | .restart => 0
  | .loadStart => 0
  | .configReadComplete _ => 78
  | .noRecord _ => 0
  | .inhibitChange _ => 0
  | .overrideChange _ => 0
  | .latchClear => 0
  | .labelRecord _ _ => 6
  | .markArrival _ => 0
  | .missingVerdict _ => 0
  | .secondBoundary => 0
  | .reportSpanExpiry => 0
  | .runtCell => 0
  | .cellTaken _ => 240
  | .feedLoss => 0
  | .assemblingLate => 0
  | .frameRelease => 0
  | .cellInstant => 0
  | .fillerInstant => 0
  | .starveExpiry => 0
  | .checkComplete => 0
  | .decisionInstant => 0
  | .lockInstant _ => 0
  | .endInstant _ => 0
  | .removalInstant _ => 0
  | .watchOpen _ => 0
  | .watchClose _ => 0
  | .attemptStart => 0
  | .deferral _ => 0
  | .echoWindowClose => 0
  | .attemptEnd => 0
  | .retryStart => 0
  | .lineIdle => 0
  | .periodicDue => 0
  | .zoneMessage bytes => messageLength bytes
  | .messageBroken => 0
  | .silenceTimerExpiry _ => 0
  | .monitorRecordEnd => 0
  | .lineBusy _ => 0
  | .openingMark _ => 0
  | .echoWindowOpen => 0
  | .transferEnd => 0
  | .latchClearRelease => 0

/-- A command is well formed exactly when it carries as many bytes as the manual asks for. -/
def Lengths.Statement (i : Instr) : Prop := i.wellFormed = true ↔ (carried i).length = askedLength i

theorem Lengths.powerOnReset : Lengths.Statement .powerOnReset := ⟨fun _ => rfl, fun _ => rfl⟩

theorem Lengths.restart : Lengths.Statement .restart := ⟨fun _ => rfl, fun _ => rfl⟩

theorem Lengths.loadStart : Lengths.Statement .loadStart := ⟨fun _ => rfl, fun _ => rfl⟩

theorem Lengths.configReadComplete (record : List Byte) : Lengths.Statement (.configReadComplete record) := by
  simp [Lengths.Statement, Instr.wellFormed, carried, askedLength]

theorem Lengths.noRecord (firstByte : Bool) : Lengths.Statement (.noRecord firstByte) := ⟨fun _ => rfl, fun _ => rfl⟩

theorem Lengths.inhibitChange (active : Bool) : Lengths.Statement (.inhibitChange active) := ⟨fun _ => rfl, fun _ => rfl⟩

theorem Lengths.overrideChange (active : Bool) : Lengths.Statement (.overrideChange active) := ⟨fun _ => rfl, fun _ => rfl⟩

theorem Lengths.latchClear : Lengths.Statement .latchClear := ⟨fun _ => rfl, fun _ => rfl⟩

theorem Lengths.labelRecord (r : Ref) (record : List Byte) : Lengths.Statement (.labelRecord r record) := by
  simp [Lengths.Statement, Instr.wellFormed, carried, askedLength]

theorem Lengths.markArrival (r : Ref) : Lengths.Statement (.markArrival r) := ⟨fun _ => rfl, fun _ => rfl⟩

theorem Lengths.missingVerdict (r : Ref) : Lengths.Statement (.missingVerdict r) := ⟨fun _ => rfl, fun _ => rfl⟩

theorem Lengths.secondBoundary : Lengths.Statement .secondBoundary := ⟨fun _ => rfl, fun _ => rfl⟩

theorem Lengths.reportSpanExpiry : Lengths.Statement .reportSpanExpiry := ⟨fun _ => rfl, fun _ => rfl⟩

theorem Lengths.runtCell : Lengths.Statement .runtCell := ⟨fun _ => rfl, fun _ => rfl⟩

theorem Lengths.cellTaken (cell : Cell) : Lengths.Statement (.cellTaken cell) := by
  simp [Lengths.Statement, Instr.wellFormed, carried, askedLength]

theorem Lengths.feedLoss : Lengths.Statement .feedLoss := ⟨fun _ => rfl, fun _ => rfl⟩

theorem Lengths.assemblingLate : Lengths.Statement .assemblingLate := ⟨fun _ => rfl, fun _ => rfl⟩

theorem Lengths.frameRelease : Lengths.Statement .frameRelease := ⟨fun _ => rfl, fun _ => rfl⟩

theorem Lengths.cellInstant : Lengths.Statement .cellInstant := ⟨fun _ => rfl, fun _ => rfl⟩

theorem Lengths.fillerInstant : Lengths.Statement .fillerInstant := ⟨fun _ => rfl, fun _ => rfl⟩

theorem Lengths.starveExpiry : Lengths.Statement .starveExpiry := ⟨fun _ => rfl, fun _ => rfl⟩

theorem Lengths.checkComplete : Lengths.Statement .checkComplete := ⟨fun _ => rfl, fun _ => rfl⟩

theorem Lengths.decisionInstant : Lengths.Statement .decisionInstant := ⟨fun _ => rfl, fun _ => rfl⟩

theorem Lengths.lockInstant (id : Nat) : Lengths.Statement (.lockInstant id) := ⟨fun _ => rfl, fun _ => rfl⟩

theorem Lengths.endInstant (id : Nat) : Lengths.Statement (.endInstant id) := ⟨fun _ => rfl, fun _ => rfl⟩

theorem Lengths.removalInstant (id : Nat) : Lengths.Statement (.removalInstant id) := ⟨fun _ => rfl, fun _ => rfl⟩

theorem Lengths.watchOpen (id : Nat) : Lengths.Statement (.watchOpen id) := ⟨fun _ => rfl, fun _ => rfl⟩

theorem Lengths.watchClose (id : Nat) : Lengths.Statement (.watchClose id) := ⟨fun _ => rfl, fun _ => rfl⟩

theorem Lengths.attemptStart : Lengths.Statement .attemptStart := ⟨fun _ => rfl, fun _ => rfl⟩

theorem Lengths.deferral (level : Bool) : Lengths.Statement (.deferral level) := ⟨fun _ => rfl, fun _ => rfl⟩

theorem Lengths.echoWindowClose : Lengths.Statement .echoWindowClose := ⟨fun _ => rfl, fun _ => rfl⟩

theorem Lengths.attemptEnd : Lengths.Statement .attemptEnd := ⟨fun _ => rfl, fun _ => rfl⟩

theorem Lengths.retryStart : Lengths.Statement .retryStart := ⟨fun _ => rfl, fun _ => rfl⟩

theorem Lengths.lineIdle : Lengths.Statement .lineIdle := ⟨fun _ => rfl, fun _ => rfl⟩

theorem Lengths.periodicDue : Lengths.Statement .periodicDue := ⟨fun _ => rfl, fun _ => rfl⟩

theorem Lengths.zoneMessage (bytes : List Byte) : Lengths.Statement (.zoneMessage bytes) := by
  simp only [Lengths.Statement, Instr.wellFormed, messageLengthOk, carried, askedLength, messageLength]
  split <;> simp

theorem Lengths.messageBroken : Lengths.Statement .messageBroken := ⟨fun _ => rfl, fun _ => rfl⟩

theorem Lengths.silenceTimerExpiry (site : Nat) : Lengths.Statement (.silenceTimerExpiry site) := ⟨fun _ => rfl, fun _ => rfl⟩

theorem Lengths.monitorRecordEnd : Lengths.Statement .monitorRecordEnd := ⟨fun _ => rfl, fun _ => rfl⟩

theorem Lengths.lineBusy (level : Bool) : Lengths.Statement (.lineBusy level) := ⟨fun _ => rfl, fun _ => rfl⟩

theorem Lengths.openingMark (high : Nat) : Lengths.Statement (.openingMark high) := ⟨fun _ => rfl, fun _ => rfl⟩

theorem Lengths.echoWindowOpen : Lengths.Statement .echoWindowOpen := ⟨fun _ => rfl, fun _ => rfl⟩

theorem Lengths.transferEnd : Lengths.Statement .transferEnd := ⟨fun _ => rfl, fun _ => rfl⟩

theorem Lengths.latchClearRelease : Lengths.Statement .latchClearRelease := ⟨fun _ => rfl, fun _ => rfl⟩

end Sys2Proof.Laws
end

