-- ==== Sys2Proof/Tests/Slice0.lean ====
section
/-! SUPPORT. Small tests, each with the source of its expected value, and for every obligation with hypotheses a state
that meets them all (theorem witness_…). -/

namespace Sys2Proof.Tests

open Sys2Proof Sys2Proof.Machine

-- One theorem after another: many small decisions side by side ask for more threads than the memory limit leaves room for.
set_option Elab.async false

/-! ### States the witnesses are built from -/

/-- A record in use with the defaults of R182: site 1 of the roster 1, 2, 3, routed tags 1 and 2. -/
def site : SiteConfig where
  site := 1
  fittedA := true
  fittedB := true
  zoneCode := 0x1234#16
  roster := [1, 2, 3]
  quorum := 2
  liveness := 4
  offset := 0
  latency := 0
  lmin := 100000
  lmax := 20000000
  interval := 800
  emissionLimit := 200
  growth := 2
  period := 25
  starveMs := 2000
  feedLossMs := 100
  almostFull := 57344
  almostEmpty := 4096
  gap := 16
  loopDelay := 0
  decisionMs := 3000
  lockMs := 1000
  marginMs := 4000
  controlTag := 10
  assetTag := 11
  routing := [1, 2]
  gateAir := true
  gateTime := true
  gateSplit := true
  gateFault := true
  check := 0#32

/-- A VALID reference. -/
def goodRef : RefRecord := { RefRecord.reset with valid := true, goodRun := 4, windowClosed := 99 }

/-- The site at 100 s of site time: VALID, in TRACK at grade A, in STANDBY, its feed running, its line idle. -/
def live : State := { State.reset with
  osc := 100000
  tb := { TimeBase.reset with
    now := 1000000000, disc := .track, tracked := true, selected := some .a, refA := goodRef, refB := goodRef
    history := [0], u := 1, grade := .a, announced := some 100 }
  intake := { Intake.reset with feed := .running, lossTimer := some 1001000000 }
  em := Emission.resetWith ⟨false, false, false, false⟩
  zone := { ZoneLine.resetAt false with receiver := .hunt, idleSince := some 0 }
  ros := { PeerRoster.resetAt false with roster := [1, 2, 3], quorum := some 2 }
  sc := { SiteControl.reset with config := .valid, inUse := some site, restartTaken := true } }

/-- The state at another site time. -/
def clock (t : Time) (s : State) : State := { s with tb := { s.tb with now := t } }

/-- The state with another emission state. -/
def emitting (e : EmissionState) (s : State) : State := { s with em := { s.em with state := e } }

/-- A frame record of 10 cells beside its head, with the Q and the state given. -/
def frame (n : Nat) (q : Time) (state : FrameState) : FrameRecord where
  number := n
  c := q
  e := q
  q := q
  lead := 100000
  declared := 10
  taken := 10
  counts := [(1, 4), (2, 6)]
  status := .known
  state := state
  firstSlot := some 0
  slotsHeld := 11
  sent := 0
  consumed := 0
  cut := 0

/-- The state with the frame records given in the table. -/
def withFrames (l : List FrameRecord) (s : State) : State := { s with em := { s.em with table := l } }

/-- The spot that the breaks of the tests name. -/
def spot : Spot := ⟨5, 9#32⟩

/-- Its directory entry: one segment of two cells, on page 0. -/
def spotEntry (state : EntryState) (prot freeze : Nat) : Entry where
  spot := spot
  segCount := 1
  lastCells := some 2
  expiry := 1000
  state := state
  segs := [some 0]
  prot := prot
  freeze := freeze
  pending := []
  expirePending := false

/-- The state with that entry in the directory, both its slots written. -/
def withSpot (e : Entry) (s : State) : State := { s with store := { s.store with
  directory := [e]
  freePages := (List.range 8191).map Nat.succ
  memory := [(0, ⟨[1], Config.slotCheck [1]⟩), (1, ⟨[2], Config.slotCheck [2]⟩)] } }

/-- Break 7 on tag 1, from 110 s to 120 s, in the state and with the stance given. -/
def brk (state : BreakState) (stance : Stance) : BreakRecord where
  id := 7
  version := 1
  check := 3#32
  tag := 1
  cOut := 1100000000
  cIn := 1200000000
  spots := [spot]
  pad := none
  state := state
  stance := stance
  decisionAt := 1070000000
  lockAt := 1090000000
  endAt := none
  removalAt := none
  channel := none
  abandonCause := none
  splitReported := []
  lateReported := []
  watch := none

/-- The state with one break record. -/
def withBreak (r : BreakRecord) (s : State) : State := { s with cues := { s.cues with table := [r] } }

/-- Channel 0 bound to break 7. -/
def bound (state : ChannelState) : Channel := { Channel.reset with
  state := state
  bound := some ⟨7, 1100000000, 1200000000⟩
  tag := some 1
  items := [⟨spot, 1, 2⟩]
  listedLength := 2
  cursor := Cursor.start [⟨spot, 1, 2⟩] }

/-- The state with channel 0 as given. -/
def withChannel (c : Channel) (s : State) : State :=
  { s with chans := { s.chans with chan := [c, Channel.reset, Channel.reset, Channel.reset] } }

/-- A cell with the header fields and the first body bytes given, zeros after them. -/
def cellWith (tag kind count : Nat) (body : List Byte) : Cell :=
  makeCell tag kind count (body ++ List.replicate (232 - body.length) 0)

/-- A peer that is PRESENT with the announcement given. -/
def peer (n : Nat) (a : Option Announcement) : Peer := ⟨n, .present, a, some 0, some 1200000000, 0, 0, 0⟩

/-- An announcement of a peer with one entry on break 7. -/
def said (n : Nat) (stance : Stance) : Announcement :=
  ⟨.periodic, false, false, .onAir, .a, 0x1234#16, n, [⟨7, 1, stance, 3#32⟩]⟩

/-- The command completes. -/
def completes (c : Instr) (s : State) : Bool :=
  match exec c s with
  | .next _ => true
  | _ => false

/-! ### Witnesses: the queue, the clock and the resets -/

theorem witness_due : ∃ s c, s.pending = [] ∧ chooseDue s = some c := by
  refine ⟨{ State.reset with osc := 10020000 }, .reportSpanExpiry, rfl, ?_⟩
  have h : dueNow { State.reset with osc := 10020000 } = [.reportSpanExpiry] := by decide
  simp [chooseDue, h, Nat.mod_one]

theorem witness_idle : live.pending = []
    ∧ dueNow { live with mon := { live.mon with lastReport := 0 } } = [] := by decide

theorem witness_other_commands : (∃ t, exec .runtCell live = .next t)
    ∧ Instr.runtCell ≠ .powerOnReset := ⟨⟨_, rfl⟩, by decide⟩

/-- A state whose trim is at the limit given, its carry one part below the whole. -/
def trimmed (trim : Int) : State :=
  { State.reset with tb := { TimeBase.reset with trim := trim, carry := Config.carryPart - 1 } }

theorem witness_trim_fast : (trimmed 1000000).tb.slew = Slew.none ∧ (trimmed 1000000).tb.carry < Config.carryPart
    ∧ -Config.trimMax ≤ (trimmed 1000000).tb.trim ∧ (trimmed 1000000).tb.trim ≤ Config.trimMax
    ∧ 0 ≤ (trimmed 1000000).tb.now ∧ (trimmed 1000000).tb.now + 2 * (100000 : Nat) < Config.timeWrap := by decide

theorem witness_trim_slow : (trimmed (-1000000)).tb.slew = Slew.none ∧ (trimmed (-1000000)).tb.carry < Config.carryPart
    ∧ -Config.trimMax ≤ (trimmed (-1000000)).tb.trim ∧ (trimmed (-1000000)).tb.trim ≤ Config.trimMax
    ∧ 0 ≤ (trimmed (-1000000)).tb.now ∧ (trimmed (-1000000)).tb.now + 2 * (100000 : Nat) < Config.timeWrap := by decide

/-- A slew of the most that a mark begins, just begun, at the largest trim against it. -/
def slewed : State := let s := trimmed 1000000; { s with tb := { s.tb with slew := ⟨-2500, 0, 0⟩ } }

theorem witness_slew : slewed.tb.slew = ⟨-2500, 0, 0⟩ ∧ 1 ≤ (-2500 : Int).natAbs ∧ (-2500 : Int).natAbs ≤ 2500
    ∧ 0 ≤ slewed.tb.now ∧ slewed.tb.now + 2 * (10000001 : Nat) + 2500 < Config.timeWrap := by decide

/-- 10 ms after power-on, to the TU. -/
def settled : State := { State.reset with osc := 100000 }

theorem witness_restart_first : settled.sc.restartLine = false ∧ settled.sc.restartSince + 100000 ≤ settled.osc
    ∧ settled.sc.restartTaken = false := by decide

theorem witness_restart : live.sc.restartLine = false ∧ live.sc.restartSince + 100000 ≤ live.osc
    ∧ live.sc.restartTaken = true := by decide

/-- VERIFIED, COMPLETE and CHECKING spots: 5 checked, 6 in the check queue, 7 in check. -/
def threeSpots : State := { live with store := { live.store with
  directory := [spotEntry .verified 1 0, { spotEntry .complete 0 0 with spot := ⟨6, 1#32⟩, segs := [some 1] },
    { spotEntry .checking 1 1 with spot := ⟨7, 1#32⟩, segs := [some 2] }]
  checkQueue := [6]
  check := some ⟨7, 1000010000⟩ } }

theorem witness_restart_spots : threeSpots.store.ids.Nodup
    ∧ (∀ e ∈ threeSpots.store.directory, e.state ≠ .filling ∧ e.pending = [] ∧ e.expirePending = false)
    ∧ threeSpots.store.check = some ⟨7, 1000010000⟩
    ∧ (threeSpots.store.entry? 7).map Entry.state = some .checking ∧ threeSpots.store.inCheck 7 = true
    ∧ (∀ id ∈ threeSpots.store.checkQueue ++ (threeSpots.store.check.map CheckInFlight.spotId).toList,
      (threeSpots.store.entry? id).isSome = true) := by decide

/-- The last TU in which no level is taken. -/
theorem witness_unsettled : (let s := { State.reset with osc := 99999 }
    s.osc < s.sc.inhibitSince + 100000 ∧ s.osc < s.sc.overrideSince + 100000 ∧ s.osc < s.sc.latchClearSince + 100000
      ∧ s.osc < s.sc.restartSince + 100000) := by decide

/-! ### Witnesses: the time base -/

/-- A label record of second 100 with its CRC-16, and one with another CRC-16. -/
def labelBytes : List Byte := numBytes 4 100 ++ crc16Bytes (numBytes 4 100)

theorem witness_label : labelBytes.length = 6 ∧ crc16 (labelBytes.take 4) = BitVec.ofNat 16 (numAt labelBytes 4 2)
    ∧ live.fitted .a = true := by decide +kernel

theorem witness_bad_label : ([0, 0, 0, 100, 0, 0] : List Byte).length = 6
    ∧ crc16 (([0, 0, 0, 100, 0, 0] : List Byte).take 4) ≠ BitVec.ofNat 16 (numAt [0, 0, 0, 100, 0, 0] 4 2) := by
  decide +kernel

/-- UNSET with nothing selected, the last label 5 taken; `marked` has three good marks in a row, the last one second
before, so that 5 is expected now. -/
def unset : State := { State.reset with tb := { TimeBase.reset with
  now := 40010000, refA := { RefRecord.reset with lastLabel := some 5 } } }

def marked : State := { unset with tb := { unset.tb with
  refA := { unset.tb.refA with goodRun := 3, lastMark := some (30000000, 4), expected := some (40000000, 5) } } }

theorem witness_start_mark : unset.fitted .a = true ∧ localTest unset.tb = false ∧ (unset.tb.ref .a).lastMark = none
    ∧ (unset.tb.ref .a).lastLabel = some 5 := by decide

/-- A mark without a label, with no last mark; and a bad one 10,001 TU after the expected instant, with the wrong label, or
without one. -/
def offInstant : State := clock (40000000 + 10001) marked

def relabel (n : Option Nat) (s : State) : State :=
  { s with tb := { s.tb with refA := { s.tb.refA with lastLabel := n } } }

theorem witness_unlabelled : (relabel none unset).fitted .a = true ∧ localTest (relabel none unset).tb = false
    ∧ ((relabel none unset).tb.ref .a).lastMark = none := by decide

theorem witness_bad_mark : ∀ s ∈ [offInstant, relabel (some 6) marked, relabel none marked],
    s.fitted .a = true ∧ localTest s.tb = false ∧ (s.tb.ref .a).lastMark.isSome = true ∧ (s.tb.ref .a).valid = false
      ∧ (s.tb.ref .a).expected = some (40000000, 5)
      ∧ ¬((40000000 : Int) - 10000 ≤ s.tb.now ∧ s.tb.now ≤ (40000000 : Int) + 10000 ∧ (s.tb.ref .a).lastLabel = some 5) := by
  decide

/-- Marks of reference A in TRACK, with the bad run given: 10,001 TU from a boundary, on it with the label of another second,
and a second one in its window. -/
def badMark (run : Nat) (now : Time) (label : Option Nat) (window : Option Int) : State :=
  let s := clock now live
  { s with tb := { s.tb with refA := { s.tb.refA with badRun := run, lastLabel := label, windowMark := window } } }

theorem witness_bad_window_mark : (∀ run ∈ [0, 1], ∀ s ∈ [badMark run 1010010001 (some 101) none,
      badMark run 1010010000 (some 102) none, badMark run 1010010000 none none,
      badMark run 1009990000 (some 101) (some 101)],
    s.fitted .a = true ∧ localTest s.tb = true ∧ (s.tb.ref .a).valid = true ∧ (s.tb.ref .a).badRun = run
      ∧ s.tb.selected = some .a ∧ (s.tb.ref .b).valid = true)
    ∧ (∀ b : Int, ¬(b * 10000000 - 10000 ≤ 1010010001 ∧ (1010010001 : Int) ≤ b * 10000000 + 10000))
    ∧ (∀ now ∈ [(1010010000 : Int), 1009990000], 101 * 10000000 - 10000 ≤ now ∧ now ≤ 101 * 10000000 + 10000)
    ∧ ((102 : Nat) : Int) ≠ 101 % 4294967296 := by
  refine ⟨by decide, fun b => ?_, by decide, by decide⟩
  omega

theorem witness_set_time : marked.fitted .a = true ∧ marked.tb.disc = .unset ∧ marked.tb.selected = none
    ∧ (marked.tb.ref .a).valid = false ∧ (marked.tb.ref .a).goodRun = 3 ∧ (marked.tb.ref .b).valid = false
    ∧ (marked.tb.ref .a).lastMark.isSome = true
    ∧ (marked.tb.ref .a).expected = some (40000000, 5) ∧ (marked.tb.ref .a).lastLabel = some 5
    ∧ (40000000 : Int) - 10000 ≤ marked.tb.now ∧ marked.tb.now ≤ (40000000 : Int) + 10000
    ∧ takenLately marked.tb = false ∧ marked.tb.announced = none ∧ marked.tb.grade = .d ∧ (5 : Nat) < 4294967296 := by
  decide

/-- In TRACK, the mark of second 101 with a phase error of `e`. -/
def tracking (e : Int) : State :=
  let s := clock (1010000000 + e) live
  { s with tb := { s.tb with refA := { s.tb.refA with lastLabel := some 101 } } }

theorem tracking_mark {e : Int} (h : e = 100 ∨ e = -100 ∨ e = 101 ∨ e = -10000) : WindowMark .a 101 e (tracking e) := by
  rcases h with h | h | h | h <;> subst h <;> constructor <;> decide

theorem witness_track_mark : WindowMark .a 101 100 (tracking 100) ∧ WindowMark .a 101 (-100) (tracking (-100))
    ∧ (tracking 100).tb.disc = .track ∧ (tracking 100).tb.selected = some .a
    ∧ ((tracking 100).tb.ref .a).valid = true ∧ (tracking 100).tb.history.length ≤ 8 :=
  ⟨tracking_mark (by simp), tracking_mark (by simp), by decide⟩

/-- The same with an excess run. -/
def exceeding (run : Nat) : State :=
  let s := tracking 101
  { s with tb := { s.tb with excessRun := run } }

theorem witness_excess (run : Nat) (h : run = 1 ∨ run = 2) : WindowMark .a 101 101 (exceeding run)
    ∧ (exceeding run).tb.disc = .track ∧ (exceeding run).tb.selected = some .a
    ∧ ((exceeding run).tb.ref .a).valid = true ∧ (100 : Nat) < (101 : Int).natAbs
    ∧ (exceeding run).tb.history.length ≤ 8 ∧ (exceeding run).tb.excessRun = run := by
  rcases h with h | h <;> subst h <;> exact ⟨by constructor <;> decide, by decide⟩

/-- The mark in ACQUIRE, with a phase error of `e` and the acquire run given. -/
def acquiring (e : Int) (run : Nat) : State :=
  let s := tracking e
  { s with tb := { s.tb with disc := .acquire, history := [], u := 10000000, grade := .d, acquireRun := run } }

theorem witness_acquire_step : WindowMark .a 101 11 (acquiring 11 3) ∧ (acquiring 11 3).tb.disc = .acquire
    ∧ (acquiring 11 3).tb.selected = some .a ∧ ((acquiring 11 3).tb.ref .a).valid = true
    ∧ (10 : Nat) < (11 : Int).natAbs ∧ (acquiring 11 3).tb.announced = some 100 :=
  ⟨by constructor <;> decide, by decide⟩

theorem witness_acquire_run (run : Nat) (h : run = 6 ∨ run = 7) : WindowMark .a 101 (-10) (acquiring (-10) run)
    ∧ (acquiring (-10) run).tb.disc = .acquire ∧ (acquiring (-10) run).tb.selected = some .a
    ∧ ((acquiring (-10) run).tb.ref .a).valid = true ∧ (-10 : Int).natAbs ≤ 10
    ∧ (acquiring (-10) run).tb.acquireRun = run := by
  rcases h with h | h <;> subst h <;> exact ⟨by constructor <;> decide, by decide⟩

/-- The mark in HOLDOVER, the reference's fourth good one in a row. -/
def holding (e : Int) : State :=
  let s := tracking e
  { s with tb := { s.tb with
    disc := .holdover, selected := none, history := [], refB := RefRecord.reset
    refA := { s.tb.refA with valid := false, goodRun := 3 } } }

theorem witness_holdover_mark (e : Int) (h : e = 100 ∨ e = -10000) : WindowMark .a 101 e (holding e)
    ∧ (holding e).tb.disc = .holdover ∧ (holding e).tb.selected = none ∧ ((holding e).tb.ref .a).valid = false
    ∧ ((holding e).tb.ref .a).goodRun = 3 ∧ ((holding e).tb.ref .b).valid = false := by
  rcases h with h | h <;> subst h <;> exact ⟨by constructor <;> decide, by decide⟩

/-- In TRACK, the window of second 100 just closed with no mark, reference A the one VALID, its bad run at 1. -/
def missed : State :=
  let s := clock 1000010000 live
  { s with tb := { s.tb with refA := { goodRef with badRun := 1 }, refB := { RefRecord.reset with windowClosed :=
    99 } } }

theorem witness_missing : missingDue .b missed = true
    ∧ ((missed.tb.ref .b).valid = false ∨ (missed.tb.ref .b).badRun = 0) := by
  decide

/-- The second missing mark in a row of A, with B INVALID: in TRACK, and in ACQUIRE before and after a TRACK. -/
theorem witness_missing_second : missingDue .a missed = true ∧ Ref.b ≠ .a ∧ (missed.tb.ref .a).valid = true
    ∧ (missed.tb.ref .a).badRun = 1 ∧ missed.tb.selected = some .a ∧ missed.tb.disc = .track
    ∧ (missed.tb.ref .b).valid = false ∧ missed.tb.grade = gradeOf missed.tb.u .track := by decide

def missedAcquire (tracked : Bool) : State := { missed with tb := { missed.tb with
  disc := .acquire, tracked := tracked, history := [], u := 10000000, grade := .d } }

theorem witness_missing_acquire (tracked : Bool) : missingDue .a (missedAcquire tracked) = true
    ∧ ((missedAcquire tracked).tb.ref .a).valid = true ∧ ((missedAcquire tracked).tb.ref .a).badRun = 1
    ∧ (missedAcquire tracked).tb.selected = some .a ∧ (missedAcquire tracked).tb.disc = .acquire
    ∧ ((missedAcquire tracked).tb.ref .b).valid = false ∧ (missedAcquire tracked).tb.tracked = tracked := by
  cases tracked <;> decide

/-- The same with B VALID: the selection goes to B. -/
def missedPair : State := let s := missedAcquire true; { s with tb := { s.tb with refB := goodRef } }

theorem witness_missing_switch : missingDue .a missedPair = true ∧ (missedPair.tb.ref .a).valid = true
    ∧ (missedPair.tb.ref .a).badRun = 1 ∧ missedPair.tb.selected = some .a ∧ missedPair.tb.disc = .acquire
    ∧ (missedPair.tb.ref .b).valid = true := by decide

/-- In HOLDOVER with second 101 to be announced, an entry that expires then, and one that expires a second later. -/
def boundaryState : State :=
  let s := withSpot { spotEntry .verified 1 0 with expiry := 101 } (clock 1010000000 live)
  { s with
    tb := { s.tb with disc := .holdover }
    store := { s.store with directory := s.store.directory
      ++ [{ spotEntry .complete 0 0 with spot := ⟨6, 1#32⟩, segs := [some 1], expiry := 102 }] } }

theorem witness_boundary : boundaryDue boundaryState = true ∧ boundaryState.store.ids.Nodup
    ∧ boundaryState.tb.grade = gradeOf boundaryState.tb.u boundaryState.tb.disc
    ∧ boundaryState.sc.config = .valid ∧ boundaryState.sc.inUse = some site ∧ boundaryState.zone.schedule = none := by
  decide

theorem witness_stamp : (1023 : Nat) < 1024 ∧ (9999999 : Nat) ≤ 9999999 := by decide

/-! ### Witnesses: feed intake and emission -/

theorem witness_bad_sync : (List.replicate 240 0 : Cell).length = 240
    ∧ (List.replicate 240 0 : Cell).head? ≠ some 0xB8 := by decide +kernel

theorem witness_outside : fillerCell.length = 240 ∧ fillerCell.head? = some 0xB8 ∧ State.reset.sc.config ≠ .valid := by
  decide +kernel

/-- The head of frame 9: 10 cells, at the stamp (s, f). -/
def headCell (s f : Nat) : Cell :=
  cellWith 0 3 0 (numBytes 2 9 ++ numBytes 2 s ++ numBytes 4 f ++ numBytes 2 10)

/-- The head's Q lies Lmin after its arrival at 100 s. -/
theorem witness_head : (headCell 100 100000).length = 240 ∧ (headCell 100 100000).head? = some 0xB8
    ∧ live.sc.config = .valid ∧ live.sc.inUse = some site ∧ live.intake.feed = .running ∧ live.intake.assembly = none
    ∧ isFrameHead (headCell 100 100000) = true ∧ (frameHeadOf (cellBody (headCell 100 100000))).ok = true
    ∧ live.tb.disc ≠ .unset ∧ live.tb.disc ≠ .acquire ∧ live.em.table.length < 64
    ∧ (∀ r ∈ live.em.table, r.number ≠ (frameHeadOf (cellBody (headCell 100 100000))).number)
    ∧ live.em.queue.occupancy < 65536
    ∧ (let h := frameHeadOf (cellBody (headCell 100 100000))
      let q := resolveStamp live.tb.now h.stampS h.stampF + site.offset - site.latency
      site.lmin ≤ q - live.tb.now ∧ q - live.tb.now ≤ site.lmax ∧ live.intake.lastAccepted = none) := by
  decide +kernel

/-- CELL_TAKEN completes on every cell of 240 bytes. -/
theorem cellTaken_next (cell : Cell) (s : State) (h : cell.length = 240) : ∃ t, exec (.cellTaken cell) s = .next t := by
  simp [exec, execCellTaken, Instr.wellFormed, h]

theorem witness_continuity : (cellWith 5 1 15 []).length = 240 ∧ (cellWith 5 1 15 []).head? = some 0xB8
    ∧ live.sc.config = .valid ∧ live.sc.inUse = some site
    ∧ live.intake.continuity[cellTag (cellWith 5 1 15 [])]? = some ⟨none, 0⟩
    ∧ ∃ t, exec (.cellTaken (cellWith 5 1 15 [])) live = .next t := by
  refine ⟨by decide +kernel, by decide, by decide, by decide, by decide, cellTaken_next _ _ (by decide +kernel)⟩

/-- The feed is LOST; frame 9 has five cells to come, the state being `inFrame`. -/
def lostFeed : State := { live with intake := { live.intake with feed := .lost } }

theorem witness_lost_cell : fillerCell.length = 240 ∧ fillerCell.head? = some 0xB8 ∧ lostFeed.sc.config = .valid
    ∧ lostFeed.sc.inUse = some site ∧ lostFeed.intake.feed = .lost ∧ isFrameHead fillerCell = false := by decide +kernel

theorem runningCell {cell : Cell} {s : State} (h : cell.length = 240 ∧ cell.head? = some 0xB8)
    (hs : s.sc.config = .valid ∧ s.sc.inUse = some site ∧ s.intake.feed = .running) : RunningCell site cell s :=
  ⟨h.1, h.2, hs.1, hs.2.1, hs.2.2⟩

theorem witness_extra_cell : RunningCell site fillerCell live ∧ isFrameHead fillerCell = false
    ∧ live.intake.assembly = none :=
  ⟨runningCell (by decide +kernel) (by decide), by decide +kernel, by decide⟩

/-! Frame heads that are accepted no further. -/

theorem witness_resume : lostFeed.intake.feed = .lost ∧ isFrameHead (headCell 100 100000) = true
    ∧ (frameHeadOf (cellBody (headCell 100 100000))).ok = true := by decide +kernel

/-- The state in another discipline state. -/
def inDiscipline (d : Discipline) (s : State) : State := { s with tb := { s.tb with disc := d } }

/-- 64 records in the frame table. -/
def fullTable : State := withFrames ((List.range 64).map fun n => frame (n + 100) 2000000000 .scheduled) live

theorem witness_refused_head : RunningCell site (headCell 100 100000) live ∧ live.intake.assembly = none
    ∧ isFrameHead (headCell 100 100000) = true ∧ (frameHeadOf (cellBody (headCell 100 100000))).ok = true
    ∧ (inDiscipline .unset live).tb.disc = .unset ∧ 64 ≤ fullTable.em.table.length
    ∧ (∃ r ∈ (withFrames [frame 9 1000000000 .scheduled] live).em.table,
      r.number = (frameHeadOf (cellBody (headCell 100 100000))).number)
    ∧ (inDiscipline .acquire live).tb.disc = .acquire :=
  ⟨runningCell (by decide +kernel) (by decide), by decide, by decide +kernel, by decide +kernel, by decide, by decide,
    ⟨_, List.mem_singleton.2 rfl, by decide +kernel⟩, by decide⟩

/-- The lead of the head's release time over its arrival at 100 s. -/
def leadOf (cell : Cell) : Time :=
  let h := frameHeadOf (cellBody cell)
  resolveStamp live.tb.now h.stampS h.stampF + site.offset - site.latency - live.tb.now

/-- One TU below Lmin, one TU above Lmax, and at the last accepted release time. -/
theorem witness_timed_head : leadOf (headCell 100 99999) + 1 = site.lmin ∧ leadOf (headCell 102 1) = site.lmax + 1
    ∧ leadOf (headCell 102 0) = site.lmax ∧ (frameHeadOf (cellBody (headCell 102 1))).ok = true
    ∧ ({ live with intake := { live.intake with lastAccepted := some 1000100000 } }).tb.now + leadOf (headCell 100 100000)
      ≤ 1000100000 := by decide +kernel

/-- Frame 9 in assembly, `left` cells to come; its record takes cells up to its Q. -/
def assembling (left : Nat) (r : FrameRecord) : State :=
  let s := withFrames [r] live
  { s with
    intake := { s.intake with assembly := some ⟨some 9, left⟩, lastComplete := some 7 }
    em := { s.em with queue := { s.em.queue with occupancy := 4, nextFree := 4 } } }

def partial9 : FrameRecord := { frame 9 1000100000 .assembling with status := .pending, taken := 9, slotsHeld := 4 }

/-- A frame head that declares no cells. -/
def emptyHead : Cell := cellWith 0 3 0 (numBytes 2 9 ++ numBytes 2 100 ++ numBytes 4 0)

theorem witness_short : RunningCell site emptyHead (assembling 1 partial9) ∧ isFrameHead emptyHead = true
    ∧ (frameHeadOf (cellBody emptyHead)).ok = false ∧ (assembling 1 partial9).intake.assembly = some ⟨some 9, 1⟩
    ∧ (assembling 1 partial9).frame? 9 = some partial9 ∧ partial9.state = .assembling
    ∧ (assembling 1 partial9).em.current ≠ some 9
    ∧ ((assembling 1 partial9).em.table.map FrameRecord.number).Nodup
    ∧ (assembling 1 partial9).em.table.find? FrameRecord.unpassed = some partial9 :=
  ⟨runningCell (by decide +kernel) (by decide), by decide +kernel, by decide +kernel, by decide⟩

/-- The queue full but for the slots given, the high flag set, with frame 9 in assembly, `left` cells to come. -/
def crowded (left free : Nat) : State :=
  let s := assembling left partial9
  { s with em := { s.em with queue := { s.em.queue with occupancy := 65536 - free, high := true } } }

theorem witness_queue_full : (∀ left ∈ [1, 2], (let s := crowded left 0
      RunningCell site (cellWith 1 1 3 []) s ∧ s.intake.assembly = some ⟨some 9, left⟩ ∧ s.frame? 9 = some partial9
        ∧ 65536 ≤ s.em.queue.occupancy ∧ s.em.current ≠ some 9 ∧ (s.em.table.map FrameRecord.number).Nodup
        ∧ s.em.table.find? FrameRecord.unpassed = some partial9 ∧ s.em.heldBack = false))
    ∧ isFrameHead (cellWith 1 1 3 []) = false ∧ partial9.state = .assembling := by
  refine ⟨fun left h => ?_, by decide +kernel, rfl⟩
  have c : (cellWith 1 1 3 []).length = 240 ∧ (cellWith 1 1 3 []).head? = some 0xB8 := by decide +kernel
  exact ⟨runningCell c ⟨rfl, rfl, rfl⟩, rfl, rfl, show 65536 ≤ 65536 - 0 by decide, show (none : Option Nat) ≠ some 9 by decide,
    show [partial9.number].Nodup by decide, rfl, rfl⟩

/-- The head's check list passed with the queue full, no cell held back; and the thresholds of the high flag. -/
theorem witness_head_full : (let s := { live with em := { live.em with queue := { live.em.queue with occupancy := 65536 } } }
    s.tb.disc ≠ .unset ∧ s.em.table.length < 64 ∧ s.em.table = [] ∧ s.tb.disc ≠ .acquire
      ∧ s.intake.lastAccepted = none ∧ 65536 ≤ s.em.queue.occupancy ∧ s.em.heldBack = false)
    ∧ leadOf (headCell 100 100000) = site.lmin ∧ site.almostFull = 57344 ∧ site.almostEmpty = 4096 := by decide +kernel

theorem witness_high : (∀ n ∈ [57342, 57343], ∀ high ∈ [false, true],
    (let s := { live with em := { live.em with queue := { live.em.queue with occupancy := n, high := high } } }
    s.em.queue.occupancy < 65536 ∧ s.em.queue.high = high ∧ (n = 57343 ↔ site.almostFull ≤ n + 1))) := by decide

theorem witness_complete : RunningCell site (cellWith 1 1 3 []) (assembling 1 partial9)
    ∧ isFrameHead (cellWith 1 1 3 []) = false ∧ sortCell site (cellWith 1 1 3 []) = .programme
    ∧ (assembling 1 partial9).tb.now < partial9.q ∧ (assembling 1 partial9).em.queue.occupancy < 65536 :=
  ⟨runningCell (by decide +kernel) (by decide), by decide +kernel, by decide +kernel, by decide⟩

/-- The frame discarded as late, in turn after frame 8, or out of turn after frame 7. -/
def discarded9 : FrameRecord := { partial9 with state := .discarded .late, firstSlot := none, slotsHeld := 0 }

theorem witness_complete_discarded : RunningCell site (cellWith 1 1 3 []) (assembling 1 discarded9)
    ∧ (assembling 1 discarded9).em.table = [discarded9] ∧ discarded9.number = 9
    ∧ discarded9.state = .discarded .late :=
  ⟨runningCell (by decide +kernel) (by decide), by decide⟩

theorem witness_feed_loss : feedLossDue (clock 1001000000 live) = true := by decide

/-- Frame 9 still ASSEMBLING at its Q. -/
def late : FrameRecord := { frame 9 1000000000 .assembling with status := .pending, taken := 3, slotsHeld := 4 }

theorem witness_late : lateFrame (withFrames [late] live) = some late ∧ late.status = .pending
    ∧ ((withFrames [late] live).em.table.map FrameRecord.number).Nodup
    ∧ (withFrames [late] live).em.current ≠ some late.number := by decide

theorem witness_release :
    (withFrames [frame 9 1000000000 .scheduled, frame 10 1001000000 .scheduled] live).em.table
      = frame 9 1000000000 .scheduled :: [frame 10 1001000000 .scheduled]
    ∧ (frame 9 1000000000 .scheduled).state = .scheduled ∧ (frame 9 1000000000 .scheduled).q ≤ live.tb.now
    ∧ (∀ x ∈ [frame 10 1001000000 .scheduled], (x.state = .scheduled ∨ x.state = .assembling) ∧ x.number ≠ 9)
    ∧ live.em.state = .standby ∧ live.sc.config = .valid ∧ live.em.causes = ⟨false, false, false, false⟩
    ∧ live.em.current = none ∧ live.em.stepRun = none := by decide

/-- MUTED by the causes given, a frame due, one release counted since the discard run. -/
def mutedDue (causes : MuteSet) : State :=
  let s := emitting .muted (withFrames [frame 9 1000000000 .scheduled] live)
  { s with em := { s.em with causes := causes, releaseRun := 1, discardRun := 3 } }

theorem witness_muted_release (causes : MuteSet) :
    (mutedDue causes).em.table = frame 9 1000000000 .scheduled :: [] ∧ (mutedDue causes).em.stepRun = none
    ∧ (mutedDue causes).em.current = none ∧ (mutedDue causes).em.state = .muted
    ∧ (mutedDue causes).em.causes = causes := ⟨rfl, rfl, rfl, rfl, rfl⟩

/-- ON_AIR, frame 8 current with cells left, frame 9 due. -/
def cutting : State :=
  let s := emitting .onAir (withFrames [{ frame 8 999000000 .emitting with sent := 4, slotsHeld := 7 },
    frame 9 1000000000 .scheduled] live)
  { s with em := { s.em with current := some 8, nextCell := some 1000000000, carrier := true } }

theorem witness_cut : cutting.em.table = { frame 8 999000000 .emitting with sent := 4, slotsHeld := 7 }
      :: frame 9 1000000000 .scheduled :: []
    ∧ (frame 9 1000000000 .scheduled).q ≤ cutting.tb.now ∧ cutting.em.current = some 8
    ∧ 0 < ({ frame 8 999000000 .emitting with sent := 4, slotsHeld := 7 } : FrameRecord).left
    ∧ cutting.em.state = .onAir ∧ cutting.em.causes = ⟨false, false, false, false⟩ ∧ cutting.em.stepRun = none := by decide

/-- The discard run before its second and its third discarded record. -/
theorem witness_discard_run (run : Nat) : (let s := { cutting with em := { cutting.em with discardRun := run } }
    s.em.state = .onAir ∧ s.em.causes.discardRun = false ∧ s.em.discardRun = run) := ⟨rfl, rfl, rfl⟩

/-- ON_AIR, frame 9 EMITTING with its first cell due now. -/
def onAir : State :=
  let s := emitting .onAir (withFrames [frame 9 1000000000 .emitting] live)
  { s with em := { s.em with
      current := some 9, nextCell := some 1000000000, carrier := true, starve := some 1000000000
      queue := { s.em.queue with slots := [(0, headCell 100 100000)], occupancy := 11, nextFree := 11 } } }

/-- The first record that is ASSEMBLING or SCHEDULED has its Q less than 100 TU after the instant. -/
abbrev ahead (at_ : Time) (s : State) : Bool :=
  match s.em.table.find? (fun y => y.state == .assembling || y.state == .scheduled) with
  | some x => decide (x.q < at_ + 100)
  | none => false

theorem ahead_iff (at_ : Time) (s : State) : ahead at_ s = true ↔
    ∃ x, s.em.table.find? (fun y => y.state == .assembling || y.state == .scheduled) = some x ∧ x.q < at_ + 100 := by
  unfold ahead
  split <;> simp [*]

theorem witness_cell : instantDue onAir = some 1000000000 ∧ onAir.currentFrame = some (frame 9 1000000000 .emitting)
    ∧ (frame 9 1000000000 .emitting).state = .emitting ∧ ahead 1000000000 onAir = false
    ∧ 2 ≤ (frame 9 1000000000 .emitting).left ∧ takingChannel 9 onAir.em.queue.front onAir = none := by
  decide +kernel

/-- The current frame, in the state given, at its last cell in ON_AIR or MUTED, the high flag set, with the next frame's
Q ahead by the TU given. -/
def lastCell (e : EmissionState) (f : FrameState) (span : Time) : State :=
  { onAir with em := { onAir.em with
    state := e
    table := [{ frame 9 1000000000 f with sent := 10, slotsHeld := 1 }, frame 10 (1000000000 + span) .scheduled]
    queue := { onAir.em.queue with high := true } } }

theorem witness_last_cell : ∀ e ∈ [EmissionState.onAir, .muted, .standby], ∀ f ∈ [FrameState.emitting, .passed],
    (let r := { frame 9 1000000000 f with sent := 10, slotsHeld := 1 }
    let s := lastCell e f 100
    instantDue s = some 1000000000 ∧ s.currentFrame = some r ∧ ahead 1000000000 s = false ∧ r.left = 1
      ∧ s.em.queue.high = true ∧ s.em.queue.occupancy - 1 ≤ s.setting SiteConfig.almostEmpty 4096)
    ∧ ahead 1000000000 (lastCell e f 99) = true ∧ instantDue (lastCell e f 99) = some 1000000000 := by decide

/-- The same frame, PASSED, with two cells left. -/
theorem witness_consumed_cell :
    (let r := { frame 9 1000000000 .passed with sent := 9 }
    let s := { onAir with em := { onAir.em with state := .muted, table := [r] } }
    instantDue s = some 1000000000 ∧ s.currentFrame = some r ∧ ahead 1000000000 s = false ∧ r.left = 2) := by decide

/-- ON_AIR with no current frame, on the filler grid, a transfer just ended. -/
def filling : State :=
  let s := emitting .onAir live
  { s with em := { s.em with nextCell := some 1000000000, transfer := some ⟨fillerCell, true, 0⟩ } }

theorem witness_filler : instantDue filling = some 1000000000 ∧ filling.currentFrame = none
    ∧ ahead 1000000000 filling = false
    ∧ (let s := withFrames [frame 10 1000000099 .scheduled] filling
      instantDue s = some 1000000000 ∧ s.currentFrame = none ∧ ahead 1000000000 s = true) := by decide

theorem witness_transfer_end : filling.em.transfer = some ⟨fillerCell, true, 0⟩ ∧ (0 : Nat) ≤ filling.osc := by
  decide +kernel

theorem witness_starve : isDue onAir.tb.now onAir.em.starve = true ∧ onAir.em.state = .onAir
    ∧ onAir.em.causes.starve = false := by decide

theorem witness_inhibit : onAir.sc.inhibitLine ≠ true ∧ onAir.sc.inhibitSince + 100000 ≤ onAir.osc
    ∧ onAir.em.state ≠ .fault
    ∧ onAir.em.causes.inhibit = onAir.sc.inhibitLine := by decide

/-! ### Witnesses: the spot store -/

/-- Segment 0 of the spot in CAPTURE on page 8191, one of its two cells received, inside frame 9. -/
def capturing : State :=
  { live with
    intake := { live.intake with assembly := some ⟨some 9, 5⟩ }
    store := { live.store with
      directory := [{ spotEntry .filling 0 0 with segs := [none], lastCells := some 3 }]
      freePages := List.range 8191
      assembler := .capture ⟨spot, 0, 3, 1⟩ 8191 crc32Start 0#32 } }

theorem witness_capture : (cellWith 11 6 4 [1, 2]).length = 240 ∧ (cellWith 11 6 4 [1, 2]).head? = some 0xB8
    ∧ capturing.sc.config = .valid ∧ capturing.sc.inUse = some site ∧ capturing.intake.feed = .running
    ∧ capturing.intake.assembly = some ⟨some 9, 5⟩ ∧ 2 ≤ (⟨some 9, 5⟩ : Assembly).remaining
    ∧ cellTag (cellWith 11 6 4 [1, 2]) = site.assetTag ∧ cellKind (cellWith 11 6 4 [1, 2]) = .segmentBody
    ∧ isContinuous (cellWith 11 6 4 [1, 2]) capturing = true
    ∧ capturing.store.assembler = .capture ⟨spot, 0, 3, 1⟩ 8191 crc32Start 0#32
    ∧ (⟨spot, 0, 3, 1⟩ : SegmentInFlight).received + 1 < (⟨spot, 0, 3, 1⟩ : SegmentInFlight).expected := by
  decide +kernel

theorem frameCell {cell : Cell} {tag : Nat} {kind : CellKind} {s : State}
    (h : cell.length = 240 ∧ cell.head? = some 0xB8 ∧ cellTag cell = tag ∧ cellKind cell = kind)
    (hs : s.sc.config = .valid ∧ s.sc.inUse = some site ∧ s.intake.feed = .running
      ∧ s.intake.assembly = some ⟨some 9, 5⟩) : FrameCell site cell tag kind ⟨some 9, 5⟩ s :=
  ⟨⟨h.1, h.2.1, hs.1, hs.2.1, hs.2.2.1⟩, hs.2.2.2, by decide, h.2.2.1, h.2.2.2⟩

/-- The same body after a break of its tag's count; in SKIP before its segment's last body and as that; and in IDLE. -/
def withAssembler (x : Assembler) (s : State) : State := { s with store := { s.store with assembler := x } }

def broken (s : State) : State := { s with intake := { s.intake with
  continuity := s.intake.continuity.modify 11 fun _ => ⟨some 9, 0⟩ } }

theorem witness_other_bodies : (∀ x ∈ [Assembler.idle, .skip ⟨spot, 0, 3, 1⟩, .skip ⟨spot, 0, 2, 1⟩,
      .capture ⟨spot, 0, 3, 1⟩ 8191 crc32Start 0#32], ∀ f ∈ [false, true],
      let s := withAssembler x (if f then broken capturing else capturing)
      FrameCell site (cellWith 11 6 4 [1, 2]) site.assetTag .segmentBody ⟨some 9, 5⟩ s ∧ s.store.assembler = x
        ∧ isContinuous (cellWith 11 6 4 [1, 2]) s = !f) := by
  intro x hx f hf
  have h := frameCell (cell := cellWith 11 6 4 [1, 2]) (tag := site.assetTag) (kind := .segmentBody) (s := capturing)
    (by decide +kernel) (by decide)
  have e : isContinuous (cellWith 11 6 4 [1, 2]) capturing = true
      ∧ isContinuous (cellWith 11 6 4 [1, 2]) (broken capturing) = false := by decide +kernel
  have same : ∀ (cell : Cell) (s : State), isContinuous cell (withAssembler x s) = isContinuous cell s := fun _ _ => rfl
  cases f
  · exact ⟨⟨⟨h.good.1, h.good.2, rfl, rfl, rfl⟩, rfl, h.more, h.onTag, h.ofKind⟩, rfl, (same _ _).trans e.1⟩
  · exact ⟨⟨⟨h.good.1, h.good.2, rfl, rfl, rfl⟩, rfl, h.more, h.onTag, h.ofKind⟩, rfl, (same _ _).trans e.2⟩

theorem witness_memory_writer : (∃ t, exec (.cellTaken (cellWith 11 6 4 [1, 2])) capturing = .next t)
    ∧ Instr.cellTaken (cellWith 11 6 4 [1, 2]) ≠ .powerOnReset := by
  exact ⟨cellTaken_next _ _ (by decide +kernel), by simp⟩

theorem witness_memory_keeper : (∃ t, exec .feedLoss capturing = .next t) ∧ Instr.feedLoss ≠ .powerOnReset
    ∧ Instr.feedLoss ≠ .restart ∧ ∀ cell, Instr.feedLoss ≠ .cellTaken cell := by
  exact ⟨⟨_, rfl⟩, by decide, by decide, by simp⟩

/-- The check of the spot is over. -/
def checked : State :=
  let s := withSpot (spotEntry .checking 0 0) live
  { s with store := { s.store with check := some ⟨5, 1000000000⟩ } }

theorem witness_check : checked.store.check = some ⟨5, 1000000000⟩ ∧ (1000000000 : Int) ≤ checked.tb.now
    ∧ checked.store.entry? 5 = some (spotEntry .checking 0 0) ∧ (spotEntry .checking 0 0).state = .checking
    ∧ badSegments checked.store (spotEntry .checking 0 0) = [] ∧ (spotEntry .checking 0 0).expirePending = false
    ∧ checked.store.checkQueue = [] ∧ ∀ r ∈ checked.cues.table, r.state ≠ .decidedGo := by
  refine ⟨by decide, by decide, by decide, by decide, ?_, by decide, by decide, by decide⟩
  have m : checked.store.memory = [(0, ⟨[1], Config.slotCheck [1]⟩), (1, ⟨[2], Config.slotCheck [2]⟩)] := rfl
  simp [badSegments, badSlotsOf, spotEntry, Entry.slotsOf, SpotStore.slotAt, slotAddress, memRead, Slot.good, m,
    List.range_succ]

/-- The head of segment `k` of `n` of spot 5 with a digest: `cells` cells, a zone code, an expiry. -/
def segmentHead (digest k n cells zone expiry : Nat) : Cell :=
  cellWith 11 5 0 (numBytes 4 5 ++ numBytes 4 digest ++ numBytes 2 k ++ numBytes 2 n ++ numBytes 2 cells
    ++ numBytes 4 0 ++ numBytes 2 zone ++ [0xFF, 0xFF] ++ numBytes 4 expiry)

/-- Inside frame 9, with five cells to come. -/
def inFrame (s : State) : State := { s with intake := { s.intake with assembly := some ⟨some 9, 5⟩ } }

/-- Heads with no cells, of another zone, expired, of two segments, of the one segment, and of another version. -/
theorem witness_segment_head : (∀ h ∈ [segmentHead 9 0 1 0 0x1234 1000, segmentHead 9 0 1 2 0x1235 1000,
      segmentHead 9 0 1 2 0x1234 100, segmentHead 9 0 2 256 0x1234 1000, segmentHead 9 0 1 2 0x1234 101,
      segmentHead 8 0 1 2 0x1234 1000], FrameCell site h site.assetTag .segmentHead ⟨some 9, 5⟩ (inFrame live))
    ∧ (let head := fun c => segmentHeadOf (cellBody c)
      (head (segmentHead 9 0 1 0 0x1234 1000)).ok = false
      ∧ (head (segmentHead 9 0 1 2 0x1235 1000)).ok = true
      ∧ zoneMatch site.zoneCode (head (segmentHead 9 0 1 2 0x1235 1000)).zoneCode
          (head (segmentHead 9 0 1 2 0x1235 1000)).zoneMask = false
      ∧ ((head (segmentHead 9 0 1 2 0x1234 100)).expiry : Int) = secondOf live.tb.now
      ∧ head (segmentHead 9 0 2 256 0x1234 1000) = ⟨spot, 0, 2, 256, 0#32, 0x1234#16, 0xFFFF#16, 1000⟩
      ∧ head (segmentHead 9 0 1 2 0x1234 101) = ⟨spot, 0, 1, 2, 0#32, 0x1234#16, 0xFFFF#16, 101⟩
      ∧ (head (segmentHead 8 0 1 2 0x1234 1000)).spot = ⟨5, 8#32⟩) := by
  refine ⟨?_, by decide +kernel⟩
  intro h hm
  simp only [List.mem_cons, List.not_mem_nil, or_false] at hm
  rcases hm with rfl | rfl | rfl | rfl | rfl | rfl <;> exact frameCell (by decide +kernel) (by decide)

/-- The entry held, its segment missing, and the directory full; with a free page and with none. -/
def heldSpot (e : Entry) (pages : List Nat) : State :=
  let s := inFrame (withSpot e live)
  { s with store := { s.store with freePages := pages } }

def fullDirectory : State := { inFrame live with store := { live.store with
  directory := (List.range 48).map fun n => { spotEntry .verified 0 0 with spot := ⟨n + 100, 1#32⟩ } } }

theorem witness_directory : (endSegment (heldSpot (spotEntry .verified 0 0) [1])).store.entry? 5
      = some (spotEntry .verified 0 0) ∧ (spotEntry .verified 0 0).segs[0]? = some (some 0)
    ∧ (endSegment (heldSpot { spotEntry .filling 0 0 with segs := [none] } [1])).store.freePages = [1]
    ∧ (endSegment (heldSpot { spotEntry .filling 0 0 with segs := [none] } [])).store.freePages = []
    ∧ ({ spotEntry .filling 0 0 with segs := [none] } : Entry).segs[0]? = some none
    ∧ (heldSpot (spotEntry .verified 0 0) [1]).store.unprotected (spotEntry .verified 0 0) = true
    ∧ (heldSpot (spotEntry .verified 1 0) [1]).store.unprotected (spotEntry .verified 1 0) = false
    ∧ (heldSpot (spotEntry .verified 0 0) [1]).store.ids.Nodup
    ∧ fullDirectory.store.directory.length = 48 ∧ fullDirectory.store.entry? 5 = none
    ∧ (inFrame live).store.entry? 5 = none := by decide

/-- The last body of the segment in CAPTURE: of an entry with one segment or two, a check in flight or none. -/
def lastBody (n : Nat) (check : Word32) (inFlight : Option CheckInFlight) : State :=
  { capturing with store := { capturing.store with
      directory := [{ spotEntry .filling 0 0 with segCount := n, segs := List.replicate n none }]
      assembler := .capture ⟨spot, 0, 2, 1⟩ 8191 crc32Start check
      check := inFlight } }

theorem witness_last_body : FrameCell site (cellWith 11 6 4 [1, 2]) site.assetTag .segmentBody ⟨some 9, 5⟩
      (lastBody 1 0#32 none)
    ∧ isContinuous (cellWith 11 6 4 [1, 2]) (lastBody 1 0#32 none) = true
    ∧ (lastBody 1 0#32 none).store.assembler = .capture ⟨spot, 0, 2, 1⟩ 8191 crc32Start 0#32
    ∧ ((lastBody 1 0#32 none).store.entry? 5).isSome = true
    ∧ (∃ check, crc32Result (crc32Run crc32Start (cellBody (cellWith 11 6 4 [1, 2]))) = check)
    ∧ (∃ check, crc32Result (crc32Run crc32Start (cellBody (cellWith 11 6 4 [1, 2]))) ≠ check)
    ∧ ([none].set 0 (some 8191)).countP Option.isSome = 1 ∧ ([none, none].set 0 (some 8191)).countP Option.isSome = 1 :=
  ⟨frameCell (by decide +kernel) (by decide), by decide +kernel, rfl, by decide, ⟨_, rfl⟩,
    ⟨~~~crc32Result (crc32Run crc32Start (cellBody (cellWith 11 6 4 [1, 2]))), by simp⟩, by decide⟩

/-- A check that is over, its second slot bad: the slot check code of another body. -/
def badCheck : State :=
  let s := checked
  { s with store := { s.store with memory := [(0, ⟨[1], Config.slotCheck [1]⟩), (1, ⟨[2], ~~~Config.slotCheck [2]⟩)] } }

theorem witness_bad_slot : badCheck.store.check = some ⟨5, 1000000000⟩ ∧ (1000000000 : Int) ≤ badCheck.tb.now
    ∧ badCheck.store.entry? 5 = some (spotEntry .checking 0 0) ∧ badCheck.store.checkQueue = []
    ∧ (∀ r ∈ badCheck.cues.table, r.state ≠ .decidedGo) ∧ badSegments badCheck.store (spotEntry .checking 0 0) ≠ [] := by
  refine ⟨by decide, by decide, by decide, by decide, by decide, ?_⟩
  have m : badCheck.store.memory = [(0, ⟨[1], Config.slotCheck [1]⟩), (1, ⟨[2], ~~~Config.slotCheck [2]⟩)] := rfl
  simp [badSegments, badSlotsOf, spotEntry, Entry.slotsOf, SpotStore.slotAt, slotAddress, memRead, Slot.good, m,
    List.range_succ]

/-- A check that is over, of an expire-pending spot that is named no more. -/
def pendingCheck : State :=
  let s := checked
  { s with store := { s.store with directory := [{ spotEntry .checking 0 0 with expirePending := true }] } }

theorem witness_expire_check :
    pendingCheck.store.entry? 5 = some { spotEntry .checking 0 0 with expirePending := true }
    ∧ badSegments pendingCheck.store { spotEntry .checking 0 0 with expirePending := true } = []
    ∧ pendingCheck.store.check = some ⟨5, 1000000000⟩ ∧ pendingCheck.store.ids.Nodup := by
  refine ⟨by decide, ?_, by decide, by decide⟩
  have m : pendingCheck.store.memory = [(0, ⟨[1], Config.slotCheck [1]⟩), (1, ⟨[2], Config.slotCheck [2]⟩)] := rfl
  simp [badSegments, badSlotsOf, spotEntry, Entry.slotsOf, SpotStore.slotAt, slotAddress, memRead, Slot.good, m,
    List.range_succ]

/-- Frozen and not, with a pending failure and with none, expire-pending and not. -/
theorem witness_store_requests (e : Entry) (h : e.spot = spot) : (withSpot e live).store.entry? 5 = some e
    ∧ (withSpot e live).store.ids.Nodup ∧ (∀ r ∈ (withSpot e live).cues.table, r.state ≠ .decidedGo)
    ∧ (withSpot e live).store.assembler = .idle ∧ (withSpot e live).store.inCheck 5 = false := by
  refine ⟨?_, ?_, by simp [withSpot, live, State.reset, CueDecoder.reset], rfl, rfl⟩
  · simp [withSpot, SpotStore.entry?, h, spot]
  · simp [withSpot, SpotStore.ids]

/-! ### Witnesses: the laws -/

/-- ON_AIR with one break in the state given, its spot VERIFIED, and channel 0 as given. -/
def withAll (r : BreakRecord) (c : Channel) (prot freeze : Nat) : State :=
  emitting .onAir (withChannel c (withBreak r (withSpot (spotEntry .verified prot freeze) live)))

/-- Break 7 DECIDED_GO on channel 0. -/
def goBreak : BreakRecord := { brk .decidedGo .go with channel := some 0, watch := some .waiting }

/-- Break 7 OPEN and ready, with a command that waits. -/
def openState : State := { withAll (brk .openState .ready) Channel.reset 1 0 with pending := [.latchClearRelease] }

/-- Break 7 DECIDED_GO, with a command that waits. -/
def goState : State := { withAll goBreak (bound .reserved) 2 0 with pending := [.latchClearRelease] }

theorem steps_next (s : State) (h : s.pending = [.latchClearRelease]) : ∃ t, step s = .next t := by
  simp [step, h, exec, execLatchClearRelease]

theorem openState_breaks : BreakTableLaw openState := ⟨by decide, by decide, by decide, by decide⟩

theorem goState_breaks : BreakTableLaw goState := ⟨by decide, by decide, by decide, by decide⟩

theorem openState_agreement : AgreementLaw openState := ⟨by decide, by decide, by decide⟩

theorem goState_agreement : AgreementLaw goState := ⟨by decide, by decide, by decide⟩

/-- A statement about the four channels is a statement about each. -/
theorem four_channels {l : List Channel} {a b c d : Channel} (h : l = [a, b, c, d]) (p : Nat → Channel → Prop)
    (ha : p 0 a) (hb : p 1 b) (hc : p 2 c) (hd : p 3 d) : ∀ k < 4, ∀ x, l[k]? = some x → p k x := by
  subst h
  intro k hk x hx
  match k, hk with
  | 0, _ => cases hx; exact ha
  | 1, _ => cases hx; exact hb
  | 2, _ => cases hx; exact hc
  | 3, _ => cases hx; exact hd

/-- The law of the channels when channel 0 alone is bound, to break 7, or none is. -/
theorem channelLaw_of {s : State} {c : Channel} {r : BreakRecord}
    (hc : s.chans.chan = [c, Channel.reset, Channel.reset, Channel.reset]) (ht : s.cues.table = [r])
    (h : c.bound = none ∧ c.state = .idle ∧ r.channel = none
      ∨ c.bound = some ⟨7, 1100000000, 1200000000⟩ ∧ c.state ≠ .idle ∧ r.id = 7 ∧ r.channel = some 0
        ∧ r.state.holdsChannel = true ∧ c.tag = some r.tag) : ChannelLaw s where
  idle := four_channels hc _ (by rcases h with h | h <;> simp [h]) (by decide) (by decide) (by decide)
  bound := by
    have e : Channel.reset.bound = none := rfl
    intro k hk x b hx
    refine four_channels hc (fun k x => x.bound = some b → ∃ r ∈ s.cues.table, r.id = b.id ∧ r.channel = some k
      ∧ r.state.holdsChannel = true ∧ x.tag = some r.tag) ?_ (by simp [e]) (by simp [e]) (by simp [e]) k hk x hx
    rcases h with h | h
    · simp [h]
    · intro hb
      rw [h.1] at hb
      cases hb
      exact ⟨r, by simp [ht], h.2.2.1, h.2.2.2.1, h.2.2.2.2.1, h.2.2.2.2.2⟩
  reserved := by
    rw [ht]
    rcases h with h | h
    · simp [h]
    · intro x hx k hk
      obtain rfl : x = r := by simpa using hx
      obtain rfl : k = 0 := by simpa [h] using hk.symm
      exact ⟨by decide, c, _, by simp [hc], h.1, h.2.2.1.symm⟩
  tags := by
    have e : Channel.reset.state = .idle := rfl
    intro j hj k hk x y hx hy hjk hxi hyi
    have at0 : ∀ k < 4, ∀ x, s.chans.chan[k]? = some x → x.state ≠ .idle → k = 0 :=
      four_channels hc (fun k x => x.state ≠ .idle → k = 0) (by simp) (by simp [e]) (by simp [e]) (by simp [e])
    exact absurd ((at0 j hj x hx hxi).trans (at0 k hk y hy hyi).symm) hjk

theorem openState_channels : ChannelLaw openState := channelLaw_of rfl rfl (.inl (by decide))

theorem goState_channels : ChannelLaw goState := channelLaw_of rfl rfl (.inr (by decide))

theorem witness_laws : (∃ t, step goState = .next t) ∧ BreakTableLaw goState ∧ AgreementLaw goState
    ∧ ChannelLaw goState ∧ goState.chans.chan.length = 4 :=
  ⟨steps_next _ rfl, goState_breaks, goState_agreement, goState_channels, rfl⟩

theorem witness_memory : MemoryLaw goState ∧ ∃ t, step goState = .next t := ⟨⟨rfl, rfl⟩, steps_next _ rfl⟩

theorem witness_capacity : CapacityLaw goState ∧ ∃ t, step goState = .next t := by
  refine ⟨?_, steps_next _ rfl⟩
  constructor <;> decide

theorem witness_time : TimeLaw goState ∧ ∃ t, step goState = .next t := by
  refine ⟨?_, steps_next _ rfl⟩
  constructor <;> first | decide | exact ⟨by decide, by decide⟩

theorem witness_air : AirLaw goState ∧ goState.em.state = .onAir ∧ ∃ t, step goState = .next t := by
  refine ⟨?_, rfl, steps_next _ rfl⟩
  constructor <;> decide

theorem witness_pages : PageLaw goState ∧ ∃ t, step goState = .next t := by
  refine ⟨⟨?_, by decide, by decide, by decide, ?_⟩, steps_next _ rfl⟩
  · have d : goState.store.directory.flatMap Entry.pages = [0] := rfl
    have c : goState.store.capturePage = [] := rfl
    have f : goState.store.freePages = (List.range 8191).map Nat.succ := by
      simp only [goState, withAll, emitting, withChannel, withBreak, withSpot]
    rw [d, c, f, show Config.storePages = 8191 + 1 from rfl, List.range_succ_eq_map (n := 8191)]
    simp only [List.append_nil, List.singleton_append, List.Perm.refl]
  · intro g page running check h
    cases h

/-! ### Witnesses: cues and breaks -/

/-- A BREAK cue of break 8 from (out, 0) to (in, 0) on a tag, with the one spot. -/
def cueCell (id out in_ tag : Nat) : Cell :=
  cellWith 10 4 0 ([1, 1] ++ numBytes 2 id ++ [0x12, 0x34, 0xFF, 0xFF, BitVec.ofNat 8 tag, 1, 0]
    ++ numBytes 2 out ++ numBytes 4 0 ++ numBytes 2 in_ ++ numBytes 4 0 ++ numBytes 4 5 ++ numBytes 4 9)

/-- What every cue cell of the tests has, taken inside frame 9 of the state given. -/
def cueTakenIn (id out in_ tag : Nat) (s : State) : Prop :=
  (cueCell id out in_ tag).length = 240 ∧ (cueCell id out in_ tag).head? = some 0xB8 ∧ s.sc.config = .valid
    ∧ s.sc.inUse = some site ∧ s.intake.feed = .running ∧ s.intake.assembly = some ⟨some 9, 5⟩
    ∧ 2 ≤ (⟨some 9, 5⟩ : Assembly).remaining ∧ cellTag (cueCell id out in_ tag) = site.controlTag
    ∧ cellKind (cueCell id out in_ tag) = .cue
    ∧ cueOf (cellBody (cueCell id out in_ tag))
      = some ⟨0x1234#16, 0xFFFF#16, .breakCue (breakCueOf (cellBody (cueCell id out in_ tag)))⟩
    ∧ zoneMatch site.zoneCode 0x1234#16 0xFFFF#16 = true ∧ (breakCueOf (cellBody (cueCell id out in_ tag))).id ≠ 0

theorem cueTakenIn_of {id out in_ tag : Nat} {s : State}
    (h : (cueCell id out in_ tag).length = 240 ∧ (cueCell id out in_ tag).head? = some 0xB8
      ∧ cellTag (cueCell id out in_ tag) = site.controlTag ∧ cellKind (cueCell id out in_ tag) = .cue
      ∧ byteAt (cellBody (cueCell id out in_ tag)) 0 = 1 ∧ breakCueOk (cellBody (cueCell id out in_ tag)) = true
      ∧ numAt (cellBody (cueCell id out in_ tag)) 4 2 = 0x1234 ∧ numAt (cellBody (cueCell id out in_ tag)) 6 2 = 0xFFFF
      ∧ (breakCueOf (cellBody (cueCell id out in_ tag))).id ≠ 0)
    (hs : s.sc.config = .valid ∧ s.sc.inUse = some site ∧ s.intake.feed = .running
      ∧ s.intake.assembly = some ⟨some 9, 5⟩) : cueTakenIn id out in_ tag s := by
  obtain ⟨h1, h2, h3, h4, h5, h6, h7, h8, h9⟩ := h
  obtain ⟨s1, s2, s3, s4⟩ := hs
  exact ⟨h1, h2, s1, s2, s3, s4, by decide, h3, h4, by simp [cueOf, h5, h6, h7, h8], by decide, h9⟩

/-- The shortest notice that is accepted, 7 s, and the latest C_in that a stamp can name, just below 512 s ahead. -/
theorem witness_cue : cueTakenIn 8 107 611 1 (inFrame live)
    ∧ (let b := breakCueOf (cellBody (cueCell 8 107 611 1))
      let s := inFrame live
      let cOut := resolveStamp s.tb.now b.outS b.outF
      let cIn := resolveStamp s.tb.now b.inS b.inF
      s.record? b.id = none ∧ s.tb.disc ≠ .unset ∧ cOut < cIn ∧ cIn - cOut ≤ 6000000000
        ∧ site.decisionMs * 10000 + site.marginMs * 10000 ≤ cOut - s.tb.now ∧ b.tag ∈ site.routing
        ∧ (∀ r ∈ s.cues.table, r.id ≠ b.id → r.tag = b.tag → ¬(r.cOut < cIn ∧ cOut < r.cIn))
        ∧ s.cues.table.length < 8) := by
  exact ⟨cueTakenIn_of (by decide +kernel) (by decide), by decide +kernel⟩

/-- In UNSET: NO_TIME. -/
def noTime : State := let s := inFrame live; { s with tb := { s.tb with disc := .unset } }

theorem witness_cue_no_time : cueTakenIn 8 107 611 1 noTime
    ∧ noTime.record? (breakCueOf (cellBody (cueCell 8 107 611 1))).id = none ∧ noTime.tb.disc = .unset
    ∧ noTime.cues.counters.refusals.length = 8 := by
  exact ⟨cueTakenIn_of (by decide +kernel) (by decide), by decide +kernel⟩

/-- Eight breaks on other tags than 1. -/
def eightBreaks : State := inFrame { live with cues := { live.cues with
  table := (List.range 8).map fun k => { brk .openState .ready with id := 20 + k, tag := 20 + k } } }

/-- Of no length, and longer than 600 s: BAD_INTERVAL. With 6 s of notice: LATE_CUE. On a tag that is not routed:
NOT_ROUTED. On the tag of break 7 from 110 s to 120 s: OVERLAP. With eight records: TABLE_FULL. -/
theorem witness_cue_refused : (let s := inFrame live
    (cueTakenIn 8 107 107 1 s ∧ cueTakenIn 8 0 611 1 s ∧ cueTakenIn 8 106 611 1 s ∧ cueTakenIn 8 107 611 3 s)
      ∧ s.cues.counters.refusals.length = 8 ∧ s.record? 8 = none ∧ s.tb.disc ≠ .unset)
    ∧ cueTakenIn 8 107 611 1 (inFrame (withBreak (brk .openState .ready) live)) ∧ cueTakenIn 8 107 611 1 eightBreaks
    ∧ (∀ x ∈ [(107, 107, 1), (0, 611, 1), (106, 611, 1), (107, 611, 3), (107, 611, 1)],
      (breakCueOf (cellBody (cueCell 8 x.1 x.2.1 x.2.2))).id = 8
        ∧ (breakCueOf (cellBody (cueCell 8 x.1 x.2.1 x.2.2))).tag = x.2.2
        ∧ let b := breakCueOf (cellBody (cueCell 8 x.1 x.2.1 x.2.2))
          (resolveStamp live.tb.now b.outS b.outF, resolveStamp live.tb.now b.inS b.inF)
            = ((x.1 : Int) * 10000000, (x.2.1 : Int) * 10000000))
    ∧ (let now := live.tb.now
      let notice := site.decisionMs * 10000 + site.marginMs * 10000
      now = 1000000000 ∧ 1060000000 - now < notice ∧ ¬(1070000000 - now < notice) ∧ (1 : Nat) ∈ site.routing
        ∧ (3 : Nat) ∉ site.routing ∧ (6000000000 : Int) < 6110000000 - 0)
    ∧ (let r := brk .openState .ready
      (inFrame (withBreak r live)).cues.table = [r] ∧ r.id ≠ 8 ∧ r.tag = 1 ∧ r.cOut < 6110000000 ∧ 1070000000 < r.cIn
        ∧ (inFrame (withBreak r live)).record? 8 = none)
    ∧ (∀ r ∈ eightBreaks.cues.table, r.id ≠ 8 ∧ r.tag ≠ 1) ∧ eightBreaks.record? 8 = none
    ∧ 8 ≤ eightBreaks.cues.table.length := by
  exact ⟨⟨⟨cueTakenIn_of (by decide +kernel) (by decide), cueTakenIn_of (by decide +kernel) (by decide),
      cueTakenIn_of (by decide +kernel) (by decide), cueTakenIn_of (by decide +kernel) (by decide)⟩, by decide +kernel⟩,
    cueTakenIn_of (by decide +kernel) (by decide), cueTakenIn_of (by decide +kernel) (by decide), by decide +kernel⟩

/-- A change of break 7 after its decision: CHANGED_LATE. -/
def decidedInFrame : State := inFrame (withBreak { brk .decidedHold (.hold .self) with version := 2 } live)

theorem witness_cue_changed_late : cueTakenIn 7 107 611 1 decidedInFrame
    ∧ decidedInFrame.record? (breakCueOf (cellBody (cueCell 7 107 611 1))).id
      = some { brk .decidedHold (.hold .self) with version := 2 }
    ∧ (brk .decidedHold (.hold .self)).state ≠ .openState ∧ 2 ≠ (breakCueOf (cellBody (cueCell 7 107 611 1))).version
    ∧ decidedInFrame.cues.counters.refusals.length = 8 := by
  exact ⟨cueTakenIn_of (by decide +kernel) (by decide), by decide +kernel⟩

/-- Break 7 OPEN with an older version, and as the cue has it. -/
def openInFrame (version : Nat) (check : Word32) : State :=
  inFrame (withBreak { brk .openState .ready with version := version, check := check } live)

/-- A change of the OPEN break to no length is refused; to an interval in range it is taken. -/
theorem witness_cue_open : cueTakenIn 7 107 107 1 (openInFrame 2 3#32) ∧ cueTakenIn 7 107 611 1 (openInFrame 2 3#32)
    ∧ (openInFrame 2 3#32).record? 7 = some { brk .openState .ready with version := 2 }
    ∧ (2 : Nat) ≠ (breakCueOf (cellBody (cueCell 7 107 611 1))).version ∧ (openInFrame 2 3#32).tb.disc ≠ .unset
    ∧ ((openInFrame 2 3#32).cues.table.map BreakRecord.id).Nodup
    ∧ (openInFrame 2 3#32).cues.counters.refusals.length = 8
    ∧ (∀ in_ ∈ [107, 611], let b := breakCueOf (cellBody (cueCell 7 107 in_ 1))
      let s := openInFrame 2 3#32
      let cOut := resolveStamp s.tb.now b.outS b.outF
      let cIn := resolveStamp s.tb.now b.inS b.inF
      (in_ = 107 → cIn ≤ cOut)
        ∧ (in_ = 611 → cOut < cIn ∧ cIn - cOut ≤ 6000000000
          ∧ site.decisionMs * 10000 + site.marginMs * 10000 ≤ cOut - s.tb.now ∧ b.tag ∈ site.routing
          ∧ ∀ x ∈ s.cues.table, x.id ≠ b.id → x.tag = b.tag → ¬(x.cOut < cIn ∧ cOut < x.cIn))) :=
  ⟨cueTakenIn_of (by decide +kernel) (by decide), cueTakenIn_of (by decide +kernel) (by decide), by decide +kernel⟩

theorem cueTaken_of {id out in_ tag : Nat} {s : State} (h : cueTakenIn id out in_ tag s) :
    CueTaken site (cueCell id out in_ tag) (.breakCue (breakCueOf (cellBody (cueCell id out in_ tag)))) s := by
  obtain ⟨h1, h2, s1, s2, s3, s4, m, h3, h4, h5, h6, _⟩ := h
  exact ⟨⟨_, ⟨⟨h1, h2, s1, s2, s3⟩, s4, m, h3, h4⟩⟩, _, _, h5, h6⟩

/-- The cue of the break the record has: its version and check. -/
theorem witness_cue_repeat : let b := breakCueOf (cellBody (cueCell 7 107 611 1))
    CueTaken site (cueCell 7 107 611 1) (.breakCue b) (openInFrame 1 b.check) ∧ b.id ≠ 0
    ∧ (openInFrame 1 b.check).record? b.id = some { brk .openState .ready with version := 1, check := b.check }
    ∧ b.version = 1 := by
  have e : (breakCueOf (cellBody (cueCell 7 107 611 1))).id = 7 := by decide +kernel
  refine ⟨cueTaken_of (cueTakenIn_of (by decide +kernel) (by decide)), by rw [e]; decide, ?_, by decide +kernel⟩
  rw [e]
  rfl

/-- A CANCEL of a break id. -/
def cancelCell (id : Nat) : Cell := cellWith 10 4 0 ([2, 0] ++ numBytes 2 id ++ [0x12, 0x34, 0xFF, 0xFF])

theorem cancelTaken {id : Nat} {s : State} (h : (cancelCell id).length = 240 ∧ (cancelCell id).head? = some 0xB8
      ∧ cellTag (cancelCell id) = site.controlTag ∧ cellKind (cancelCell id) = .cue
      ∧ cueOf (cellBody (cancelCell id)) = some ⟨0x1234#16, 0xFFFF#16, .cancel id⟩)
    (hs : s.sc.config = .valid ∧ s.sc.inUse = some site ∧ s.intake.feed = .running
      ∧ s.intake.assembly = some ⟨some 9, 5⟩) : CueTaken site (cancelCell id) (.cancel id) s :=
  ⟨⟨_, frameCell ⟨h.1, h.2.1, h.2.2.1, h.2.2.2.1⟩ hs⟩, _, _, h.2.2.2.2, by decide⟩

theorem witness_cancel_nothing : CueTaken site (cancelCell 0) (.cancel 0) (inFrame live)
    ∧ CueTaken site (cancelCell 7) (.cancel 7) (inFrame live) ∧ (inFrame live).record? 7 = none :=
  ⟨cancelTaken (by decide +kernel) (by decide), cancelTaken (by decide +kernel) (by decide), by decide⟩

theorem witness_cancel : CueTaken site (cancelCell 7) (.cancel 7) (inFrame goState)
    ∧ (inFrame goState).record? 7 = some goBreak ∧ goBreak.state = .decidedGo ∧ goBreak.channel = some 0
    ∧ BreakTableLaw (inFrame goState) ∧ ChannelLaw (inFrame goState) :=
  ⟨cancelTaken (by decide +kernel) (by decide), by decide, by decide, by decide,
    ⟨by decide, by decide, by decide, by decide⟩, channelLaw_of rfl rfl (.inr (by decide))⟩

/-- Break 7 LOCKED_HOLD, and LOCKED_GO and AIRING on channel 0, with its end instant. -/
def lockedHold : BreakRecord := { brk .lockedHold (.hold .self) with endAt := some 1200000000, watch := some .closed }

def airing : BreakRecord :=
  { brk .airing .airing with endAt := some 1220000000, channel := some 0, watch := some .closed }

/-- LOCKED_GO on channel 0, ARMED, at its end instant just before the removal instant. -/
def lockedEnds : BreakRecord :=
  { brk .lockedGo .go with endAt := some 1219999999, channel := some 0, watch := some .closed }

def goEnds : State := clock 1219999999 (withAll lockedEnds (bound .armed) 2 1)

def holdEnds : State := clock 1200000000 (withAll lockedHold Channel.reset 1 0)

/-- Just before the removal instant, which lies 2 s after C_in. -/
def airEnds : State := clock 1219999999 (withAll { airing with endAt := some 1219999999 } (bound .playing) 2 1)

theorem witness_cancel_late : CueTaken site (cancelCell 7) (.cancel 7) (inFrame holdEnds)
    ∧ (inFrame holdEnds).record? 7 = some lockedHold ∧ BreakTableLaw (inFrame holdEnds)
    ∧ ChannelLaw (inFrame holdEnds) ∧ lockedHold.state ≠ .openState ∧ lockedHold.state ≠ .decidedGo
    ∧ lockedHold.state ≠ .decidedHold :=
  ⟨cancelTaken (by decide +kernel) (by decide), by decide, ⟨by decide, by decide, by decide, by decide⟩,
    channelLaw_of rfl rfl (.inl (by decide)), by decide⟩

theorem witness_hold_ends : BreakTableLaw holdEnds ∧ ChannelLaw holdEnds
    ∧ dueRecord 7 .endInstant holdEnds = some lockedHold ∧ lockedHold.state = .lockedHold
    ∧ holdEnds.tb.now < lockedHold.cIn + 20000000 :=
  ⟨⟨by decide, by decide, by decide, by decide⟩, channelLaw_of rfl rfl (.inl (by decide)), by decide, rfl, by decide⟩

theorem witness_air_ends : BreakTableLaw airEnds ∧ ChannelLaw airEnds
    ∧ dueRecord 7 .endInstant airEnds = some { airing with endAt := some 1219999999 } ∧ airing.state = .airing
    ∧ airEnds.tb.now < airing.cIn + 20000000 :=
  ⟨⟨by decide, by decide, by decide, by decide⟩, channelLaw_of rfl rfl (.inr (by decide)), by decide, rfl, by decide⟩

theorem witness_go_ends : BreakTableLaw goEnds ∧ ChannelLaw goEnds ∧ dueRecord 7 .endInstant goEnds = some lockedEnds
    ∧ lockedEnds.state = .lockedGo ∧ goEnds.tb.now < lockedEnds.cIn + 20000000 :=
  ⟨⟨by decide, by decide, by decide, by decide⟩, channelLaw_of rfl rfl (.inr (by decide)), by decide, rfl, by decide⟩

/-- Break 7 ENDED at its removal instant. -/
def ended : BreakRecord := { brk .ended .ended with removalAt := some 1220000000, watch := some .closed }

theorem witness_removal :
    dueRecord 7 .removal (clock 1220000000 (withAll ended Channel.reset 1 0)) = some ended := by decide

/-- At the decision instant of break 7, with the peers given. -/
def deciding (stance : Stance) (peers : List Peer) (c : Channel) : State :=
  let s := clock 1070000000 (withAll (brk .openState stance) c 1 0)
  { s with ros := { s.ros with peers := peers } }

theorem witness_go :
    BreakTableLaw (deciding .ready [peer 2 (some (said 2 .ready)), peer 3 (some (said 3 .go))] Channel.reset)
    ∧ AgreementLaw (deciding .ready [peer 2 (some (said 2 .ready)), peer 3 (some (said 3 .go))] Channel.reset)
    ∧ ChannelLaw (deciding .ready [peer 2 (some (said 2 .ready)), peer 3 (some (said 3 .go))] Channel.reset)
    ∧ (let s := deciding .ready [peer 2 (some (said 2 .ready)), peer 3 (some (said 3 .go))] Channel.reset
      let r := brk .openState .ready
      s.chans.chan.length = 4 ∧ decisionDue s = some r ∧ r.stance = .ready
        ∧ s.ros.quorum.getD 0 ≤ s.ros.presentCount
        ∧ (∀ p ∈ s.ros.peers, p.state = .present → showsReady r p = true)
        ∧ (∀ c ∈ s.chans.chan, c.state = .idle ∨ c.tag ≠ some r.tag) ∧ idleChannel s = some 0) :=
  ⟨⟨by decide, by decide, by decide, by decide⟩, ⟨by decide, by decide, by decide⟩,
    channelLaw_of rfl rfl (.inl (by decide)), by decide⟩

/-- A record that is PENDING, one that is NOT_READY, too few present peers, a peer that is not ready, and a channel
bound
to the tag: the five grounds of a HOLD. -/
theorem witness_hold_pending : decisionDue (deciding .pending [] Channel.reset) = some (brk .openState .pending)
    ∧ ((deciding .pending [] Channel.reset).cues.table.map BreakRecord.id).Nodup
    ∧ (brk .openState .pending).stance = .pending := by decide

theorem witness_hold_self : decisionDue (deciding (.notReady .time) [] Channel.reset)
      = some (brk .openState (.notReady .time))
    ∧ ((deciding (.notReady .time) [] Channel.reset).cues.table.map BreakRecord.id).Nodup
    ∧ (brk .openState (.notReady .time)).stance ≠ .pending ∧ (brk .openState (.notReady .time)).stance ≠ .ready := by
  decide

theorem witness_hold_quorum : decisionDue (deciding .ready [] Channel.reset) = some (brk .openState .ready)
    ∧ ((deciding .ready [] Channel.reset).cues.table.map BreakRecord.id).Nodup
    ∧ (deciding .ready [] Channel.reset).ros.presentCount < (deciding .ready [] Channel.reset).ros.quorum.getD 0 := by
  decide

theorem witness_hold_peer : decisionDue (deciding .ready [peer 2 none] Channel.reset) = some (brk .openState .ready)
    ∧ ((deciding .ready [peer 2 none] Channel.reset).cues.table.map BreakRecord.id).Nodup
    ∧ ¬(deciding .ready [peer 2 none] Channel.reset).ros.presentCount
      < (deciding .ready [peer 2 none] Channel.reset).ros.quorum.getD 0
    ∧ ∃ p ∈ (deciding .ready [peer 2 none] Channel.reset).ros.peers,
      p.state = .present ∧ showsReady (brk .openState .ready) p = false := by decide

theorem witness_hold_channel :
    decisionDue (deciding .ready [peer 2 (some (said 2 .ready))] (bound .playing)) = some (brk .openState .ready)
    ∧ ((deciding .ready [peer 2 (some (said 2 .ready))] (bound .playing)).cues.table.map BreakRecord.id).Nodup
    ∧ ¬(deciding .ready [peer 2 (some (said 2 .ready))] (bound .playing)).ros.presentCount
      < (deciding .ready [peer 2 (some (said 2 .ready))] (bound .playing)).ros.quorum.getD 0
    ∧ (¬∃ p ∈ (deciding .ready [peer 2 (some (said 2 .ready))] (bound .playing)).ros.peers,
      p.state = .present ∧ showsReady (brk .openState .ready) p = false)
    ∧ tagBound (deciding .ready [peer 2 (some (said 2 .ready))] (bound .playing)) (brk .openState .ready).tag = true := by
  decide

/-- At the lock instant of break 7. -/
def lockingHold : State :=
  clock 1090000000 (withAll { brk .decidedHold (.hold .self) with watch := some .waiting } Channel.reset 1 0)

def lockingGo : State := clock 1090000000 (withAll goBreak (bound .reserved) 2 0)

theorem witness_lock_hold : BreakTableLaw lockingHold
    ∧ dueRecord 7 .lock lockingHold = some { brk .decidedHold (.hold .self) with watch := some .waiting } :=
  ⟨⟨by decide, by decide, by decide, by decide⟩, by decide⟩

theorem witness_lock_go : BreakTableLaw lockingGo ∧ dueRecord 7 .lock lockingGo = some goBreak
    ∧ goBreak.state = .decidedGo ∧ goBreak.channel = some 0 ∧ lockingGo.chans.chan[0]? = some (bound .reserved)
    ∧ (bound .reserved).state = .reserved ∧ (bound .reserved).bound = some ⟨7, 1100000000, 1200000000⟩
    ∧ lockingGo.chans.lastPass = none ∧ lockingGo.chans.lastGap = none :=
  ⟨⟨by decide, by decide, by decide, by decide⟩, by decide⟩

/-- The watch of break 7 at its opening and at its close. -/
theorem witness_watch_open :
    dueRecord 7 .watchOpen (clock 1110000000 (withBreak { airing with watch := some .waiting } live))
      = some { airing with watch := some .waiting } := by decide

/-- A break of 2 s: its watch-open instant is its watch-close instant. -/
theorem witness_watch_short : (let r := { airing with cIn := 1120000000, watch := some .waiting }
    dueRecord 7 .watchOpen (clock 1110000000 (withBreak r live)) = some r ∧ r.cIn - 10000000 ≤ r.cOut + 10000000) := by
  decide

theorem witness_watch_close :
    dueRecord 7 .watchClose (clock 1190000000 (withBreak { airing with watch := some .watching } live))
      = some { airing with watch := some .watching } := by decide

theorem witness_held : BreakTableLaw lockingHold ∧ (∃ t, exec .latchClearRelease lockingHold = .next t
      ∧ ∃ r', t.record? 7 = some r')
    ∧ ∃ r, lockingHold.record? 7 = some r ∧ r.state.held = true :=
  ⟨witness_lock_hold.1, ⟨_, rfl, _, rfl⟩, _, rfl, rfl⟩

/-! ### Witnesses: the play -/

/-- The last listed position and the first position of the pad. -/
theorem witness_play : 258 < listedLength [⟨spot, 2, 3⟩] ∧ listedLength [⟨spot, 2, 3⟩] ≤ 259 := by decide

theorem witness_cursor : ([⟨spot, 2, 3⟩] : List PlayItem) ≠ []
    ∧ ∀ x ∈ ([⟨spot, 2, 3⟩] : List PlayItem) ++ (some (⟨spot, 1, 256⟩ : PlayItem)).toList,
      1 ≤ x.segCount ∧ 1 ≤ x.lastCells ∧ x.lastCells ≤ 256 := by decide

/-- A plan of channel 0 on frame 9, none of whose four cells has been substituted. -/
def plan : FramePlan :=
  ⟨9, 1, 0, 4, 0, Cursor.start [⟨spot, 1, 2⟩], 7, [⟨spot, 1, 2⟩], none⟩

def playing : State := withAll airing { bound .playing with plan := some plan } 2 1

theorem witness_substitution : takingChannel 9 (cellWith 1 1 3 []) playing = some (0, plan)
    ∧ playing.chans.chan[0]? = some { bound .playing with plan := some plan }
    ∧ plan.read.content plan.items plan.padItem = .spotCell spot 0 0 ∧ playing.store.read spot.id 0 0 = some [1]
    ∧ takingChannel 9 (cellWith 2 1 3 []) playing = none := by
  refine ⟨by decide, by decide, by decide, ?_, by decide⟩
  have m : playing.store.memory = [(0, ⟨[1], Config.slotCheck [1]⟩), (1, ⟨[2], Config.slotCheck [2]⟩)] := rfl
  have e : playing.store.entry? spot.id = some (spotEntry .verified 2 1) := by decide
  simp [SpotStore.read, e, spotEntry, SpotStore.slotAt, slotAddress, memRead, Slot.good, m]

/-- The same plan with its read cursor in FILL. -/
def fillPlan : FramePlan := { plan with read := { plan.read with index := .fill, left := 0 } }

theorem witness_fill :
    (let s := withAll airing { bound .padding with plan := some fillPlan } 2 1
    takingChannel 9 (cellWith 1 1 3 []) s = some (0, fillPlan) ∧ fillPlan.read.index = .fill
      ∧ s.chans.chan[0]? = some { bound .padding with plan := some fillPlan }) := by decide

/-- A cell of a segment that is not held reads bad, its entry not frozen and frozen. -/
theorem witness_bad_read : ∀ freeze ∈ [0, 1],
    (let s := { playing with store := { playing.store with
      directory := [{ spotEntry .verified 2 freeze with segs := [none] }] } }
    takingChannel 9 (cellWith 1 1 3 []) s = some (0, plan)
      ∧ plan.read.content plan.items plan.padItem = .spotCell spot 0 0 ∧ s.store.read spot.id 0 0 = none
      ∧ (freeze = 1 → ∀ e, s.store.entry? spot.id = some e → 0 < e.freeze)
      ∧ ∀ y ∈ s.cues.table, y.state ≠ .decidedGo) := by
  intro freeze h
  rcases List.mem_cons.1 h with rfl | h
  · exact ⟨by decide, by decide, rfl, by decide, by decide⟩
  · rw [List.mem_singleton] at h
    subst h
    refine ⟨by decide, by decide, rfl, fun _ e h => ?_, by decide⟩
    cases h
    decide

/-- Break 7 LOCKED_GO on channel 0, ARMED, and the pass of an emitted frame at C_out. -/
def locked : BreakRecord := { goBreak with state := .lockedGo, endAt := some 1220000000 }

def armed : State := withAll locked (bound .armed) 2 1

def firstPass : FramePass := ⟨9, 1100000000, [(1, 1), (2, 3)], .known, .emitted⟩

theorem witness_first_pass : armed.chans.chan[0]? = some (bound .armed) ∧ (bound .armed).state = .armed
    ∧ (bound .armed).bound = some ⟨7, 1100000000, 1200000000⟩ ∧ (bound .armed).tag = some 1
    ∧ armed.record? 7 = some locked ∧ locked.state = .lockedGo ∧ (1100000000 : Int) ≤ firstPass.c
    ∧ firstPass.c < (1200000000 : Int) ∧ firstPass.status = .known ∧ firstPass.disposition = .emitted
    ∧ (bound .armed).cursor = Cursor.start (bound .armed).items ∧ (bound .armed).items ≠ []
    ∧ firstPass.countOf 1 < (bound .armed).listedLength := by decide

/-- Channel 0 with break 7 in each of its states: the laws hold, and the removal instant lies ahead. -/
theorem channel_of_break {r : BreakRecord} {c : ChannelState} (h : r = locked ∧ c = .armed ∨ r = airing ∧ c = .playing
      ∨ r = airing ∧ c = .padding ∨ r = locked ∧ c = .reserved) : BreakTableLaw (withAll r (bound c) 2 1) ∧ ChannelLaw (withAll r (bound c) 2 1)
    ∧ (withAll r (bound c) 2 1).chans.chan[0]? = some (bound c) ∧ (withAll r (bound c) 2 1).record? 7 = some r
    ∧ (r.state = .lockedGo ∨ r.state = .airing) ∧ (withAll r (bound c) 2 1).tb.now < r.cIn + 20000000 := by
  rcases h with ⟨rfl, rfl⟩ | ⟨rfl, rfl⟩ | ⟨rfl, rfl⟩ | ⟨rfl, rfl⟩ <;>
    exact ⟨⟨by decide, by decide, by decide, by decide⟩, channelLaw_of rfl rfl (.inr (by decide)), by decide⟩

/-- Passes before C_out, at C_out, just before C_in and at C_in, with KNOWN and UNKNOWN counts. -/
def passAt (c : Time) (status : CountStatus) : FramePass := ⟨9, c, [(1, 2), (2, 3)], status, .emitted⟩

theorem witness_passes : (passAt 1099999999 .known).c < 1100000000 ∧ (1100000000 : Time) ≤ (passAt 1100000000 .known).c
    ∧ (passAt 1199999999 .unknown).c < 1200000000 ∧ (1200000000 : Time) ≤ (passAt 1200000000 .unknown).c
    ∧ (passAt 1199999999 .unknown).status ≠ .known
    ∧ (bound .playing).listedLength ≤ ((bound .playing).cursor.advance (bound .playing).items (bound .playing).padItem
      ((passAt 1100000000 .known).countOf 1)).position := by decide

/-! ### Witnesses: the zone line and the roster -/

/-- The site's zone line with the fields given. -/
def line (f : ZoneLine → ZoneLine) : State := { live with zone := f live.zone }

theorem witness_busy : live.zone.rxLevel ≠ true ∧ live.zone.receiver ≠ .off ∧ live.zone.guarding live.tb.now = false := by decide

theorem witness_level_kept : State.reset.zone.rxLevel ≠ true ∧ State.reset.zone.receiver = .off := by decide

/-- 2 bit times after the last transition, the line low. -/
theorem witness_line_idle : (line fun z => { z with busySince := some 999999920 }).zone.busySince = some 999999920
    ∧ (999999920 : Int) + (if (line fun z => { z with busySince := some 999999920 }).zone.rxLevel then 120 else 80)
      ≤ (line fun z => { z with busySince := some 999999920 }).tb.now
    ∧ (line fun z => { z with busySince := some 999999920 }).zone.receiver = .hunt := by decide

/-- The shortest opening mark, and the longest. -/
theorem witness_opening_mark : 60 ≤ 60 ∧ 100 ≤ 100 ∧ (line fun z => { z with rxLevel := true }).zone.receiver = .hunt
    ∧ (line fun z => { z with rxLevel := true }).zone.rxLevel = true
    ∧ (line fun z => { z with rxLevel := true }).zone.guarding live.tb.now = false := by decide

/-- A message in reception whose next bit is expected now. -/
def inMessage (echo : Bool) (bits : List Bool) : State :=
  line fun z => { z with receiver := .message ⟨999990000, echo, bits, 1000000000⟩ }

theorem witness_broken : (inMessage true []).zone.receiver = .message ⟨999990000, true, [], 1000000000⟩ := by decide

/-- R105: a transition at the expected middle, and one 10 TU after it, gives a bit; one 11 TU after it gives none. -/
theorem test_cell_middle : (Reception.transition ⟨0, false, [], 140⟩ 140 true).bits = [false]
    ∧ (Reception.transition ⟨0, false, [], 140⟩ 150 false) = ⟨0, false, [true], 190⟩
    ∧ (Reception.transition ⟨0, false, [], 140⟩ 151 false).bits = []
    ∧ Reception.missed ⟨0, false, [], 140⟩ 151 = true ∧ Reception.missed ⟨0, false, [], 140⟩ 150 = false := by decide

/-- An attempt in its guard, which began now less 2 bit times. -/
def flight (attempt : Attempt) (inGuard : Bool) (verdict : Option Bool) : InFlight :=
  ⟨.urgent, attempt, [0, 0x12, 0x34, 1, 0, 0, 0], 999999920, inGuard, verdict⟩

def inGuard (attempt : Attempt) : State :=
  line fun z => { z with line := .transmitting, flight := some (flight attempt true none), slot := some .periodic }

/-- A transition of the guard's last instant. -/
theorem witness_deferral (attempt : Attempt) : (inGuard attempt).zone.line = .transmitting
    ∧ (flight attempt true none).inGuard = true
    ∧ (inGuard attempt).tb.now = (flight attempt true none).guardAt + 80
    ∧ (inGuard attempt).zone.flight = some (flight attempt true none) ∧ (inGuard attempt).zone.rxLevel ≠ true
    ∧ (inGuard attempt).zone.receiver ≠ .off ∧ (flight attempt true none).attempt = attempt := by
  cases attempt <;> decide

/-- An attempt with its verdict, at the end of its transmission of 62 bit times. -/
def sent (attempt : Attempt) (verdict : Bool) : State :=
  clock 1000002400 (line fun z =>
    { z with line := .transmitting, flight := some (flight attempt false (some verdict)) })

theorem witness_attempt_end (attempt : Attempt) (verdict : Bool) : (sent attempt verdict).zone.line = .transmitting
    ∧ (sent attempt verdict).zone.flight = some (flight attempt false (some verdict))
    ∧ (flight attempt false (some verdict)).inGuard = false
    ∧ (flight attempt false (some verdict)).guardAt
        + (8 * ((flight attempt false (some verdict)).bytes.length : Int) + 6) * 40
      ≤ (sent attempt verdict).tb.now
    ∧ (flight attempt false (some verdict)).verdict = some verdict
    ∧ (flight attempt false (some verdict)).attempt = attempt := by
  cases attempt <;> cases verdict <;> decide

/-- The recovery gap of 16 bit times is over now. -/
def gapOver : State := line fun z => { z with slot := some .periodic, idleSince := some 999999360 }

theorem witness_attempt : gapOver.sc.config = .valid ∧ gapOver.sc.inUse = some site ∧ gapOver.zone.slot = some .periodic
    ∧ gapOver.zone.flight = none ∧ gapOver.zone.idleSince = some 999999360
    ∧ (999999360 : Int) + site.gap * 40 ≤ gapOver.tb.now := by decide

/-- The back-off wait of site 1, 96 bit times, is over now. -/
def waited : State := line fun z =>
  { z with line := .backoff, flight := some (flight .first false none).waiting, waitFrom := some 999996160 }

theorem witness_retry : waited.sc.config = .valid ∧ waited.sc.inUse = some site ∧ waited.zone.line = .backoff
    ∧ waited.zone.flight = some (flight .first false none).waiting ∧ waited.zone.waitFrom = some 999996160
    ∧ (999996160 : Int) + max (((site.site : Int) + 1) * 48) site.gap * 40 ≤ waited.tb.now := by decide

/-- The TU after the guard's last instant. -/
theorem witness_echo_open : (let s := clock 1000000001 (inGuard .first)
    s.sc.config = .valid ∧ s.sc.inUse = some site ∧ s.zone.line = .transmitting
      ∧ s.zone.flight = some (flight .first true none) ∧ (flight .first true none).inGuard = true
      ∧ (flight .first true none).guardAt + 80 < s.tb.now) := by
  decide

/-- The TU after the echo window's closing instant. -/
theorem witness_echo_close : (let s := line fun z => { z with echo := .opened 0 999999999 false }
    s.zone.echo = .opened 0 999999999 false ∧ (999999999 : Int) < s.tb.now ∧ s.zone.rxLevel = false) := by decide

/-- A due instant exactly one period back: the next one lies after now. -/
def due : State := line fun z => { z with schedule := some 997500000 }

theorem witness_periodic : due.sc.config = .valid ∧ due.sc.inUse = some site ∧ 0 < site.period
    ∧ due.zone.schedule = some 997500000 ∧ (997500000 : Int) ≤ due.tb.now := by decide

theorem witness_announcement : (said 2 .ready).entries.length ≤ 8 ∧ (said 2 .ready).site < 256
    ∧ (∀ e ∈ (said 2 .ready).entries, 1 ≤ e.id ∧ e.id ≤ 65535 ∧ e.version < 256)
    ∧ ((said 2 .ready).entries.map BreakEntry.id).Nodup := by decide

/-- A message in reception, marked as the echo or not. -/
def receiving (echo : Bool) : State :=
  { line (fun z => { z with receiver := .message ⟨999990000, echo, [], 1000000000⟩ }) with
    ros := { live.ros with peers := [peer 2 none, peer 3 none] } }

theorem intact {bytes : List Byte} (echo : Bool) (h : messageLengthOk bytes = true ∧ byteAt bytes 4 ≤ 8
      ∧ messageCheckOk bytes = true) :
    IntactMessage site bytes ⟨999990000, echo, [], 1000000000⟩ (receiving echo) :=
  ⟨h.1, h.2.1, h.2.2, rfl, rfl, rfl⟩

/-- The own number as the echo, and outside it: the duplicate. -/
theorem witness_own_number (echo : Bool) :
    IntactMessage site (said 1 .ready).bytes ⟨999990000, echo, [], 1000000000⟩ (receiving echo)
    ∧ announcementOf (said 1 .ready).bytes = some (said 1 .ready) ∧ (said 1 .ready).zoneCode = site.zoneCode
    ∧ (said 1 .ready).site = site.site ∧ (receiving echo).ros.duplicate = false :=
  ⟨intact echo (by decide +kernel), by decide +kernel, by decide, by decide, rfl⟩

/-- The own message in reception as the echo of an attempt that sent it, and of one that sent another; a message with an
entry count of 9, and one whose check fails. -/
def echoed (sent : List Byte) : State := { receiving true with zone := { (receiving true).zone with
  flight := some ⟨.urgent, .first, sent, 999980000, false, none⟩ } }

theorem witness_echo : (∀ sent, IntactMessage site (said 1 .ready).bytes ⟨999990000, true, [], 1000000000⟩ (echoed sent))
    ∧ (said 1 .ready).bytes ≠ (said 1 .go).bytes := by
  have h := intact (bytes := (said 1 .ready).bytes) true (by decide +kernel)
  exact ⟨fun _ => ⟨h.length, h.count, h.check, rfl, rfl, rfl⟩, by decide +kernel⟩

theorem witness_discarded_message : (let s := receiving true
    s.sc.config = .valid ∧ s.sc.inUse = some site ∧ s.zone.receiver = .message ⟨999990000, true, [], 1000000000⟩)
    ∧ messageLengthOk [1, 1, 1, 1, 9] = true ∧ 8 < byteAt [1, 1, 1, 1, 9] 4
    ∧ messageLengthOk [1, 1, 1, 1, 0, 0, 0] = true ∧ byteAt [1, 1, 1, 1, 0, 0, 0] 4 ≤ 8
    ∧ messageCheckOk [1, 1, 1, 1, 0, 0, 0] = false := by decide +kernel

theorem witness_stranger :
    IntactMessage site (said 9 .ready).bytes ⟨999990000, false, [], 1000000000⟩ (receiving false)
    ∧ announcementOf (said 9 .ready).bytes = some (said 9 .ready) ∧ (said 9 .ready).zoneCode = site.zoneCode
    ∧ (said 9 .ready).site ≠ site.site ∧ (said 9 .ready).site ∉ (receiving false).ros.roster :=
  ⟨intact false (by decide +kernel), by decide +kernel, by decide, by decide, by decide⟩

/-- An announcement of another zone, and one with the break id 0, which is not well formed. -/
def otherZone : Announcement := { said 2 .ready with zoneCode := 0x1235#16 }

def zeroEntry : Announcement := { said 2 .ready with entries := [⟨0, 1, .ready, 3#32⟩] }

theorem witness_other_zone :
    IntactMessage site otherZone.bytes ⟨999990000, false, [], 1000000000⟩ (receiving false)
    ∧ announcementOf otherZone.bytes = some otherZone ∧ otherZone.zoneCode ≠ site.zoneCode :=
  ⟨intact false (by decide +kernel), by decide +kernel, by decide⟩

theorem witness_malformed_message :
    IntactMessage site zeroEntry.bytes ⟨999990000, false, [], 1000000000⟩ (receiving false)
    ∧ announcementOf zeroEntry.bytes = none :=
  ⟨intact false (by decide +kernel), by decide +kernel⟩

theorem witness_peer_message :
    PeerMessage site (said 2 .ready).bytes (said 2 .ready) (peer 2 none) (receiving false) :=
  ⟨⟨_, intact false (by decide +kernel)⟩, by decide +kernel, by decide, by decide, by decide, by decide⟩

/-- The silence timer of peer 2 has run out. -/
def silent : State := clock 1200000000 (receiving false)

theorem witness_silent : silent.peer? 2 = some (peer 2 none) ∧ (peer 2 none).state = .present
    ∧ (peer 2 none).timer = some 1200000000 ∧ (1200000000 : Int) ≤ silent.tb.now := by decide

/-- The duplicate latch set, break 7 OPEN with the stance that gives. -/
def duplicated : State :=
  let s := withAll (brk .openState (.notReady .duplicate)) Channel.reset 1 0
  { s with ros := { s.ros with duplicate := true } }

theorem witness_duplicate : duplicated.ros.duplicate = true ∧ (announce site .urgent duplicated).entries ≠ []
    ∧ BreakTableLaw duplicated ∧ AgreementLaw duplicated
    ∧ (∃ t, exec .latchClearRelease duplicated = .next t ∧ t.cues.table ≠ [] ∧ t.ros.duplicate = true)
    ∧ Instr.latchClearRelease ≠ .powerOnReset :=
  ⟨rfl, by decide, ⟨by decide, by decide, by decide, by decide⟩, ⟨by decide, by decide, by decide⟩,
    ⟨_, rfl, by decide, rfl⟩, by decide⟩

/-! Announcements that bear on break 7. -/

/-- The message of peer 2 in reception, in the state given. -/
def hearing (s : State) : State := { s with
  zone := { s.zone with receiver := .message ⟨999990000, false, [], 1000000000⟩ }
  ros := { s.ros with peers := [peer 2 none, peer 3 none] } }

theorem hearing_message {s : State} {x : Stance} (h : messageLengthOk (said 2 x).bytes = true
      ∧ byteAt (said 2 x).bytes 4 ≤ 8 ∧ messageCheckOk (said 2 x).bytes = true
      ∧ announcementOf (said 2 x).bytes = some (said 2 x))
    (hs : s.sc.config = .valid ∧ s.sc.inUse = some site ∧ s.ros.roster = [1, 2, 3]) :
    PeerMessage site (said 2 x).bytes (said 2 x) (peer 2 none) (hearing s) :=
  ⟨⟨_, h.1, h.2.1, h.2.2.1, hs.1, hs.2.1, rfl⟩, h.2.2.2, rfl, by simp [said, site], by
    show 2 ∈ s.ros.roster
    simp [hs.2.2], rfl⟩

/-- HOLD heard of a DECIDED_GO and of a LOCKED_GO break. -/
theorem witness_heard_hold :
    PeerMessage site (said 2 (.hold .self)).bytes (said 2 (.hold .self)) (peer 2 none) (hearing goState)
    ∧ BreakTableLaw (hearing goState) ∧ ChannelLaw (hearing goState) ∧ (hearing goState).record? 7 = some goBreak
    ∧ (hearing goState).cues.table = goBreak :: []
    ∧ ∃ e, (said 2 (.hold .self)).entries.find? (fun e => e.id == goBreak.id) = some e ∧ e.check = goBreak.check
      ∧ e.stance = .hold .self :=
  ⟨hearing_message (by decide +kernel) (by decide), ⟨by decide, by decide, by decide, by decide⟩,
    channelLaw_of rfl rfl (.inr (by decide)), by decide, rfl, _, rfl, rfl, rfl⟩

theorem witness_late_hold :
    PeerMessage site (said 2 (.hold .self)).bytes (said 2 (.hold .self)) (peer 2 none) (hearing armed)
    ∧ BreakTableLaw (hearing armed) ∧ ChannelLaw (hearing armed) ∧ (hearing armed).cues.table = [locked]
    ∧ locked.state = .lockedGo ∧ 2 ∉ locked.lateReported ∧ locked.check = 3#32 :=
  ⟨hearing_message (by decide +kernel) (by decide), ⟨by decide, by decide, by decide, by decide⟩,
    channelLaw_of rfl rfl (.inr (by decide)), rfl, by decide⟩

/-- An AIRING break that a peer does not air, and one on HOLD that the peer airs, both WATCHING. -/
def watched : BreakRecord := { airing with watch := some .watching }

def watchedHold : BreakRecord := { lockedHold with watch := some .watching }

theorem witness_split :
    PeerMessage site (said 2 (.hold .self)).bytes (said 2 (.hold .self)) (peer 2 none)
      (hearing (withAll watched (bound .playing) 2 1))
    ∧ BreakTableLaw (hearing (withAll watched (bound .playing) 2 1))
    ∧ ChannelLaw (hearing (withAll watched (bound .playing) 2 1))
    ∧ (hearing (withAll watched (bound .playing) 2 1)).cues.table = [watched] ∧ watched.state = .airing
    ∧ watched.watch = some .watching ∧ 2 ∉ watched.splitReported :=
  ⟨hearing_message (by decide +kernel) (by decide), ⟨by decide, by decide, by decide, by decide⟩,
    channelLaw_of rfl rfl (.inr (by decide)), rfl, by decide⟩

theorem witness_split_hold :
    PeerMessage site (said 2 .airing).bytes (said 2 .airing) (peer 2 none)
      (hearing (withAll watchedHold Channel.reset 1 0))
    ∧ BreakTableLaw (hearing (withAll watchedHold Channel.reset 1 0))
    ∧ ChannelLaw (hearing (withAll watchedHold Channel.reset 1 0))
    ∧ (hearing (withAll watchedHold Channel.reset 1 0)).cues.table = [watchedHold] ∧ watchedHold.state = .lockedHold
    ∧ watchedHold.watch = some .watching ∧ 2 ∉ watchedHold.splitReported :=
  ⟨hearing_message (by decide +kernel) (by decide), ⟨by decide, by decide, by decide, by decide⟩,
    channelLaw_of rfl rfl (.inl (by decide)), rfl, by decide⟩

/-! ### Witnesses: site control and the monitor port -/

/-- After power-on, the RESTART line's first level not yet taken; and the read under way. -/
theorem witness_load : (settled.sc.restartTaken = false ∨ settled.sc.restartLine = true)
    ∧ settled.sc.restartSince + 100000 ≤ settled.osc
    ∧ settled.sc.config = .loading ∧ settled.sc.loader = .waiting := by decide

def reading : State := { State.reset with osc := 1000000, sc := { SiteControl.reset with loader := .reading 0 } }

/-- The CRC-32 register kept as a number that is worked out at every byte, so that the kernel takes the bytes one by
one. -/
def registerOf (r : Nat) : List Byte → Nat
  | [] => r
  | b :: rest =>
    match (crc32Byte (BitVec.ofNat 32 r) b).toNat with
    | 0 => registerOf 0 rest
    | n + 1 => registerOf (n + 1) rest

theorem registerOf_run (l : List Byte) (r : Nat) :
    crc32Run (BitVec.ofNat 32 r) l = BitVec.ofNat 32 (registerOf r l) := by
  induction l generalizing r with
  | nil => rfl
  | cons b rest ih =>
    have e : registerOf r (b :: rest) = registerOf (crc32Byte (BitVec.ofNat 32 r) b).toNat rest := by
      rw [registerOf]
      split <;> simp_all
    rw [e, ← ih]
    simp [crc32Run]

theorem crc32_of {l : List Byte} {n : Nat} (h : registerOf 0xFFFFFFFF l = n) : crc32 l = ~~~BitVec.ofNat 32 n := by
  rw [crc32, crc32Start, registerOf_run, h, crc32Result]

/-- A configuration record but for its check: the defaults of R182, site 1 of the roster 1, 2, 3, tags 10 and 11, two
routed tags. -/
def recordBody (format : Nat) (assetTag : Byte := 11) : List Byte :=
  numBytes 2 format ++ [0xFF, 0xFF, 1, 3, 0x12, 0x34, 0, 0x0E] ++ List.replicate 44 0 ++ [10, assetTag, 2, 1, 2]
    ++ List.replicate 14 0 ++ [0x0F]

/-- The record with its check. -/
def goodRecord : List Byte := recordBody 0x3C01 ++ numBytes 4 0x4A46CB4A

/-- A record of another format, its check good. -/
def otherFormat : List Byte := recordBody 0x3C02 ++ numBytes 4 0x89632919

theorem recordBody_crc : crc32 (recordBody 0x3C01) = 0x4A46CB4A#32 :=
  crc32_of (n := 0xFFFFFFFF - 0x4A46CB4A) (by decide +kernel)

theorem otherFormat_crc : crc32 (recordBody 0x3C02) = 0x89632919#32 :=
  crc32_of (n := 0xFFFFFFFF - 0x89632919) (by decide +kernel)

/-- The first 74 bytes of a record are its body. -/
theorem take_body (f n : Nat) (b : Byte := 11) : (recordBody f b ++ numBytes 4 n).take 74 = recordBody f b := by
  have h : (recordBody f b).length = 74 := by simp [recordBody, numBytes]
  rw [← h, List.take_left']
  rfl

theorem witness_bad_check : (recordBody 0x3C01 ++ numBytes 4 0).length = 78 ∧ reading.sc.loader = .reading 0
    ∧ crc32 ((recordBody 0x3C01 ++ numBytes 4 0).take 74)
      ≠ BitVec.ofNat 32 (numAt (recordBody 0x3C01 ++ numBytes 4 0) 74 4) := by
  refine ⟨by decide +kernel, rfl, ?_⟩
  rw [take_body, recordBody_crc]
  decide +kernel

theorem witness_bad_format : otherFormat.length = 78 ∧ reading.sc.loader = .reading 0
    ∧ crc32 (otherFormat.take 74) = BitVec.ofNat 32 (numAt otherFormat 74 4) ∧ numAt otherFormat 0 2 ≠ 0x3C01 := by
  refine ⟨by decide +kernel, rfl, ?_, by decide +kernel⟩
  rw [otherFormat, take_body, otherFormat_crc]
  decide +kernel

/-- A record of one tag for control and asset, its check good. -/
def oneTag : List Byte := recordBody 0x3C01 10 ++ numBytes 4 0x9DA44B12

theorem oneTag_crc : crc32 (recordBody 0x3C01 10) = 0x9DA44B12#32 :=
  crc32_of (n := 0xFFFFFFFF - 0x9DA44B12) (by decide +kernel)

theorem witness_tag_conflict : oneTag.length = 78 ∧ reading.sc.loader = .reading 0
    ∧ crc32 (oneTag.take 74) = BitVec.ofNat 32 (numAt oneTag 74 4) ∧ numAt oneTag 0 2 = 0x3C01
    ∧ (clampRecord oneTag).1.controlTag = (clampRecord oneTag).1.assetTag := by
  refine ⟨by decide +kernel, rfl, ?_, by decide +kernel, by decide +kernel⟩
  rw [oneTag, take_body (b := 10), oneTag_crc]
  decide +kernel

theorem witness_no_record (firstByte : Bool) : reading.sc.loader = .reading 0
    ∧ 0 + (if firstByte then 1000000 else 200000) ≤ reading.osc := by cases firstByte <;> decide

theorem witness_record : goodRecord.length = 78 ∧ reading.sc.loader = .reading 0
    ∧ crc32 (goodRecord.take 74) = BitVec.ofNat 32 (numAt goodRecord 74 4) ∧ numAt goodRecord 0 2 = 0x3C01
    ∧ (clampRecord goodRecord).1.controlTag ≠ (clampRecord goodRecord).1.assetTag := by
  refine ⟨by decide +kernel, rfl, ?_, by decide +kernel, by decide +kernel⟩
  rw [goodRecord, take_body, recordBody_crc]
  decide +kernel

/-- A read under way in the live site with another fitted set in use, reference A alone or B alone, in ACQUIRE or TRACK;
and U above the limit of the record in ON_AIR. -/
def refitting (a b : Bool) (d : Discipline) (r : Ref) : State := { live with
  tb := { live.tb with disc := d, selected := some r }
  sc := { live.sc with config := .loading, loader := .reading 0, inUse := some { site with fittedA := a, fittedB := b } } }

theorem witness_refit : (∀ a b, ∀ d ∈ [Discipline.track, .acquire], ∀ r ∈ [Ref.a, .b],
      (refitting a b d r).sc.loader = .reading 0 ∧ (refitting a b d r).fitted .a = a ∧ (refitting a b d r).fitted .b = b
        ∧ ((refitting a b d r).tb.ref r).valid = true ∧ (refitting a b d r).em.state ≠ .fault)
    ∧ (clampRecord goodRecord).1.fittedA = true ∧ (clampRecord goodRecord).1.fittedB = true := by
  exact ⟨by decide, by decide +kernel, by decide +kernel⟩

theorem witness_new_limit : (let s := { emitting .onAir (refitting true true .track .a) with
        tb := { live.tb with u := 5001, disc := .holdover } }
    s.sc.loader = .reading 0 ∧ s.em.state = .onAir ∧ s.em.causes.time = false)
    ∧ (clampRecord goodRecord).1.emissionLimit < 5001 := by
  exact ⟨by decide, by decide +kernel⟩

/-- A DECIDED_GO break, and a LOCKED_GO one on an ARMED channel. -/
theorem witness_override : goState.sc.overrideLine ≠ true ∧ goState.sc.overrideSince + 100000 ≤ goState.osc
    ∧ BreakTableLaw goState ∧ ChannelLaw goState ∧ goState.cues.table = [goBreak] :=
  ⟨by decide, by decide, goState_breaks, goState_channels, rfl⟩

theorem witness_override_armed : armed.sc.overrideLine ≠ true ∧ armed.sc.overrideSince + 100000 ≤ armed.osc
    ∧ BreakTableLaw armed ∧ ChannelLaw armed ∧ armed.chans.chan[0]? = some (bound .armed)
    ∧ (bound .armed).state.frozen = true ∧ (bound .armed).bound = some ⟨7, 1100000000, 1200000000⟩
    ∧ armed.record? 7 = some locked ∧ locked.state = .lockedGo ∧ armed.tb.now < locked.cIn + 20000000 :=
  ⟨by decide, by decide, ⟨by decide, by decide, by decide, by decide⟩, channelLaw_of rfl rfl (.inr (by decide)),
    by decide⟩

theorem witness_latch_clear : live.sc.latchClearLine = false ∧ live.sc.latchClearSince + 100000 ≤ live.osc
    ∧ (let s := updateControl (fun c => { c with latchClearLine := true }) live
      s.sc.latchClearLine = true ∧ s.sc.latchClearSince + 100000 ≤ s.osc) := by decide

theorem witness_alarm : State.reset.sc.inUse = none ∧ live.sc.inUse = some site := by decide

/-- The port sending a record that ends now, a full queue behind it. -/
def sending : State := { State.reset with
  osc := 10020000
  mon := { Monitor.reset with
    sending := some ⟨[1], 10020000⟩, queue := List.replicate 32 ⟨0, 0, .feedResume 9⟩ } }

theorem witness_sending :
    sending.mon.lastReport + 10020000 ≤ sending.osc ∧ sending.mon.sending = some ⟨[1], 10020000⟩
    ∧ 10020000 ≤ sending.osc ∧ sending.mon.queue.length = 32 := by decide

/-- The last TU of the only byte of a record: its stop bit; and an idle port. -/
theorem witness_monitor_bit : ([1] : List Byte)[0]? = some 1
    ∧ ({ sending with osc := 10019999 }).osc + 50 * ([1] : List Byte).length = 10020000 + (50 * 0 + 5 * 9 + 4) := by decide

theorem witness_idle_port : live.mon.sending = none ∧ live.mon.held = none ∧ live.mon.queue = [] := by decide

theorem witness_ill_formed : (Instr.labelRecord .a []).wellFormed = false
    ∧ (Instr.labelRecord .a labelBytes).wellFormed = true := by
  decide

/-! ### Operands of the wrong length are refused (WellFormed) -/

theorem test_short_configuration_record_refused :
    exec (.configReadComplete (List.replicate 77 0)) State.reset = .fault .illFormed := by
  simp [exec, execConfigReadComplete, Instr.wellFormed]

theorem test_short_label_refused : exec (.labelRecord .a [1, 2, 3, 4, 5]) State.reset = .fault .illFormed := by
  simp [exec, execLabelRecord, Instr.wellFormed]

theorem test_long_cell_refused : exec (.cellTaken (List.replicate 241 0)) State.reset = .fault .illFormed := by
  have h : (Instr.cellTaken (List.replicate 241 0)).wellFormed = false := by decide +kernel
  simp only [exec, execCellTaken, h, Bool.false_eq_true, if_false]

theorem test_short_message_refused : exec (.zoneMessage [0, 0, 0, 1, 1, 0, 0]) State.reset = .fault .illFormed := by
  simp [exec, execZoneMessage, Instr.wellFormed, messageLengthOk]

/-- A message ends at an entry count above 8 (R106). -/
theorem test_over_count_message_length : messageLengthOk [0, 0, 0, 1, 9] = true
    ∧ messageLengthOk [0, 0, 0, 1, 8] = false := by
  decide

theorem test_no_word_is_a_command : decodeTableWord 16 0 = none := rfl

/-! ### Values the manual works out itself -/

/-- "123456789" (R196). -/
def nineDigits : List Byte := (List.range 9).map fun i => BitVec.ofNat 8 (49 + i)

theorem test_crc32_of_nine_digits : crc32 nineDigits = 0xCBF43926#32 := by decide +kernel

theorem test_crc16_of_nine_digits : crc16 nineDigits = 0x29B1#16 := by decide +kernel

/-! ### Values worked out by hand from the rules -/

/-- Site time 1 TU before S returns to 0; in ACQUIRE, with label 0 to come. -/
def beforeWrap : State := { acquiring 0 3 with tb := { (acquiring 0 3).tb with
  now := 42949672959999999, announced := some 4294967295, refA := { goodRef with lastLabel := some 0 } } }

/-- S counts on from 4,294,967,295 to 0, and second 0 is announced (R1, R2). -/
theorem test_second_wraps : (let s := tick beforeWrap
    s.tb.now = 0 ∧ boundaryDue s = true ∧ (boundary s).tb.announced = some 0) := by decide

/-- A mark of label 0 that comes 11 TU before S returns to 0 steps forward by 11 TU, and second 0 is announced (R2, R9,
R16). -/
theorem test_step_wraps : (let s := clock 42949672959999989 beforeWrap
    let t := takeMark .a 0 s
    phaseError s.tb.now 0 = -11 ∧ t.tb.now = 0 ∧ t.tb.announced = some 0 ∧ t.tb.lastTaken = some 0
      ∧ t.tb.stepCount = 1) := by decide

/-- A missing mark at the first window after the wrap falls due (R6). -/
theorem test_missing_wraps : (let s := tick { beforeWrap with tb := { beforeWrap.tb with
      refA := { goodRef with windowClosed := 4294967295 } } }
    missingDue .a s = false ∧ missingDue .a (clock 10000 s) = true) := by decide

/-- The premise of the wrap's statement is met (TicksAccountForTheTrimAndTheSlew). -/
theorem witness_wrap : Config.timeWrap ≤ beforeWrap.tb.tick.now := by decide

/-- A schedule and a starve timer that stood past the largest site time fall due after S has returned to 0, when site
time reaches them (R1, R51, R115). -/
theorem test_held_times_wrap : (let s := tick { beforeWrap with
      zone := { beforeWrap.zone with schedule := some 42949672960000005 }
      em := { beforeWrap.em with starve := some 42949672960000001 } }
    s.zone.schedule = some 5 ∧ isDue s.tb.now s.em.starve = false ∧ isDue (clock 1 s).tb.now (clock 1 s).em.starve = true)
    := by decide

/-- A step out of HOLDOVER from second 60 to a label over 2^31 s ahead is forward and announces the label's second; the
step back from there is backward and announces none (R2, R16). -/
theorem test_long_steps : stepTarget 600000000 3950000000 = 39500000000000000
    ∧ stepTarget 39500000000000000 60 = 600000000
    ∧ (let s := clock 600000000 { beforeWrap with tb := { beforeWrap.tb with announced := some 60 } }
      let t := stepTime 3950000000 s
      boundaryDue t = true ∧ (boundary t).tb.announced = some 3950000000 ∧ boundaryDue (stepTime 60 (boundary t)) = false)
    := by decide

/-- A byte at the monitor port: start bit, least significant bit first, stop bit (R191). -/
theorem test_monitor_bits : monitorBits 0x53 = [false, true, true, false, false, true, false, true, false, true] := by
  decide

/-- A list of 612 cells that ends within a pass to position 817 makes its channel PADDING, reported at 612 (section
9.10). -/
theorem test_padding_position : (let c := { bound .playing with
      listedLength := 612, cursor := { (bound .playing).cursor with position := 817 } }
    let t := padReached 0 (withChannel c live)
    t.chans.chan[0]?.map Channel.state = some .padding
      ∧ t.mon.sending.map MonitorSend.bytes
        = some (EventRecord.bytes ⟨0, 1000000000, .channelState 0 7 .playing .padding 612⟩)) := by decide +kernel

/-- The bounds of the grades (R19). -/
theorem test_grade_bounds : [10, 11, 50, 51, 200, 201].map (fun u => gradeOf u .track) = [.a, .b, .b, .c, .c, .d]
    ∧ gradeOf 0 .acquire = .d := by decide

/-- A slew of 3 TU is made at ⌈j × 10,000,000 / 3⌉ (R17). -/
theorem test_slew_points : [1, 2, 3].map (slewPoint (-3)) = [3333334, 6666667, 10000000] := by decide

/-- A stamp of 1 s taken at 1,023 s is 2 s ahead, and one of 1,022 s at 1,025 s is 3 s behind (R38). -/
theorem test_stamp_wraps : resolveStamp 10230000000 1 0 = 10250000000
    ∧ resolveStamp 10250000000 1022 0 = 10220000000 := by
  decide

/-- Codes that agree where the mask selects match; an empty mask matches every site (section 5.6). -/
theorem test_zone_match : zoneMatch 0x1234#16 0x12FF#16 0xFF00#16 = true
    ∧ zoneMatch 0x1234#16 0x13FF#16 0xFF00#16 = false
    ∧ zoneMatch 0x1234#16 0xFFFF#16 0#16 = true := by decide

/-- Byte 0 of an announcement: URGENT, OVERRIDE, no DUPLICATE, MUTED, grade C (section 10.8.6). -/
theorem test_announcement_flags :
    (Announcement.bytes ⟨.urgent, true, false, .muted, .c, 0xABCD#16, 3, []⟩).take 5 = [0xD4, 0xAB, 0xCD, 3, 0] := by
  decide +kernel

/-- A message of 7 bytes takes 62 bit times of 40 TU (R103); its guard is low and its opening mark begins high. -/
theorem test_line_signal : signalTime (List.replicate 7 0) = 2480 ∧ lineLevelAt (List.replicate 7 0) 79 = some false
    ∧ lineLevelAt (List.replicate 7 0) 80 = some true
    ∧ lineLevelAt (List.replicate 7 0) 2480 = none := by decide +kernel

/-- The back-off waits of sites 0 and 15: 48 and 768 bit times (R114). -/
theorem test_backoff : backoffWait { site with site := 0 } = 1920 ∧ backoffWait { site with site := 15 } = 30720 := by
  decide

/-- A reference turns VALID at its fourth good mark and INVALID at its second bad one (R7). -/
theorem test_validity : (({ RefRecord.reset with goodRun := 3 }).judged .good).valid = true
    ∧ (({ goodRef with badRun := 1 }).judged .bad).valid = false ∧ (goodRef.judged .missing).valid = true := by decide

/-- A cue of a spot id with two digests is not well formed, nor one with id 0 (R85). -/
theorem test_spot_list : spotsConsistent [⟨5, 9#32⟩, ⟨5, 8#32⟩] = false ∧ spotsConsistent [⟨0, 9#32⟩] = false
    ∧ spotsConsistent [⟨5, 9#32⟩, ⟨5, 9#32⟩] = true := by decide

/-- The defaults that the mask asks for (R182), and the roster and the routing list of the record (R133, R183). -/
theorem test_defaults : (clampRecord goodRecord).1.lmin = 100000 ∧ (clampRecord goodRecord).1.lmax = 20000000
    ∧ (clampRecord goodRecord).1.interval = 800 ∧ (clampRecord goodRecord).1.quorum = 2
    ∧ (clampRecord goodRecord).1.roster = [1, 2, 3] ∧ (clampRecord goodRecord).1.routing = [1, 2]
    ∧ (clampRecord goodRecord).1.marginMs = 4000 ∧ (clampRecord goodRecord).2 = [] := by decide +kernel

/-- An event record opens with its type and ends with its CRC-16; FEED_RESUME
carries a frame number of 2 bytes, so that 4 + 2 + 8 + 1 + 2 + 2 bytes stand (R197). -/
theorem test_event_record_length : (EventRecord.bytes ⟨1, 0, .feedResume 9⟩).length = 19 := by decide +kernel

end Sys2Proof.Tests
end

section
/-! SUPPORT. What the operations of every block leave alone, beside the outer part of `Laws/Frames.lean`: the contents of
the spot store, site control but for its latches, and the zone line but for its waiting slot. -/

namespace Sys2Proof.Proofs

open Sys2Proof Sys2Proof.Machine Sys2Proof.Laws

/-! ### What is left alone -/

/-- Site control without its alarm latches. -/
def latchless (c : SiteControl) : SiteControl :=
  { c with latchAir := false, latchTime := false, latchSplit := false, latchFault := false }

/-- The zone line without its waiting slot and the count of its merges. -/
def slotless (z : ZoneLine) : ZoneLine := { z with slot := none, counters := { z.counters with merges := 0 } }

/-- The inner part of a state: what the store's slots hold, site control but for the latches, the TIME latch, the zone
line but for the waiting slot. -/
structure Inner where
  memory : List (Nat × Slot)
  control : SiteControl
  timeLatch : Bool
  zone : ZoneLine

def inner (s : State) : Inner := ⟨s.store.memory, latchless s.sc, s.sc.latchTime, slotless s.zone⟩

/-- The inner part with the break ids of the table. -/
def tabled (s : State) : Inner × List Nat := (inner s, s.breakIds)

/-- What the operations of the emission controller and of the time base leave alone, beside the time base and the zone
line. -/
structure Still where
  osc : Nat
  intake : Intake
  ros : PeerRoster
  choices : Nat
  pending : List Instr
  memory : List (Nat × Slot)
  control : SiteControl

def still (s : State) : Still :=
  ⟨s.osc, s.intake, s.ros, s.choices, s.pending, s.store.memory, latchless s.sc⟩

/-- What the operations of the emission controller leave alone. -/
def calm (s : State) : TimeBase × Still × ZoneLine × Bool := (s.tb, still s, slotless s.zone, s.sc.latchTime)

/-- What the commands leave alone that neither set site time nor take a level of a site line: the time base is kept
beside it. -/
structure Rest where
  osc : Nat
  choices : Nat
  pending : List Instr
  control : SiteControl

def rest (s : State) : Rest := ⟨s.osc, s.choices, s.pending, latchless s.sc⟩

/-- The time base with what the commands of the other blocks leave alone. -/
def frame (s : State) : TimeBase × Rest := (s.tb, rest s)

theorem inner_of_tabled {s t : State} (h : tabled s = tabled t) : inner s = inner t := congrArg Prod.fst h

theorem breakIds_of_tabled {s t : State} (h : tabled s = tabled t) : s.breakIds = t.breakIds := congrArg Prod.snd h

theorem memory_of_inner {s t : State} (h : inner s = inner t) : s.store.memory = t.store.memory :=
  congrArg Inner.memory h

theorem control_of_inner {s t : State} (h : inner s = inner t) : latchless s.sc = latchless t.sc :=
  congrArg Inner.control h

theorem calm_of_parts {s t : State} (ho : outer s = outer t) (hi : inner s = inner t) : calm s = calm t := by
  simp only [outer, Outer.mk.injEq] at ho
  obtain ⟨hosc, htb, hintake, -, hros, hchoices, hpending⟩ := ho
  simp only [calm, still, hosc, htb, hintake, hros, hchoices, hpending, memory_of_inner hi, control_of_inner hi]
  rw [show slotless s.zone = slotless t.zone from congrArg Inner.zone hi,
    show s.sc.latchTime = t.sc.latchTime from congrArg Inner.timeLatch hi]

theorem tb_of_calm {s t : State} (h : calm s = calm t) : s.tb = t.tb := congrArg Prod.fst h

theorem still_of_calm {s t : State} (h : calm s = calm t) : still s = still t := congrArg (fun p => p.2.1) h

theorem zone_of_calm {s t : State} (h : calm s = calm t) : slotless s.zone = slotless t.zone :=
  congrArg (fun p => p.2.2.1) h

theorem latchTime_of_calm {s t : State} (h : calm s = calm t) : s.sc.latchTime = t.sc.latchTime :=
  congrArg (fun p => p.2.2.2) h

theorem rest_of_still {s t : State} (h : still s = still t) : rest s = rest t := by
  simp only [still, Still.mk.injEq] at h
  obtain ⟨hosc, -, -, hchoices, hpending, -, hcontrol⟩ := h
  simp only [rest, hosc, hchoices, hpending, hcontrol]

theorem frame_of_calm {s t : State} (h : calm s = calm t) : frame s = frame t :=
  Prod.ext (tb_of_calm h) (rest_of_still (still_of_calm h))

theorem frame_of_parts {s t : State} (ho : outer s = outer t) (hi : inner s = inner t) : frame s = frame t :=
  frame_of_calm (calm_of_parts ho hi)

/-! ### Elementary updates -/

@[simp] theorem latchless_putLatch (c : SiteControl) (l : Latch) (v : Bool) :
    latchless (c.putLatch l v) = latchless c := by cases l <;> rfl

@[simp] theorem tabled_updateEntry (n : Nat) (f : Entry → Entry) (s : State) : tabled (updateEntry n f s) = tabled s := rfl
@[simp] theorem tabled_updateStoreCounters (f : StoreCounters → StoreCounters) (s : State) :
    tabled (updateStoreCounters f s) = tabled s := rfl
@[simp] theorem tabled_returnPages (l : List Nat) (s : State) : tabled (returnPages l s) = tabled s := rfl
@[simp] theorem tabled_setAssembler (a : Assembler) (s : State) : tabled (setAssembler a s) = tabled s := rfl
@[simp] theorem tabled_countCues (f : CueCounters → CueCounters) (s : State) : tabled (countCues f s) = tabled s := rfl
@[simp] theorem tabled_updateChan (k : Nat) (f : Channel → Channel) (s : State) : tabled (updateChan k f s) = tabled s :=
  rfl
@[simp] theorem tabled_countChan (k : Nat) (f : ChannelCounters → ChannelCounters) (s : State) :
    tabled (countChan k f s) = tabled s := rfl
@[simp] theorem tabled_dropPlans (s : State) : tabled (dropPlans s) = tabled s := rfl
@[simp] theorem tabled_chans (x : Channels) (s : State) : tabled { s with chans := x } = tabled s := rfl
@[simp] theorem tabled_countAgree (f : AgreementCounters → AgreementCounters) (s : State) :
    tabled (countAgree f s) = tabled s := rfl
@[simp] theorem tabled_raise (e : Event) (s : State) : tabled (raise e s) = tabled s := rfl

/-- A change of a record that keeps its break id keeps the break ids. -/
@[simp] theorem tabled_updateRecord (n : Nat) (f : BreakRecord → BreakRecord) (s : State) (hf : ∀ r, (f r).id = r.id) :
    tabled (updateRecord n f s) = tabled s :=
  Prod.ext rfl (map_updateWhere BreakRecord.id _ f hf s.cues.table)

/-! ### The latches and the waiting slot -/

@[simp] theorem latchTime_putLatch {l : Latch} (hl : l ≠ .time) (c : SiteControl) (v : Bool) :
    (c.putLatch l v).latchTime = c.latchTime := by cases l with
  | time => exact absurd rfl hl
  | air | split | fault => rfl

@[simp] theorem still_putLatch (l : Latch) (v : Bool) (s : State) : still (putLatch l v s) = still s := by
  unfold putLatch; split
  · rfl
  · simp [still]
@[simp] theorem still_setLatch (l : Latch) (s : State) : still (setLatch l s) = still s := still_putLatch l true s

/-- A latch other than TIME. -/
@[simp] theorem tabled_setLatch {l : Latch} (hl : l ≠ .time) (s : State) : tabled (setLatch l s) = tabled s := by
  unfold setLatch putLatch; split
  · rfl
  · simp [tabled, inner, State.breakIds, hl]
@[simp] theorem tabled_joinSlot (k : AnnouncementKind) (s : State) : tabled (joinSlot k s) = tabled s := by
  unfold joinSlot; split <;> rfl
@[simp] theorem tabled_urgent (s : State) : tabled (urgent s) = tabled s := by
  unfold urgent; split <;> simp

/-! ### The spot store -/

@[simp] theorem tabled_dropCapture (s : State) : tabled (dropCapture s) = tabled s := by
  unfold dropCapture; split <;> simp
@[simp] theorem tabled_endSegment (s : State) : tabled (endSegment s) = tabled s := by simp [endSegment]
@[simp] theorem tabled_protectSpot (x : Spot) (s : State) : tabled (protectSpot x s) = tabled s := by
  unfold protectSpot; split <;> simp
@[simp] theorem tabled_freezeSpot (x : Spot) (s : State) : tabled (freezeSpot x s) = tabled s := by
  unfold freezeSpot; split <;> simp

section Notify

variable {notify : State → State} (hn : ∀ s, tabled (notify s) = tabled s)
include hn

theorem tabled_makeMissing (src : Option DamageSource) (id : Nat) (l : List Nat) (s : State) :
    tabled (makeMissing notify src id l s) = tabled s := by
  unfold makeMissing; split
  · rfl
  · dsimp only; rw [hn]; cases src <;> rfl
theorem tabled_removeEntry (id : Nat) (s : State) : tabled (removeEntry notify id s) = tabled s := by
  unfold removeEntry; split
  · rfl
  · dsimp only; rw [hn]
    split
    · split
      · exact tabled_endSegment s
      · rfl
    · rfl
    · rfl
theorem tabled_tryExpire (id : Nat) (s : State) : tabled (tryExpire notify id s) = tabled s := by
  unfold tryExpire; split
  · rfl
  · split <;> simp [tabled_removeEntry hn]
theorem tabled_releaseSpot (x : Spot) (s : State) : tabled (releaseSpot notify x s) = tabled s := by
  unfold releaseSpot; split <;> simp [tabled_tryExpire hn]
theorem tabled_applyPending (src : Option DamageSource) (id : Nat) (s : State) :
    tabled (applyPending notify src id s) = tabled s := by
  unfold applyPending; split
  · rfl
  · split <;> simp [tabled_makeMissing hn]
theorem tabled_unfreezeSpot (x : Spot) (s : State) : tabled (unfreezeSpot notify x s) = tabled s := by
  unfold unfreezeSpot; split
  · rfl
  · dsimp only; split <;> simp [tabled_tryExpire hn, tabled_applyPending hn]
theorem tabled_startCheck (s : State) : tabled (startCheck notify s) = tabled s := by
  unfold startCheck; split
  · split
    · rfl
    · dsimp only; rw [hn]; rfl
  · rfl
theorem tabled_storeFailure (id k : Nat) (s : State) : tabled (storeFailure notify id k s) = tabled s := by
  unfold storeFailure; split
  · rfl
  · split
    · split <;> simp
    · simp [tabled_makeMissing hn]
theorem tabled_unbindChannel (k : Nat) (s : State) : tabled (unbindChannel notify k s) = tabled s := by
  unfold unbindChannel; split
  · rfl
  · simp only [tabled_raise]
    rw [forEach_keeps tabled _ (fun x s => tabled_releaseSpot hn x s)]
    have hstart : ∀ (n : Nat) (t : State),
        tabled (notify (updateRecord n (fun r => { r with channel := none }) t)) = tabled t :=
      fun n t => by simp [hn]
    split
    · rw [forEach_keeps tabled _ (fun x s => tabled_unfreezeSpot hn x s), hstart]; simp
    · rw [hstart]; simp

end Notify

/-! ### The agreement unit -/

@[simp] theorem tabled_reportStance (id : Nat) (o : Option Stance) (n : Stance) (s : State) :
    tabled (reportStance id o n s) = tabled s := by simp [reportStance]
@[simp] theorem tabled_setStance (id : Nat) (n : Stance) (s : State) : tabled (setStance id n s) = tabled s := by
  unfold setStance; split
  · rfl
  · split
    · rfl
    · simp
@[simp] theorem tabled_refreshRecord (id : Nat) (s : State) : tabled (refreshRecord id s) = tabled s := by
  unfold refreshRecord; split
  · rfl
  · split <;> simp
@[simp] theorem tabled_refreshOpen (s : State) : tabled (refreshOpen s) = tabled s :=
  forEach_keeps tabled _ (fun _ _ => by simp) _ _
@[simp] theorem tabled_moveState (id : Nat) (n : BreakState) (s : State) : tabled (moveState id n s) = tabled s := by
  unfold moveState; split
  · rfl
  · simp
@[simp] theorem tabled_holdRecord (id : Nat) (h : HoldReason) (s : State) : tabled (holdRecord id h s) = tabled s := by
  unfold holdRecord; split
  · rfl
  · dsimp only; rw [tabled_refreshOpen]
    have hmoved : tabled (updateRecord id (fun x => { x with stance := .hold h }) (moveState id .decidedHold s))
        = tabled s := by simp
    split <;> rw [tabled_countAgree, tabled_urgent, tabled_reportStance] <;> split <;>
      simp only [tabled_unbindChannel tabled_refreshOpen, hmoved]
@[simp] theorem tabled_reconcileBut (x n : Nat) (s : State) : tabled (reconcileBut x n s) = tabled s := by
  induction n generalizing s with
  | zero => simp [reconcileBut]
  | succ n ih => unfold reconcileBut; split <;> simp [ih]
@[simp] theorem tabled_refreshBut (x : Nat) (s : State) : tabled (refreshBut x s) = tabled s := by simp [refreshBut]
@[simp] theorem tabled_refresh (s : State) : tabled (refresh s) = tabled s := by simp [refresh]
@[simp] theorem tabled_unbind (k : Nat) (s : State) : tabled (unbind k s) = tabled s :=
  tabled_unbindChannel tabled_refresh k s
@[simp] theorem tabled_comparePeer (id : Nat) (p : Peer) (s : State) : tabled (comparePeer id p s) = tabled s := by
  unfold comparePeer; split
  · rfl
  · dsimp only; split
    · simp
    · rfl
@[simp] theorem tabled_compareAll (id : Nat) (s : State) : tabled (compareAll id s) = tabled s :=
  forEach_keeps tabled _ (fun _ _ => by simp) _ _
@[simp] theorem tabled_channelMove (id : Nat) (n : BreakState) (c : Option AbandonCause) (s : State) :
    tabled (channelMove id n c s) = tabled s := by
  unfold channelMove; split
  · rfl
  · split
    · dsimp only; split <;> simp
    · rfl
@[simp] theorem inner_removeRecord (id : Nat) (s : State) : (tabled (removeRecord id s)).1 = (tabled s).1 := by
  unfold removeRecord; split
  · rfl
  · have hcues : ∀ (x : CueDecoder) (t : State), (tabled { t with cues := x }).1 = (tabled t).1 := fun _ _ => rfl
    simp only [tabled_raise, tabled_refresh, tabled_urgent, hcues]
    rw [forEach_keeps tabled _ (fun x s => tabled_releaseSpot (tabled_refreshBut id) x s)]
    split <;> simp [tabled_unbindChannel (tabled_refreshBut id)]
@[simp] theorem inner_settleRemoval (id : Nat) (s : State) : (tabled (settleRemoval id s)).1 = (tabled s).1 := by
  unfold settleRemoval; split
  · rfl
  · split <;> simp

/-! ### The insertion channels -/

@[simp] theorem tabled_bindChannel (k : Nat) (r : BreakRecord) (s : State) : tabled (bindChannel k r s) = tabled s := by
  have hupdate : ∀ (n : Nat) (t : State), tabled (updateRecord n (fun x => { x with channel := some k }) t) = tabled t :=
    fun n t => by simp
  simp only [bindChannel, tabled_countChan, tabled_raise, hupdate]
  rw [forEach_keeps tabled _ (fun x s => tabled_protectSpot x s)]; simp
@[simp] theorem inner_giveUp (c : AbandonCause) (k : Nat) (s : State) : (tabled (giveUp c k s)).1 = (tabled s).1 := by
  unfold giveUp; split
  · rfl
  · cases c <;> simp
@[simp] theorem inner_endPlay (k : Nat) (s : State) : (tabled (endPlay k s)).1 = (tabled s).1 := by
  unfold endPlay; split <;> simp
@[simp] theorem inner_armChannel (k : Nat) (s : State) : (tabled (armChannel k s)).1 = (tabled s).1 := by
  unfold armChannel; split
  · rfl
  · split
    · rfl
    · dsimp only; split
      · simp [forEach_keeps tabled _ (fun x s => tabled_freezeSpot x s)]
      · split <;> simp [forEach_keeps tabled _ (fun x s => tabled_freezeSpot x s)]
@[simp] theorem tabled_setChannelState (k : Nat) (n : ChannelState) (position : Nat) (s : State) :
    tabled (setChannelState k n position s) = tabled s := by
  unfold setChannelState; split <;> simp
@[simp] theorem tabled_padReached (k : Nat) (s : State) : tabled (padReached k s) = tabled s := by
  unfold padReached; split
  · rfl
  · split <;> simp
@[simp] theorem tabled_planFrame (p : FramePass) (k : Nat) (s : State) : tabled (planFrame p k s) = tabled s := by
  unfold planFrame; split
  · rfl
  · simp
@[simp] theorem inner_channelPass (p : FramePass) (k : Nat) (s : State) :
    (tabled (channelPass p k s)).1 = (tabled s).1 := by
  unfold channelPass playPass armedPass; (repeat' split) <;> simp
@[simp] theorem inner_framePass (p : FramePass) (s : State) : (tabled (framePass p s)).1 = (tabled s).1 := by
  simp only [framePass, tabled_chans]
  rw [forEach_keeps (fun s => (tabled s).1) _ (fun x s => inner_channelPass p x s)]; split <;> simp
@[simp] theorem inner_channelGap (c : Time) (k : Nat) (s : State) : (tabled (channelGap c k s)).1 = (tabled s).1 := by
  unfold channelGap; (repeat' split) <;> simp
@[simp] theorem inner_frameGapToChannels (c : Time) (s : State) :
    (tabled (frameGapToChannels c s)).1 = (tabled s).1 := by
  unfold frameGapToChannels
  rw [forEach_keeps (fun s => (tabled s).1) _ (fun x s => inner_channelGap c x s)]; simp
@[simp] theorem inner_overrideChannels (s : State) : (tabled (overrideChannels s)).1 = (tabled s).1 := by
  refine forEach_keeps (fun s => (tabled s).1) _ (fun x s => ?_) _ _
  unfold channelOverride; (repeat' split) <;> simp
@[simp] theorem tabled_readFailed (k : Nat) (p : FramePlan) (id g : Nat) (s : State) :
    tabled (readFailed k p id g s) = tabled s := by
  unfold readFailed; dsimp only
  (repeat' split) <;> simp [tabled_storeFailure tabled_refresh]
@[simp] theorem tabled_substitutedCell (k : Nat) (p : FramePlan) (c : Cell) (s : State) :
    tabled (substitutedCell k p c s).2 = tabled s := by
  unfold substitutedCell; split
  · simp
  · dsimp only; split <;> split <;> simp
@[simp] theorem tabled_passChannels (n : Nat) (c : Cell) (s : State) : tabled (passChannels n c s).2 = tabled s := by
  unfold passChannels; split <;> simp

/-! ### The emission controller -/

@[simp] theorem calm_em (x : Emission) (s : State) : calm { s with em := x } = calm s := rfl
@[simp] theorem calm_updateFrame (n : Nat) (f : FrameRecord → FrameRecord) (s : State) :
    calm (updateFrame n f s) = calm s := rfl
@[simp] theorem calm_countEm (f : EmissionCounters → EmissionCounters) (s : State) : calm (countEm f s) = calm s := rfl
@[simp] theorem calm_leaveTable (n : Nat) (s : State) : calm (leaveTable n s) = calm s := rfl
@[simp] theorem calm_startTransfer (c : Cell) (b : Bool) (s : State) : calm (startTransfer c b s) = calm s := rfl
@[simp] theorem calm_advanceInstant (t : Time) (s : State) : calm (advanceInstant t s) = calm s := rfl
@[simp] theorem calm_makeCurrent (r : FrameRecord) (s : State) : calm (makeCurrent r s) = calm s := rfl
@[simp] theorem calm_raise (e : Event) (s : State) : calm (raise e s) = calm s := rfl
@[simp] theorem calm_urgent (s : State) : calm (urgent s) = calm s :=
  calm_of_parts (outer_urgent s) (inner_of_tabled (tabled_urgent s))
@[simp] theorem calm_setLatch {l : Latch} (hl : l ≠ .time) (s : State) : calm (setLatch l s) = calm s :=
  calm_of_parts (outer_setLatch l s) (inner_of_tabled (tabled_setLatch hl s))
@[simp] theorem calm_refresh (s : State) : calm (refresh s) = calm s :=
  calm_of_parts (outer_refresh s) (inner_of_tabled (tabled_refresh s))
@[simp] theorem calm_framePass (p : FramePass) (s : State) : calm (framePass p s) = calm s :=
  calm_of_parts (outer_framePass p s) (inner_framePass p s)
@[simp] theorem calm_passChannels (n : Nat) (c : Cell) (s : State) : calm (passChannels n c s).2 = calm s :=
  calm_of_parts (outer_passChannels n c s) (inner_of_tabled (tabled_passChannels n c s))

@[simp] theorem calm_checkHigh (s : State) : calm (checkHigh s) = calm s := by
  unfold checkHigh; dsimp only; split <;> simp
@[simp] theorem calm_checkLow (s : State) : calm (checkLow s) = calm s := by
  unfold checkLow; dsimp only; split <;> simp
@[simp] theorem calm_freeSlot (s : State) : calm (freeSlot s) = calm s := by simp [freeSlot]
@[simp] theorem calm_freeSlots (n : Nat) (s : State) : calm (freeSlots n s) = calm s :=
  iter_keeps calm freeSlot calm_freeSlot n s
@[simp] theorem calm_storeCell (c : Cell) (s : State) : calm (storeCell c s) = calm s := by simp [storeCell]
@[simp] theorem calm_giveBack (n : Nat) (s : State) : calm (giveBack n s) = calm s := by
  unfold giveBack; (repeat' split) <;> simp
@[simp] theorem calm_changeEmission (new : EmissionState) (s : State) : calm (changeEmission new s) = calm s := by
  simp [changeEmission]
@[simp] theorem calm_passCurrent (s : State) : calm (passCurrent s) = calm s := by
  unfold passCurrent; split <;> simp
@[simp] theorem calm_enterMuted (s : State) : calm (enterMuted s) = calm s := by simp [enterMuted]
@[simp] theorem calm_addCause (c : MuteCause) (s : State) : calm (addCause c s) = calm s := by
  unfold addCause; split
  · rfl
  · dsimp only; split <;> simp
@[simp] theorem calm_removeCause (c : MuteCause) (s : State) : calm (removeCause c s) = calm s := by
  unfold removeCause; split <;> simp
@[simp] theorem calm_compareU (s : State) : calm (compareU s) = calm s := by
  unfold compareU; split <;> simp
@[simp] theorem calm_discardPassed (s : State) : calm (discardPassed s) = calm s := by
  unfold discardPassed; split
  · dsimp only; split <;> simp
  · rfl
@[simp] theorem calm_releaseCauses (s : State) : calm (releaseCauses s) = calm s := by
  unfold releaseCauses; dsimp only; (repeat' split) <;> simp
@[simp] theorem calm_decideEmission (s : State) : calm (decideEmission s) = calm s := by
  unfold decideEmission; (repeat' split) <;> simp
@[simp] theorem calm_handPass (r : FrameRecord) (d : Disposition) (s : State) : calm (handPass r d s) = calm s := by
  simp [handPass]
@[simp] theorem calm_passDiscarded (r : FrameRecord) (c : DiscardCause) (s : State) :
    calm (passDiscarded r c s) = calm s := by simp [passDiscarded]
@[simp] theorem calm_runPasses (n : Nat) (s : State) : calm (runPasses n s) = calm s := by
  induction n generalizing s with
  | zero => rfl
  | succ n ih => unfold runPasses; (repeat' split) <;> simp [ih]
@[simp] theorem calm_judgePassPoint (s : State) : calm (judgePassPoint s) = calm s := by simp [judgePassPoint]
@[simp] theorem calm_endEmission (n : Nat) (s : State) : calm (endEmission n s) = calm s := rfl
@[simp] theorem calm_endIfDone (s : State) : calm (endIfDone s) = calm s := by
  unfold endIfDone; (repeat' split) <;> simp
@[simp] theorem calm_cutCells (n : Nat) (r : FrameRecord) (s : State) : calm (cutCells n r s) = calm s := by
  simp [cutCells]
@[simp] theorem calm_cutHeld (s : State) : calm (cutHeld s) = calm s := by
  unfold cutHeld; (repeat' split) <;> simp
@[simp] theorem calm_cutCurrent (s : State) : calm (cutCurrent s) = calm s := by
  unfold cutCurrent; (repeat' split) <;> simp
@[simp] theorem calm_passOver (t : Time) (s : State) : calm (passOver t s) = calm s := by
  unfold passOver; split
  · rfl
  · dsimp only; (repeat' split) <;> simp
@[simp] theorem calm_stepPacing (old new : Time) (s : State) : calm (stepPacing old new s) = calm s := by
  unfold stepPacing; split <;> simp
@[simp] theorem calm_outputFiller (s : State) : calm (outputFiller s) = calm s := by
  unfold outputFiller; split <;> simp
@[simp] theorem calm_emitCell (r : FrameRecord) (s : State) : calm (emitCell r s) = calm s := by simp [emitCell]
@[simp] theorem calm_consumeCell (r : FrameRecord) (s : State) : calm (consumeCell r s) = calm s := by simp [consumeCell]
@[simp] theorem calm_loadStarve (q : Time) (s : State) : calm (loadStarve q s) = calm s := by
  unfold loadStarve; split <;> simp
@[simp] theorem calm_markReleased (n : Nat) (s : State) : calm (markReleased n s) = calm s := by
  unfold markReleased; split <;> simp
@[simp] theorem calm_passReleased (n : Nat) (s : State) : calm (passReleased n s) = calm s := by
  unfold passReleased; split <;> simp
@[simp] theorem calm_paceReleased (r : FrameRecord) (s : State) : calm (paceReleased r s) = calm s := by
  unfold paceReleased; (repeat' split) <;> simp
@[simp] theorem calm_releaseFrame (r : FrameRecord) (s : State) : calm (releaseFrame r s) = calm s := by
  simp [releaseFrame]
@[simp] theorem calm_paceCell (t : Time) (r : FrameRecord) (s : State) : calm (paceCell t r s) = calm s := by
  unfold paceCell; (repeat' split) <;> simp

end Sys2Proof.Proofs
end

section
/-! SUPPORT. What each command leaves alone. -/

namespace Sys2Proof.Proofs

open Sys2Proof Sys2Proof.Machine Sys2Proof.Laws

/-! ### Elementary updates -/

@[simp] theorem frame_store (x : SpotStore) (s : State) : frame { s with store := x } = frame s := rfl
@[simp] theorem frame_em (x : Emission) (s : State) : frame { s with em := x } = frame s := rfl
@[simp] theorem frame_intake (x : Intake) (s : State) : frame { s with intake := x } = frame s := rfl
@[simp] theorem frame_cues (x : CueDecoder) (s : State) : frame { s with cues := x } = frame s := rfl
@[simp] theorem frame_mon (x : Monitor) (s : State) : frame { s with mon := x } = frame s := rfl
@[simp] theorem frame_updateFrame (n : Nat) (f : FrameRecord → FrameRecord) (s : State) :
    frame (updateFrame n f s) = frame s := rfl
@[simp] theorem frame_countEm (f : EmissionCounters → EmissionCounters) (s : State) : frame (countEm f s) = frame s := rfl
@[simp] theorem frame_countIntake (f : IntakeCounters → IntakeCounters) (s : State) :
    frame (countIntake f s) = frame s := rfl
@[simp] theorem frame_setAssembly (a : Option Assembly) (s : State) : frame (setAssembly a s) = frame s := rfl
@[simp] theorem frame_setReception (n : Option Nat) (s : State) : frame (setReception n s) = frame s := rfl
@[simp] theorem frame_dropExpectations (s : State) : frame (dropExpectations s) = frame s := rfl
@[simp] theorem frame_trackContinuity (c : Cell) (s : State) : frame (trackContinuity c s) = frame s := rfl
@[simp] theorem frame_joinTable (r : FrameRecord) (s : State) : frame (joinTable r s) = frame s := rfl
@[simp] theorem frame_updateEntry (n : Nat) (f : Entry → Entry) (s : State) : frame (updateEntry n f s) = frame s := rfl
@[simp] theorem frame_updateStoreCounters (f : StoreCounters → StoreCounters) (s : State) :
    frame (updateStoreCounters f s) = frame s := rfl
@[simp] theorem frame_returnPages (l : List Nat) (s : State) : frame (returnPages l s) = frame s := rfl
@[simp] theorem frame_setAssembler (a : Assembler) (s : State) : frame (setAssembler a s) = frame s := rfl
@[simp] theorem frame_writeSlot (n : Nat) (b : List Byte) (s : State) : frame (writeSlot n b s) = frame s := rfl
@[simp] theorem frame_updateRecord (n : Nat) (f : BreakRecord → BreakRecord) (s : State) :
    frame (updateRecord n f s) = frame s := rfl
@[simp] theorem frame_countCues (f : CueCounters → CueCounters) (s : State) : frame (countCues f s) = frame s := rfl
@[simp] theorem frame_countAgree (f : AgreementCounters → AgreementCounters) (s : State) :
    frame (countAgree f s) = frame s := rfl
@[simp] theorem frame_updateZone (f : ZoneLine → ZoneLine) (s : State) : frame (updateZone f s) = frame s := rfl
@[simp] theorem frame_countZone (f : LineCounters → LineCounters) (s : State) : frame (countZone f s) = frame s := rfl
@[simp] theorem frame_updateRoster (f : PeerRoster → PeerRoster) (s : State) : frame (updateRoster f s) = frame s := rfl
@[simp] theorem frame_updatePeer (n : Nat) (f : Peer → Peer) (s : State) : frame (updatePeer n f s) = frame s := rfl
@[simp] theorem frame_raise (e : Event) (s : State) : frame (raise e s) = frame s := rfl
@[simp] theorem frame_formReport (s : State) : frame (formReport s) = frame s := rfl
@[simp] theorem frame_countDiscard (c : DiscardCause) (s : State) : frame (countDiscard c s) = frame s := rfl
@[simp] theorem frame_reportDiscard (n : Nat) (c : DiscardCause) (s : State) : frame (reportDiscard n c s) = frame s :=
  rfl

/-! ### Operations whose parts are kept -/

theorem frame_of_tabled {s t : State} (ho : outer s = outer t) (hi : tabled s = tabled t) : frame s = frame t :=
  frame_of_parts ho (inner_of_tabled hi)

@[simp] theorem frame_joinSlot (k : AnnouncementKind) (s : State) : frame (joinSlot k s) = frame s :=
  frame_of_tabled (outer_joinSlot k s) (tabled_joinSlot k s)
@[simp] theorem frame_putLatch (l : Latch) (v : Bool) (s : State) : frame (putLatch l v s) = frame s :=
  Prod.ext (congrArg Outer.tb (outer_putLatch l v s)) (rest_of_still (still_putLatch l v s))
@[simp] theorem frame_setLatch (l : Latch) (s : State) : frame (setLatch l s) = frame s := frame_putLatch l true s
@[simp] theorem frame_urgent (s : State) : frame (urgent s) = frame s := frame_of_calm (calm_urgent s)
@[simp] theorem frame_refresh (s : State) : frame (refresh s) = frame s := frame_of_calm (calm_refresh s)
@[simp] theorem frame_refreshRecord (id : Nat) (s : State) : frame (refreshRecord id s) = frame s :=
  frame_of_tabled (outer_refreshRecord id s) (tabled_refreshRecord id s)
@[simp] theorem frame_reportStance (id : Nat) (o : Option Stance) (n : Stance) (s : State) :
    frame (reportStance id o n s) = frame s := rfl
@[simp] theorem frame_moveState (id : Nat) (n : BreakState) (s : State) : frame (moveState id n s) = frame s :=
  frame_of_tabled (outer_moveState id n s) (tabled_moveState id n s)
@[simp] theorem frame_holdRecord (id : Nat) (h : HoldReason) (s : State) : frame (holdRecord id h s) = frame s :=
  frame_of_tabled (outer_holdRecord id h s) (tabled_holdRecord id h s)
@[simp] theorem frame_comparePeer (id : Nat) (p : Peer) (s : State) : frame (comparePeer id p s) = frame s :=
  frame_of_tabled (outer_comparePeer id p s) (tabled_comparePeer id p s)
@[simp] theorem frame_compareAll (id : Nat) (s : State) : frame (compareAll id s) = frame s :=
  frame_of_tabled (outer_compareAll id s) (tabled_compareAll id s)
@[simp] theorem frame_channelMove (id : Nat) (n : BreakState) (c : Option AbandonCause) (s : State) :
    frame (channelMove id n c s) = frame s :=
  frame_of_tabled (outer_channelMove id n c s) (tabled_channelMove id n c s)
@[simp] theorem frame_removeRecord (id : Nat) (s : State) : frame (removeRecord id s) = frame s :=
  frame_of_parts (outer_removeRecord id s) (inner_removeRecord id s)
@[simp] theorem frame_settleRemoval (id : Nat) (s : State) : frame (settleRemoval id s) = frame s :=
  frame_of_parts (outer_settleRemoval id s) (inner_settleRemoval id s)
@[simp] theorem frame_bindChannel (k : Nat) (r : BreakRecord) (s : State) : frame (bindChannel k r s) = frame s :=
  frame_of_tabled (outer_bindChannel k r s) (tabled_bindChannel k r s)
@[simp] theorem frame_endPlay (k : Nat) (s : State) : frame (endPlay k s) = frame s :=
  frame_of_parts (outer_endPlay k s) (inner_endPlay k s)
@[simp] theorem frame_armChannel (k : Nat) (s : State) : frame (armChannel k s) = frame s :=
  frame_of_parts (outer_armChannel k s) (inner_armChannel k s)
@[simp] theorem frame_frameGapToChannels (c : Time) (s : State) : frame (frameGapToChannels c s) = frame s :=
  frame_of_parts (outer_frameGapToChannels c s) (inner_frameGapToChannels c s)
@[simp] theorem frame_overrideChannels (s : State) : frame (overrideChannels s) = frame s :=
  frame_of_parts (outer_overrideChannels s) (inner_overrideChannels s)
@[simp] theorem frame_protectSpot (x : Spot) (s : State) : frame (protectSpot x s) = frame s :=
  frame_of_tabled (outer_protectSpot x s) (tabled_protectSpot x s)
@[simp] theorem frame_endSegment (s : State) : frame (endSegment s) = frame s :=
  frame_of_tabled (outer_endSegment s) (tabled_endSegment s)
@[simp] theorem frame_removeEntry (id : Nat) (s : State) : frame (removeEntry refresh id s) = frame s :=
  frame_of_tabled (outer_removeEntry outer_refresh id s) (tabled_removeEntry tabled_refresh id s)
@[simp] theorem frame_tryExpire (id : Nat) (s : State) : frame (tryExpire refresh id s) = frame s :=
  frame_of_tabled (outer_tryExpire outer_refresh id s) (tabled_tryExpire tabled_refresh id s)
@[simp] theorem frame_releaseSpot (x : Spot) (s : State) : frame (releaseSpot refresh x s) = frame s :=
  frame_of_tabled (outer_releaseSpot outer_refresh x s) (tabled_releaseSpot tabled_refresh x s)
@[simp] theorem frame_applyPending (d : Option DamageSource) (id : Nat) (s : State) :
    frame (applyPending refresh d id s) = frame s :=
  frame_of_tabled (outer_applyPending outer_refresh d id s) (tabled_applyPending tabled_refresh d id s)
@[simp] theorem frame_makeMissing (d : Option DamageSource) (id : Nat) (l : List Nat) (s : State) :
    frame (makeMissing refresh d id l s) = frame s :=
  frame_of_tabled (outer_makeMissing outer_refresh d id l s) (tabled_makeMissing tabled_refresh d id l s)
@[simp] theorem frame_startCheck (s : State) : frame (startCheck refresh s) = frame s :=
  frame_of_tabled (outer_startCheck outer_refresh s) (tabled_startCheck tabled_refresh s)
@[simp] theorem frame_storeCell (c : Cell) (s : State) : frame (storeCell c s) = frame s :=
  frame_of_calm (calm_storeCell c s)
@[simp] theorem frame_giveBack (n : Nat) (s : State) : frame (giveBack n s) = frame s := frame_of_calm (calm_giveBack n s)
@[simp] theorem frame_cutHeld (s : State) : frame (cutHeld s) = frame s := frame_of_calm (calm_cutHeld s)
@[simp] theorem frame_judgePassPoint (s : State) : frame (judgePassPoint s) = frame s :=
  frame_of_calm (calm_judgePassPoint s)
@[simp] theorem frame_changeEmission (new : EmissionState) (s : State) : frame (changeEmission new s) = frame s :=
  frame_of_calm (calm_changeEmission new s)
@[simp] theorem frame_addCause (c : MuteCause) (s : State) : frame (addCause c s) = frame s :=
  frame_of_calm (calm_addCause c s)
@[simp] theorem frame_removeCause (c : MuteCause) (s : State) : frame (removeCause c s) = frame s :=
  frame_of_calm (calm_removeCause c s)
@[simp] theorem frame_releaseFrame (r : FrameRecord) (s : State) : frame (releaseFrame r s) = frame s :=
  frame_of_calm (calm_releaseFrame r s)
@[simp] theorem frame_advanceInstant (t : Time) (s : State) : frame (advanceInstant t s) = frame s := rfl
@[simp] theorem frame_paceCell (t : Time) (r : FrameRecord) (s : State) : frame (paceCell t r s) = frame s :=
  frame_of_calm (calm_paceCell t r s)
@[simp] theorem frame_outputFiller (s : State) : frame (outputFiller s) = frame s := frame_of_calm (calm_outputFiller s)

/-! ### Feed intake -/

@[simp] theorem frame_discardAssembling (n : Nat) (c : DiscardCause) (s : State) :
    frame (discardAssembling n c s) = frame s := by simp [discardAssembling]
@[simp] theorem frame_endShort (s : State) : frame (endShort s) = frame s := by
  unfold endShort shortRecord; (repeat' split) <;> simp
@[simp] theorem frame_checkNumbering (r : FrameRecord) (s : State) : frame (checkNumbering r s) = frame s := by
  unfold checkNumbering; dsimp only; (repeat' split) <;> simp
@[simp] theorem frame_handCompletion (n : Nat) (s : State) : frame (handCompletion n s) = frame s := by
  unfold handCompletion; (repeat' split) <;> simp
@[simp] theorem frame_completeFrame (r : Option Nat) (s : State) : frame (completeFrame r s) = frame s := by
  unfold completeFrame; dsimp only; (repeat' split) <;> simp
@[simp] theorem frame_storeFrameCell (n : Nat) (c : Cell) (s : State) : frame (storeFrameCell n c s) = frame s := by
  unfold storeFrameCell; (repeat' split) <;> simp
@[simp] theorem frame_placeCell (k : CellSort) (c : Cell) (a : Assembly) (s : State) :
    frame (placeCell k c a s) = frame s := by
  unfold placeCell; dsimp only; (repeat' split) <;> simp
@[simp] theorem frame_takeFrameHead (c : SiteConfig) (h : FrameHead) (cell : Cell) (s : State) :
    frame (takeFrameHead c h cell s) = frame s := by
  unfold takeFrameHead; dsimp only; split <;> simp
@[simp] theorem frame_malformedHead (s : State) : frame (malformedHead s) = frame s := by simp [malformedHead]

/-! ### The spot store -/

@[simp] theorem frame_skipHead (h : SegmentHead) (s : State) : frame (skipHead h s) = frame s := rfl
@[simp] theorem frame_captureHead (h : SegmentHead) (s : State) : frame (captureHead h s) = frame s := by
  unfold captureHead; split <;> simp
@[simp] theorem frame_takeHead (h : SegmentHead) (s : State) : frame (takeHead h s) = frame s := by
  unfold takeHead; dsimp only; (repeat' split) <;> simp
@[simp] theorem frame_createEntry (h : SegmentHead) (s : State) : frame (createEntry h s) = frame s := by
  unfold createEntry; split <;> simp
@[simp] theorem frame_directoryHead (h : SegmentHead) (s : State) : frame (directoryHead h s) = frame s := by
  unfold directoryHead newVersion; (repeat' split) <;> simp
@[simp] theorem frame_segmentHead (c : SiteConfig) (b : List Byte) (s : State) :
    frame (segmentHead c b s) = frame s := by
  unfold segmentHead; dsimp only; (repeat' split) <;> simp
@[simp] theorem frame_holdSegment (g : SegmentInFlight) (page : Nat) (s : State) :
    frame (holdSegment g page s) = frame s := by
  unfold holdSegment; dsimp only; (repeat' split) <;> simp
@[simp] theorem frame_completeSegment (g : SegmentInFlight) (page : Nat) (running check : Word32) (s : State) :
    frame (completeSegment g page running check s) = frame s := by
  unfold completeSegment; dsimp only; split <;> simp
@[simp] theorem frame_segmentBody (b : List Byte) (continuous : Bool) (s : State) :
    frame (segmentBody b continuous s) = frame s := by
  unfold segmentBody; dsimp only; (repeat' split) <;> simp
@[simp] theorem frame_finishCheck (c : CheckInFlight) (s : State) : frame (finishCheck c s) = frame s := by
  unfold finishCheck judgeCheck; dsimp only; (repeat' split) <;> simp
@[simp] theorem frame_restartStore (s : State) : frame (restartStore s) = frame s := by
  have habort : frame (abortCheck (endSegment s)) = frame s := by
    unfold abortCheck; dsimp only; (repeat' split) <;> simp
  have hdrop : ∀ t, frame (dropHolds t) = frame t := fun _ => rfl
  unfold restartStore; dsimp only
  rw [frame_startCheck, frame_store, forEach_keeps frame _ frame_removeEntry, forEach_keeps frame _ frame_removeEntry,
    forEach_keeps frame _ (frame_applyPending none), hdrop, habort]

/-! ### The cue decoder and the break table -/

@[simp] theorem frame_refuseCue (id version : Nat) (c : RefusalCause) (s : State) :
    frame (refuseCue id version c s) = frame s := rfl
@[simp] theorem frame_acceptBreak (c : SiteConfig) (b : BreakCue) (cOut cIn : Time) (s : State) :
    frame (acceptBreak c b cOut cIn s) = frame s := by
  simp only [acceptBreak, frame_countCues, frame_raise, frame_reportStance, frame_urgent]
  rw [forEach_keeps frame _ frame_protectSpot, frame_cues]
@[simp] theorem frame_updateBreak (c : SiteConfig) (b : BreakCue) (cOut cIn : Time) (old : BreakRecord) (s : State) :
    frame (updateBreak c b cOut cIn old s) = frame s := by
  simp only [updateBreak, frame_countCues, frame_raise, frame_refreshRecord]
  rw [forEach_keeps frame _ frame_releaseSpot, forEach_keeps frame _ frame_protectSpot, frame_updateRecord]
@[simp] theorem frame_judgeCandidate (c : SiteConfig) (b : BreakCue) (t : Time) (s : State) :
    frame (judgeCandidate c b t s) = frame s := by
  unfold judgeCandidate; dsimp only; (repeat' split) <;> simp
@[simp] theorem frame_takeAction (c : SiteConfig) (a : CueAction) (t : Time) (s : State) :
    frame (takeAction c a t s) = frame s := by
  unfold takeAction takeBreak takeCancel; dsimp only; (repeat' split) <;> simp
@[simp] theorem frame_cueTaken (c : SiteConfig) (b : List Byte) (t : Time) (s : State) :
    frame (cueTaken c b t s) = frame s := by
  unfold cueTaken; dsimp only; (repeat' split) <;> simp
@[simp] theorem frame_decideHold (r : BreakRecord) (h : HoldReason) (p : Option Nat) (s : State) :
    frame (decideHold r h p s) = frame s := by
  simp only [decideHold, countHold, reportDecision, moveDecided]; split <;> simp
@[simp] theorem frame_decideGo (r : BreakRecord) (k : Nat) (s : State) : frame (decideGo r k s) = frame s := by
  simp [decideGo, reportDecision, moveDecided]
@[simp] theorem frame_decideRecord (r : BreakRecord) (s : State) : frame (decideRecord r s) = frame s := by
  unfold decideRecord; split <;> simp
@[simp] theorem frame_lockGo (r : BreakRecord) (s : State) : frame (lockGo r s) = frame s := by
  unfold lockGo; dsimp only; split <;> simp
@[simp] theorem frame_lockHold (r : BreakRecord) (s : State) : frame (lockHold r s) = frame s := by simp [lockHold]

/-! ### Good cells -/

@[simp] theorem frame_bodyCell (c : SiteConfig) (cell : Cell) (continuous : Bool) (s : State) :
    frame (bodyCell c cell continuous s) = frame s := by
  unfold bodyCell handCell; dsimp only; (repeat' split) <;> simp
@[simp] theorem frame_loadLossTimer (c : SiteConfig) (s : State) : frame (loadLossTimer c s) = frame s := rfl
@[simp] theorem frame_outsideCell (s : State) : frame (outsideCell s) = frame s := rfl
@[simp] theorem frame_goodCell (cell : Cell) (s : State) : frame (goodCell cell s) = frame s := by
  unfold goodCell runningCell lostCell resumeFeed; dsimp only; (repeat' split) <;> simp
@[simp] theorem frame_loseFeed (s : State) : frame (loseFeed s) = frame s := by simp [loseFeed]

/-! ### The zone line and the roster -/

@[simp] theorem frame_lineTransition (level : Bool) (s : State) : frame (lineTransition level s) = frame s := by
  unfold lineTransition deferAttempt; dsimp only; (repeat' split) <;> simp
@[simp] theorem frame_giveVerdict (d : Bool) (s : State) : frame (giveVerdict d s) = frame s := rfl
@[simp] theorem frame_hunt (s : State) : frame (hunt s) = frame s := rfl
@[simp] theorem frame_breakMessage (s : State) : frame (breakMessage s) = frame s := by
  unfold breakMessage; dsimp only; (repeat' split) <;> simp
@[simp] theorem frame_enterMessage (t : Time) (s : State) : frame (enterMessage t s) = frame s := rfl
@[simp] theorem frame_discardMessage (echo : Bool) (s : State) : frame (discardMessage echo s) = frame s := by
  unfold discardMessage; split <;> simp
@[simp] theorem frame_beginAttempt (c : SiteConfig) (k : AnnouncementKind) (a : Attempt) (s : State) :
    frame (beginAttempt c k a s) = frame s := rfl
@[simp] theorem frame_retryKind (f : InFlight) (s : State) : frame (retryKind f s).2 = frame s := by
  unfold retryKind; split <;> simp
@[simp] theorem frame_hearPeer (p : Peer) (a : Announcement) (id : Nat) (s : State) :
    frame (hearPeer p a id s) = frame s := by
  unfold hearPeer hearRefusal lateHold; dsimp only; (repeat' split) <;> simp
@[simp] theorem frame_peerMessage (c : SiteConfig) (a : Announcement) (t : Time) (s : State) :
    frame (peerMessage c a t s) = frame s := by
  unfold peerMessage; split
  · rfl
  · dsimp only; rw [forEach_keeps frame _ (frame_hearPeer _ a)]; split <;> simp
@[simp] theorem frame_duplicateHeard (t : Time) (s : State) : frame (duplicateHeard t s) = frame s := by
  unfold duplicateHeard; dsimp only; split <;> simp
@[simp] theorem frame_takeMessage (c : SiteConfig) (b : List Byte) (t : Time) (echo : Bool) (s : State) :
    frame (takeMessage c b t echo s) = frame s := by
  unfold takeMessage sortMessage; (repeat' split) <;> simp
@[simp] theorem frame_endMessage (c : SiteConfig) (b : List Byte) (t : Time) (echo : Bool) (s : State) :
    frame (endMessage c b t echo s) = frame s := by
  unfold endMessage; dsimp only; (repeat' split) <;> simp

end Sys2Proof.Proofs
end

section
/-! SUPPORT. -/

namespace Sys2Proof.Proofs

open Sys2Proof Sys2Proof.Machine Sys2Proof.Laws

/-- The commands that keep the whole frame: they set neither site time nor a field of site control but a latch. -/
def framed : Instr → Bool
  | .powerOnReset => false
  | .restart => false
  | .loadStart => false
  | .configReadComplete _ => false
  | .noRecord _ => false
  | .inhibitChange _ => false
  | .overrideChange _ => false
  | .latchClear => false
  | .latchClearRelease => false
  | .labelRecord _ _ => false
  | .markArrival _ => false
  | .missingVerdict _ => false
  | .secondBoundary => false
  | _ => true

/-- A command that answers one of two states. -/
theorem next_inj {s t : State} (h : (Host.Outcome.next s : Host.Outcome State Fault Refusal) = .next t) : t = s := by
  cases h; rfl

/-- A command of the other blocks keeps the time base, the oscillator count, the queue and site control but for its
latches. -/
theorem frame_exec {c : Instr} {s t : State} (hc : framed c = true) (h : exec c s = .next t) : frame t = frame s := by
  cases c with
  | runtCell => rw [next_inj h]; rfl
  | messageBroken => rw [next_inj h]; exact frame_breakMessage s
  | reportSpanExpiry | feedLoss | assemblingLate | frameRelease | cellInstant | starveExpiry | checkComplete
  | decisionInstant | removalInstant id | watchClose id | attemptStart | deferral level | retryStart | lineIdle
  | periodicDue | silenceTimerExpiry site | monitorRecordEnd | lineBusy level | echoWindowOpen | transferEnd =>
    rw [next_inj h]; split <;> simp
  | lockInstant id | endInstant id | watchOpen id | fillerInstant | echoWindowClose =>
    rw [next_inj h]; (repeat' split) <;> simp
  | attemptEnd => rw [next_inj h]; (repeat' split) <;> simp [deliver, collide, loseMessage]
  | cellTaken cell =>
    simp only [exec, execCellTaken] at h
    split at h
    · rw [next_inj h]; split <;> simp [framingError]
    · cases h
  | zoneMessage bytes =>
    simp only [exec, execZoneMessage] at h
    split at h
    · rw [next_inj h]; split <;> simp
    · cases h
  | openingMark high =>
    have hedge : frame (if s.zone.rxLevel then lineTransition false s else s) = frame s := by split <;> simp
    rw [next_inj h, ← hedge]
    generalize (if s.zone.rxLevel then lineTransition false s else s) = u
    split <;> simp
  | _ => cases hc

end Sys2Proof.Proofs
end

section
/-! SUPPORT. What each operation of the time base makes of the time base, and what it leaves alone. -/

namespace Sys2Proof.Proofs

open Sys2Proof Sys2Proof.Machine Sys2Proof.Laws

/-! ### The references -/

@[simp] theorem ref_updateRef_same (t : TimeBase) (r : Ref) (f : RefRecord → RefRecord) :
    (t.updateRef r f).ref r = f (t.ref r) := by cases r <;> rfl

theorem ref_updateRef_other {q r : Ref} (h : q ≠ r) (t : TimeBase) (f : RefRecord → RefRecord) :
    (t.updateRef r f).ref q = t.ref q :=
  match q, r, h with
  | .a, .b, _ => rfl
  | .b, .a, _ => rfl
  | .a, .a, h => absurd rfl h
  | .b, .b, h => absurd rfl h

theorem updateRef_updateRef (t : TimeBase) (r : Ref) (f g : RefRecord → RefRecord) :
    (t.updateRef r f).updateRef r g = t.updateRef r fun x => g (f x) := by cases r <;> rfl

/-- The new value of a reference's record is all that a change of it depends on. -/
theorem updateRef_congr (t : TimeBase) (r : Ref) {f g : RefRecord → RefRecord} (h : f (t.ref r) = g (t.ref r)) :
    t.updateRef r f = t.updateRef r g := by
  cases r with
  | a => exact congrArg (fun x => { t with refA := x }) h
  | b => exact congrArg (fun x => { t with refB := x }) h

@[simp] theorem updateRef_now (t : TimeBase) (r : Ref) (f : RefRecord → RefRecord) :
    (t.updateRef r f).now = t.now := by cases r <;> rfl
@[simp] theorem updateRef_trim (t : TimeBase) (r : Ref) (f : RefRecord → RefRecord) :
    (t.updateRef r f).trim = t.trim := by cases r <;> rfl
@[simp] theorem updateRef_carry (t : TimeBase) (r : Ref) (f : RefRecord → RefRecord) :
    (t.updateRef r f).carry = t.carry := by cases r <;> rfl
@[simp] theorem updateRef_disc (t : TimeBase) (r : Ref) (f : RefRecord → RefRecord) :
    (t.updateRef r f).disc = t.disc := by cases r <;> rfl
@[simp] theorem updateRef_tracked (t : TimeBase) (r : Ref) (f : RefRecord → RefRecord) :
    (t.updateRef r f).tracked = t.tracked := by cases r <;> rfl
@[simp] theorem updateRef_selected (t : TimeBase) (r : Ref) (f : RefRecord → RefRecord) :
    (t.updateRef r f).selected = t.selected := by cases r <;> rfl
@[simp] theorem updateRef_acquireRun (t : TimeBase) (r : Ref) (f : RefRecord → RefRecord) :
    (t.updateRef r f).acquireRun = t.acquireRun := by cases r <;> rfl
@[simp] theorem updateRef_excessRun (t : TimeBase) (r : Ref) (f : RefRecord → RefRecord) :
    (t.updateRef r f).excessRun = t.excessRun := by cases r <;> rfl
@[simp] theorem updateRef_history (t : TimeBase) (r : Ref) (f : RefRecord → RefRecord) :
    (t.updateRef r f).history = t.history := by cases r <;> rfl
@[simp] theorem updateRef_u (t : TimeBase) (r : Ref) (f : RefRecord → RefRecord) :
    (t.updateRef r f).u = t.u := by cases r <;> rfl
@[simp] theorem updateRef_grade (t : TimeBase) (r : Ref) (f : RefRecord → RefRecord) :
    (t.updateRef r f).grade = t.grade := by cases r <;> rfl
@[simp] theorem updateRef_slew (t : TimeBase) (r : Ref) (f : RefRecord → RefRecord) :
    (t.updateRef r f).slew = t.slew := by cases r <;> rfl
@[simp] theorem updateRef_lastTaken (t : TimeBase) (r : Ref) (f : RefRecord → RefRecord) :
    (t.updateRef r f).lastTaken = t.lastTaken := by cases r <;> rfl
@[simp] theorem updateRef_announced (t : TimeBase) (r : Ref) (f : RefRecord → RefRecord) :
    (t.updateRef r f).announced = t.announced := by cases r <;> rfl
@[simp] theorem updateRef_stepCount (t : TimeBase) (r : Ref) (f : RefRecord → RefRecord) :
    (t.updateRef r f).stepCount = t.stepCount := by cases r <;> rfl
@[simp] theorem updateRef_uEntry (t : TimeBase) (r : Ref) (f : RefRecord → RefRecord) :
    (t.updateRef r f).uEntry = t.uEntry := by cases r <;> rfl
@[simp] theorem updateRef_holdSeconds (t : TimeBase) (r : Ref) (f : RefRecord → RefRecord) :
    (t.updateRef r f).holdSeconds = t.holdSeconds := by cases r <;> rfl

/-! ### The test in force -/

/-- What a change of the test in force can do: nothing, or forget the marks, or open the windows. -/
theorem changeTest_cases (t before : TimeBase) :
    localTest before = localTest t ∧ t.changeTest before = t
      ∨ (localTest before = true ∧ localTest t = false)
        ∧ t.changeTest before = { t with refA := t.refA.forget, refB := t.refB.forget }
      ∨ (localTest before = false ∧ localTest t = true)
        ∧ t.changeTest before = { t with refA := t.refA.openWindows t.now, refB := t.refB.openWindows t.now } := by
  unfold TimeBase.changeTest
  cases localTest before <;> cases localTest t <;> simp

@[simp] theorem changeTest_now (t before : TimeBase) : (t.changeTest before).now = t.now := by
  unfold TimeBase.changeTest; split <;> rfl
@[simp] theorem changeTest_trim (t before : TimeBase) : (t.changeTest before).trim = t.trim := by
  unfold TimeBase.changeTest; split <;> rfl
@[simp] theorem changeTest_carry (t before : TimeBase) : (t.changeTest before).carry = t.carry := by
  unfold TimeBase.changeTest; split <;> rfl
@[simp] theorem changeTest_disc (t before : TimeBase) : (t.changeTest before).disc = t.disc := by
  unfold TimeBase.changeTest; split <;> rfl
@[simp] theorem changeTest_tracked (t before : TimeBase) : (t.changeTest before).tracked = t.tracked := by
  unfold TimeBase.changeTest; split <;> rfl
@[simp] theorem changeTest_selected (t before : TimeBase) : (t.changeTest before).selected = t.selected := by
  unfold TimeBase.changeTest; split <;> rfl
@[simp] theorem changeTest_acquireRun (t before : TimeBase) : (t.changeTest before).acquireRun = t.acquireRun := by
  unfold TimeBase.changeTest; split <;> rfl
@[simp] theorem changeTest_excessRun (t before : TimeBase) : (t.changeTest before).excessRun = t.excessRun := by
  unfold TimeBase.changeTest; split <;> rfl
@[simp] theorem changeTest_history (t before : TimeBase) : (t.changeTest before).history = t.history := by
  unfold TimeBase.changeTest; split <;> rfl
@[simp] theorem changeTest_u (t before : TimeBase) : (t.changeTest before).u = t.u := by
  unfold TimeBase.changeTest; split <;> rfl
@[simp] theorem changeTest_grade (t before : TimeBase) : (t.changeTest before).grade = t.grade := by
  unfold TimeBase.changeTest; split <;> rfl
@[simp] theorem changeTest_slew (t before : TimeBase) : (t.changeTest before).slew = t.slew := by
  unfold TimeBase.changeTest; split <;> rfl
@[simp] theorem changeTest_lastTaken (t before : TimeBase) : (t.changeTest before).lastTaken = t.lastTaken := by
  unfold TimeBase.changeTest; split <;> rfl
@[simp] theorem changeTest_announced (t before : TimeBase) : (t.changeTest before).announced = t.announced := by
  unfold TimeBase.changeTest; split <;> rfl
@[simp] theorem changeTest_stepCount (t before : TimeBase) : (t.changeTest before).stepCount = t.stepCount := by
  unfold TimeBase.changeTest; split <;> rfl
@[simp] theorem changeTest_uEntry (t before : TimeBase) : (t.changeTest before).uEntry = t.uEntry := by
  unfold TimeBase.changeTest; split <;> rfl
@[simp] theorem changeTest_holdSeconds (t before : TimeBase) : (t.changeTest before).holdSeconds = t.holdSeconds := by
  unfold TimeBase.changeTest; split <;> rfl
@[simp] theorem changeTest_valid (t before : TimeBase) (r : Ref) :
    ((t.changeTest before).ref r).valid = (t.ref r).valid := by
  unfold TimeBase.changeTest; split <;> cases r <;> rfl
@[simp] theorem changeTest_badRun (t before : TimeBase) (r : Ref) :
    ((t.changeTest before).ref r).badRun = (t.ref r).badRun := by
  unfold TimeBase.changeTest; split <;> cases r <;> rfl
@[simp] theorem changeTest_goodMarks (t before : TimeBase) (r : Ref) :
    ((t.changeTest before).ref r).goodMarks = (t.ref r).goodMarks := by
  unfold TimeBase.changeTest; split <;> cases r <;> rfl
@[simp] theorem changeTest_badMarks (t before : TimeBase) (r : Ref) :
    ((t.changeTest before).ref r).badMarks = (t.ref r).badMarks := by
  unfold TimeBase.changeTest; split <;> cases r <;> rfl

/-! ### What follows a change of the discipline state or of U -/

/-- The time base with its grade computed afresh (R19). -/
def graded (t : TimeBase) : TimeBase := { t with grade := gradeOf t.u t.disc }

theorem regrade_tb (s : State) : (regrade s).tb = graded s.tb := by
  unfold regrade; dsimp only
  by_cases h : gradeOf s.tb.u s.tb.disc = s.tb.grade
  · rw [if_pos h, graded, h]
  · rw [if_neg h]; rfl

theorem still_regrade (s : State) : still (regrade s) = still s := by
  unfold regrade; dsimp only; split <;> rfl

theorem zone_regrade (s : State) : (regrade s).zone = s.zone := by
  unfold regrade; dsimp only; split <;> rfl

theorem latchTime_regrade (s : State) : (regrade s).sc.latchTime = s.sc.latchTime := by
  unfold regrade; dsimp only; split <;> rfl

theorem setLatch_time_calm (s : State) : calm (setLatch .time s) = (s.tb, still s, slotless s.zone, true) := by
  unfold setLatch putLatch; split
  · next h => rw [calm, show s.sc.latchTime = true from h]
  · rfl

/-- What a change of the time base is handed on to: the test in force, the grade and the TIME latch act, and the rest is
left alone. -/
theorem settleTime_calm (before : TimeBase) (s : State) : calm (settleTime before s)
    = (graded (s.tb.changeTest before), still s, slotless s.zone,
        timeCause before (graded (s.tb.changeTest before)) || s.sc.latchTime) := by
  have htb : (regrade (updateTime (fun t => t.changeTest before) s)).tb = graded (s.tb.changeTest before) :=
    regrade_tb _
  have hcalm : calm (regrade (updateTime (fun t => t.changeTest before) s))
      = (graded (s.tb.changeTest before), still s, slotless s.zone, s.sc.latchTime) := by
    rw [calm, htb, still_regrade, zone_regrade, latchTime_regrade]; rfl
  have hlatch : ∀ t u : State, calm (if t.tb.grade = before.grade then t else refresh (urgent t)) = calm t
      ∧ calm (if u.tb.u = before.u then u else compareU u) = calm u := fun t u =>
    ⟨by split <;> simp, by split <;> simp⟩
  unfold settleTime; dsimp only
  rw [(hlatch _ State.reset).1, (hlatch State.reset _).2, htb]
  split
  · next h => rw [setLatch_time_calm, h, htb, still_regrade, zone_regrade]; rfl
  · next h => rw [hcalm, Bool.eq_false_iff.2 h]; rfl

theorem settleTime_tb (before : TimeBase) (s : State) :
    (settleTime before s).tb = graded (s.tb.changeTest before) := congrArg Prod.fst (settleTime_calm before s)

theorem settleTime_still (before : TimeBase) (s : State) : still (settleTime before s) = still s :=
  congrArg (fun p => p.2.1) (settleTime_calm before s)

theorem settleTime_zone (before : TimeBase) (s : State) : slotless (settleTime before s).zone = slotless s.zone :=
  congrArg (fun p => p.2.2.1) (settleTime_calm before s)

theorem settleTime_latchTime (before : TimeBase) (s : State) : (settleTime before s).sc.latchTime
    = (timeCause before (graded (s.tb.changeTest before)) || s.sc.latchTime) :=
  congrArg (fun p => p.2.2.2) (settleTime_calm before s)

/-- A change that leaves U and the grade as they were reaches no block but the TIME latch. -/
theorem settleTime_quiet {before : TimeBase} {s : State} (hu : s.tb.u = before.u) (hg : s.tb.grade = before.grade)
    (hnew : s.tb.grade = gradeOf s.tb.u s.tb.disc) : settleTime before s
      = (if timeCause before (s.tb.changeTest before) then
          setLatch .time (updateTime (fun t => t.changeTest before) s)
        else updateTime (fun t => t.changeTest before) s) := by
  have hregrade : regrade (updateTime (fun t => t.changeTest before) s) = updateTime (fun t => t.changeTest before) s := by
    unfold regrade; dsimp only; rw [if_pos]; simp [hnew]
  unfold settleTime; dsimp only; rw [hregrade]
  have hlatched : ∀ t : State, t.tb = s.tb.changeTest before →
      (if (if t.tb.u = before.u then t else compareU t).tb.grade = before.grade
        then (if t.tb.u = before.u then t else compareU t)
        else refresh (urgent (if t.tb.u = before.u then t else compareU t))) = t := by
    intro t ht
    rw [if_pos (show t.tb.u = before.u by simp [ht, hu]), if_pos (by simp [ht, hg])]
  apply hlatched
  split
  · exact congrArg Prod.fst (setLatch_time_calm _)
  · rfl

/-! ### Changes of the discipline state and of site time -/

theorem still_updateTime (f : TimeBase → TimeBase) (s : State) : still (updateTime f s) = still s := rfl

theorem still_updateRef (r : Ref) (f : RefRecord → RefRecord) (s : State) : still (updateRef r f s) = still s := rfl

theorem rest_raise (e : Event) (s : State) : rest (raise e s) = rest s := rfl

theorem rest_updateTime (f : TimeBase → TimeBase) (s : State) : rest (updateTime f s) = rest s := rfl

theorem rest_moveDiscipline (new : Discipline) (s : State) : rest (moveDiscipline new s) = rest s := rfl

@[simp] theorem moveDiscipline_tb (new : Discipline) (s : State) :
    (moveDiscipline new s).tb = { s.tb with disc := new } := rfl

@[simp] theorem still_moveDiscipline (new : Discipline) (s : State) : still (moveDiscipline new s) = still s := rfl

@[simp] theorem enterHoldover_tb (s : State) : (enterHoldover s).tb = { s.tb with
    history := [], excessRun := 0, uEntry := s.tb.u, holdSeconds := 0, disc := .holdover } := rfl

@[simp] theorem still_enterHoldover (s : State) : still (enterHoldover s) = still s := rfl

@[simp] theorem enterUnset_tb (s : State) : (enterUnset s).tb = { s.tb with announced := none, disc := .unset } := rfl

@[simp] theorem still_enterUnset (s : State) : still (enterUnset s) = still s := rfl

/-- The time base with site time brought back into its range (R1). -/
def wrapped (t : TimeBase) : TimeBase :=
  if Config.timeWrap ≤ t.now then t.shift (-1) else if t.now < 0 then t.shift 1 else t

@[simp] theorem wrapped_u (t : TimeBase) : (wrapped t).u = t.u := by
  unfold wrapped; (repeat' split) <;> rfl

@[simp] theorem wrapped_stepCount (t : TimeBase) : (wrapped t).stepCount = t.stepCount := by
  unfold wrapped; (repeat' split) <;> rfl

theorem wrapTime_tb (s : State) : s.wrapTime.tb = wrapped s.tb := by
  unfold State.wrapTime wrapped; (repeat' split) <;> rfl

theorem rest_wrapTime (s : State) : rest s.wrapTime = rest s := by
  unfold State.wrapTime; (repeat' split) <;> rfl

/-- Pacing across a step leaves the step itself alone. -/
theorem stepPacing_now (old new : Time) (s : State) : (stepPacing old new s).tb = s.tb :=
  tb_of_calm (calm_stepPacing old new s)

theorem replaceTime_tb (new : Time) (s : State) :
    (replaceTime new s).tb = wrapped { s.tb with now := new, slew := Slew.none } := by
  unfold replaceTime; dsimp only; rw [wrapTime_tb, stepPacing_now]; rfl

theorem rest_replaceTime (new : Time) (s : State) : rest (replaceTime new s) = rest s := by
  unfold replaceTime; dsimp only; rw [rest_wrapTime, rest_of_still (still_of_calm (calm_stepPacing _ _ _))]; rfl

/-- A new site time within its range moves no other instant. -/
theorem replaceTime_calm {new : Time} (h : 0 ≤ new) (h' : new < Config.timeWrap) (s : State) :
    calm (replaceTime new s) = calm (updateTime (fun t => { t with now := new, slew := Slew.none }) s) := by
  unfold replaceTime; dsimp only
  have htb := stepPacing_now s.tb.now new (updateTime (fun t => { t with now := new, slew := Slew.none }) s)
  rw [wrapTime_of_range (by rw [htb]; exact h) (by rw [htb]; exact h')]
  exact calm_stepPacing _ _ _

/-- The time base after a step to a label (R16). -/
def stepped (label : Nat) (t : TimeBase) : TimeBase :=
  { wrapped { t with now := stepTarget t.now label, slew := Slew.none } with stepCount := bump t.stepCount }

theorem stepTime_tb (label : Nat) (s : State) : (stepTime label s).tb = stepped label s.tb := by
  simp only [stepTime, raise_tb, updateTime_tb, replaceTime_tb, stepped, wrapped_stepCount]

theorem rest_stepTime (label : Nat) (s : State) : rest (stepTime label s) = rest s := by
  simp only [stepTime, rest_raise, rest_updateTime, rest_replaceTime]

/-- A step whose target lies within the range of site time. -/
theorem stepTime_calm {label : Nat} {s : State} (h : 0 ≤ stepTarget s.tb.now label)
    (h' : stepTarget s.tb.now label < Config.timeWrap) : calm (stepTime label s)
      = calm (updateTime (fun t => { t with
          now := stepTarget t.now label, slew := Slew.none, stepCount := bump t.stepCount }) s) := by
  have hc := replaceTime_calm h h' s
  simp only [calm, Prod.mk.injEq] at hc ⊢
  obtain ⟨htb, hstill, hzone, hlatch⟩ := hc
  refine ⟨?_, hstill, hzone, hlatch⟩
  show { (replaceTime (stepTarget s.tb.now label) s).tb with
    stepCount := bump (replaceTime (stepTarget s.tb.now label) s).tb.stepCount } = _
  rw [htb]; rfl

theorem enterAcquire_tb (label : Nat) (s : State) : (enterAcquire label s).tb = { stepped label s.tb with
    acquireRun := 0, excessRun := 0, history := [], u := Config.uMax, disc := .acquire } := by
  simp only [enterAcquire, moveDiscipline_tb, updateTime_tb, stepTime_tb]

theorem rest_enterAcquire (label : Nat) (s : State) : rest (enterAcquire label s) = rest s := by
  simp only [enterAcquire, rest_moveDiscipline, rest_updateTime, rest_stepTime]

/-! ### The second boundary -/

@[simp] theorem calm_expireEntry (second : Int) (id : Nat) (s : State) : calm (expireEntry second id s) = calm s := by
  have hremove : calm (removeEntry refresh id s) = calm s :=
    calm_of_parts (outer_removeEntry outer_refresh id s) (inner_of_tabled (tabled_removeEntry tabled_refresh id s))
  have hflag : ∀ f, calm (updateEntry id f s) = calm s := fun _ => rfl
  unfold expireEntry; (repeat' split) <;> simp only [calm_raise, hremove, hflag]

@[simp] theorem calm_expireAll (second : Int) (s : State) : calm (expireAll second s) = calm s :=
  forEach_keeps calm _ (calm_expireEntry second) _ _

/-- The schedule that starts changes the zone line alone. -/
theorem startSchedule_eq (second : Int) (s : State) :
    startSchedule second s = { s with zone := (startSchedule second s).zone } := by
  unfold startSchedule; split <;> rfl

theorem still_startSchedule (second : Int) (s : State) : still (startSchedule second s) = still s := by
  rw [startSchedule_eq]; rfl

theorem growth_of_still {s t : State} (h : still s = still t) : s.growth = t.growth := by
  have hsc : (latchless s.sc).inUse = (latchless t.sc).inUse := congrArg (fun p => p.control.inUse) h
  have hinUse : s.sc.inUse = t.sc.inUse := hsc
  simp only [State.growth, State.setting, hinUse]

/-- The time base after a second boundary, U growing by the growth given in HOLDOVER (R18). -/
def grown (growth : Nat) (t : TimeBase) : TimeBase :=
  if t.disc = .holdover then
    graded ({ t with u := min (t.u + growth) Config.uMax, holdSeconds := t.holdSeconds + 1 }.changeTest t)
  else t

theorem growHoldover_tb (s : State) : (growHoldover s).tb = grown s.growth s.tb := by
  unfold growHoldover grown; dsimp only; split
  · rw [settleTime_tb]; rfl
  · rfl

theorem still_growHoldover (s : State) : still (growHoldover s) = still s := by
  unfold growHoldover; dsimp only; split
  · rw [settleTime_still]; rfl
  · rfl

theorem still_formReport (s : State) : still (formReport s) = still s := rfl

/-- What the second boundary's event meets: the second announced, the spots expired, the schedule started. -/
def boundaryMet (s : State) : State :=
  startSchedule (secondOf s.tb.now) (expireAll (secondOf s.tb.now)
    (updateTime (fun t => { t with announced := some (secondOf s.tb.now) }) s))

theorem raiseBoundary_eq (s : State) : raiseBoundary s = formReport (growHoldover (boundaryMet s)) := rfl

theorem boundaryMet_tb (s : State) : (boundaryMet s).tb = { s.tb with announced := some (secondOf s.tb.now) } := by
  rw [boundaryMet, startSchedule_eq]; exact tb_of_calm (calm_expireAll _ _)

theorem still_boundaryMet (s : State) : still (boundaryMet s) = still s := by
  rw [boundaryMet, still_startSchedule, still_of_calm (calm_expireAll _ _)]; rfl

theorem raiseBoundary_tb (s : State) :
    (raiseBoundary s).tb = grown s.growth { s.tb with announced := some (secondOf s.tb.now) } := by
  rw [raiseBoundary_eq, ← boundaryMet_tb, ← growth_of_still (still_boundaryMet s)]
  exact growHoldover_tb _

theorem still_raiseBoundary (s : State) : still (raiseBoundary s) = still s := by
  rw [raiseBoundary_eq, still_formReport, still_growHoldover, still_boundaryMet]

theorem still_boundary (s : State) : still (boundary s) = still s := by
  unfold boundary; split
  · exact still_raiseBoundary s
  · rfl

/-! ### The mark at the discipline -/

theorem acquireMark_step {e : Int} (h : 10 < e.natAbs) (label : Nat) (s : State) : acquireMark label e s
    = updateTime (fun t => { t with acquireRun := 0, trim := trimAfter t.trim 2500 e }) (stepTime label s) := by
  unfold acquireMark; dsimp only; rw [if_pos h]; exact if_neg (by simp)

theorem acquireMark_run {e : Int} (h : e.natAbs ≤ 10) (label : Nat) {s : State} (hrun : s.tb.acquireRun ≠ 7) :
    acquireMark label e s
      = updateTime (fun t => { t with acquireRun := t.acquireRun + 1, trim := trimAfter t.trim 2500 e }) s := by
  unfold acquireMark; dsimp only; rw [if_neg (Nat.not_lt.2 h)]
  exact if_neg fun (h8 : s.tb.acquireRun + 1 = 8) => hrun (by omega)

theorem acquireMark_track {e : Int} (h : e.natAbs ≤ 10) (label : Nat) {s : State} (hrun : s.tb.acquireRun = 7) :
    acquireMark label e s = moveDiscipline .track (updateTime (fun t => { t with
      acquireRun := t.acquireRun + 1
      trim := trimAfter t.trim 2500 e
      tracked := true
      history := [e.natAbs]
      excessRun := 0
      u := trackU [e.natAbs] }) s) := by
  unfold acquireMark; dsimp only; rw [if_neg (Nat.not_lt.2 h)]
  exact if_pos (show s.tb.acquireRun + 1 = 8 by omega)

theorem trackStateMark_small {e : Int} (h : e.natAbs ≤ 100) (label : Nat) (s : State) :
    trackStateMark label e s = updateTime (fun t => ({ t with excessRun := 0 }).trackMark e) s := by
  unfold trackStateMark; dsimp only; rw [if_neg (Nat.not_lt.2 h)]; exact if_neg (by decide)

theorem trackStateMark_excess {e : Int} (h : 100 < e.natAbs) (label : Nat) {s : State} (hrun : s.tb.excessRun ≠ 2) :
    trackStateMark label e s
      = updateTime (fun t => ({ t with excessRun := s.tb.excessRun + 1 }).trackMark e) s := by
  unfold trackStateMark; dsimp only; rw [if_pos h]; exact if_neg (by omega)

theorem trackStateMark_third {e : Int} (h : 100 < e.natAbs) (label : Nat) {s : State} (hrun : s.tb.excessRun = 2) :
    trackStateMark label e s = enterAcquire label s := by
  unfold trackStateMark; dsimp only; rw [if_pos h]; exact if_pos (by omega)

theorem rest_acquireMark (label : Nat) (e : Int) (s : State) : rest (acquireMark label e s) = rest s := by
  by_cases h : 10 < e.natAbs
  · rw [acquireMark_step h, rest_updateTime, rest_stepTime]
  · by_cases hrun : s.tb.acquireRun = 7
    · rw [acquireMark_track (Nat.not_lt.1 h) label hrun]; rfl
    · rw [acquireMark_run (Nat.not_lt.1 h) label hrun]; rfl

theorem rest_trackStateMark (label : Nat) (e : Int) (s : State) : rest (trackStateMark label e s) = rest s := by
  by_cases h : 100 < e.natAbs
  · by_cases hrun : s.tb.excessRun = 2
    · rw [trackStateMark_third h label hrun]; exact rest_enterAcquire label s
    · rw [trackStateMark_excess h label hrun]; rfl
  · rw [trackStateMark_small (Nat.not_lt.1 h)]; rfl

theorem rest_disciplineMark (label : Nat) (s : State) : rest (disciplineMark label s) = rest s := by
  unfold disciplineMark; dsimp only; split
  · simp only [setTimeMark, rest_moveDiscipline, rest_updateTime, rest_replaceTime]
  · exact rest_acquireMark _ _ s
  · exact rest_trackStateMark _ _ s
  · unfold holdoverMark; split
    · rfl
    · exact rest_enterAcquire label s

/-- The state after a taken mark, before the second it brings is announced. -/
def markMet (r : Ref) (label : Nat) (s : State) : State :=
  let t := settleTime s.tb (updateTime (fun t => { t with lastTaken := some t.now }) (disciplineMark label s))
  if localTest t.tb then updateRef r (fun x => x.windowTaken t.tb.now) t else t

theorem takeMark_eq (r : Ref) (label : Nat) (s : State) : takeMark r label s
    = if s.tb.selected = some r ∧ takenLately s.tb = false then boundary (markMet r label s) else s := rfl

/-- The time base once the mark's effects on it have settled. -/
def markSettled (label : Nat) (s : State) : TimeBase :=
  graded ({ (disciplineMark label s).tb with lastTaken := some (disciplineMark label s).tb.now }.changeTest s.tb)

theorem markMet_tb (r : Ref) (label : Nat) (s : State) : (markMet r label s).tb
    = if localTest (markSettled label s) then
        (markSettled label s).updateRef r fun x => x.windowTaken (markSettled label s).now
      else markSettled label s := by
  have h : (settleTime s.tb (updateTime (fun t => { t with lastTaken := some t.now }) (disciplineMark label s))).tb
      = markSettled label s := settleTime_tb _ _
  unfold markMet; dsimp only; rw [h]
  split
  · rw [updateRef_tb, h]
  · exact h

theorem still_markMet (r : Ref) (label : Nat) (s : State) : still (markMet r label s) = still (disciplineMark label s) := by
  unfold markMet; dsimp only; split
  · rw [still_updateRef, settleTime_still, still_updateTime]
  · rw [settleTime_still, still_updateTime]

theorem rest_takeMark (r : Ref) (label : Nat) (s : State) : rest (takeMark r label s) = rest s := by
  rw [takeMark_eq]; split
  · rw [rest_of_still (still_boundary _), rest_of_still (still_markMet r label s), rest_disciplineMark]
  · rfl

/-! ### Verdicts and the selection -/

theorem still_answerSelection (new : Option Ref) (s : State) : still (answerSelection new s) = still s := by
  unfold answerSelection; (repeat' split) <;> rfl

/-- The answer of the discipline state to a change of selection, at the time base (R12 to R14). -/
def answered (new : Option Ref) (t : TimeBase) : TimeBase :=
  (answerSelection new { State.reset with tb := t }).tb

theorem answerSelection_tb (new : Option Ref) (s : State) : (answerSelection new s).tb = answered new s.tb := by
  unfold answered answerSelection; (repeat' split) <;> simp_all

theorem still_reselect (s : State) : still (reselect s) = still s := by
  unfold reselect; dsimp only; split
  · rfl
  · rw [settleTime_still, still_answerSelection]; rfl

/-- The time base with its selection recomputed (R8). -/
def reselected (t : TimeBase) : TimeBase :=
  if t.selection = t.selected then t
  else graded ((answered t.selection { t with selected := t.selection }).changeTest t)

theorem reselect_tb (s : State) : (reselect s).tb = reselected s.tb := by
  unfold reselect reselected; dsimp only; split
  · rfl
  · rw [settleTime_tb, answerSelection_tb]; rfl

/-- A verdict that changes no validity reaches no further than its reference's record. -/
theorem validityChanged_same {r : Ref} {was : Bool} {s : State} (h : (s.tb.ref r).valid = was) :
    validityChanged r was s = s := by unfold validityChanged; dsimp only; rw [if_pos h]

theorem validityChanged_changed {r : Ref} {was : Bool} {s : State} (h : (s.tb.ref r).valid ≠ was) :
    validityChanged r was s = reselect (raise (.refState r (s.tb.ref r).valid) s) := by
  unfold validityChanged; dsimp only; rw [if_neg h]

theorem still_giveMarkVerdict (r : Ref) (v : Verdict) (s : State) : still (giveMarkVerdict r v s) = still s := by
  unfold giveMarkVerdict validityChanged; dsimp only; split
  · rfl
  · exact still_reselect _

/-- The time base after a verdict on a reference (R7, R8). -/
def verdictGiven (r : Ref) (v : Verdict) (t : TimeBase) : TimeBase :=
  if ((t.ref r).judged v).valid = (t.ref r).valid then t.updateRef r fun x => x.judged v
  else reselected (t.updateRef r fun x => x.judged v)

theorem giveMarkVerdict_tb (r : Ref) (v : Verdict) (s : State) :
    (giveMarkVerdict r v s).tb = verdictGiven r v s.tb := by
  have hvalid : ((updateRef r (fun x => x.judged v) s).tb.ref r).valid = ((s.tb.ref r).judged v).valid := by
    rw [updateRef_tb, ref_updateRef_same]
  unfold giveMarkVerdict verdictGiven
  by_cases h : ((s.tb.ref r).judged v).valid = (s.tb.ref r).valid
  · rw [validityChanged_same (hvalid.trans h), if_pos h]; rfl
  · rw [validityChanged_changed (fun e => h (hvalid.symm.trans e)), if_neg h, reselect_tb]; rfl

theorem rest_markArrives (r : Ref) (s : State) : rest (markArrives r s) = rest s := by
  have hverdict : ∀ v, rest (giveMarkVerdict r v (recordMark r s)) = rest s := fun v =>
    rest_of_still (still_giveMarkVerdict r v _)
  unfold markArrives; dsimp only; split
  · rw [rest_takeMark, hverdict]
  · exact hverdict _

/-! ### A new fitted set -/

theorem still_unfitRef (r : Ref) (was : Bool) (s : State) : still (unfitRef r was s) = still s := by
  unfold unfitRef; dsimp only; (repeat' split) <;> rfl

theorem still_fitRef (r : Ref) (was : Bool) (s : State) : still (fitRef r was s) = still s := by
  unfold fitRef; split <;> rfl

theorem still_takeFitted (a b : Bool) (s : State) : still (takeFitted a b s) = still s := by
  rw [takeFitted, still_reselect, still_fitRef, still_fitRef, still_unfitRef, still_unfitRef]

end Sys2Proof.Proofs
end

section
/-! What the commands leave alone: the queue, the clock, the record in use and the site lines. -/

namespace Sys2Proof.Proofs

open Sys2Proof Sys2Proof.Machine Sys2Proof.Laws

/-- The site line whose level a command takes. -/
def lineOf : Instr → Option SiteLine
  | .restart => some .restart
  | .loadStart => some .restart
  | .inhibitChange _ => some .inhibit
  | .overrideChange _ => some .override
  | .latchClear => some .latchClear
  | .latchClearRelease => some .latchClear
  | _ => none

/-- A command that may bring another record into use. -/
def loadsRecord : Instr → Bool
  | .configReadComplete _ => true
  | _ => false

/-- The commands that set site time or change a reference's record. -/
def setsTime : Instr → Bool
  | .powerOnReset => true
  | .configReadComplete _ => true
  | .labelRecord _ _ => true
  | .markArrival _ => true
  | .missingVerdict _ => true
  | .secondBoundary => true
  | _ => false

/-- Every site line but the one given has the level it had, taken when it was. -/
structure LevelsKept (l : Option SiteLine) (old new : SiteControl) : Prop where
  inhibit : l ≠ some .inhibit → new.inhibitLine = old.inhibitLine ∧ new.inhibitSince = old.inhibitSince
  override : l ≠ some .override → new.overrideLine = old.overrideLine ∧ new.overrideSince = old.overrideSince
  latchClear : l ≠ some .latchClear →
    new.latchClearLine = old.latchClearLine ∧ new.latchClearSince = old.latchClearSince
  restart : l ≠ some .restart → new.restartLine = old.restartLine ∧ new.restartSince = old.restartSince

theorem LevelsKept.refl (l : Option SiteLine) (c : SiteControl) : LevelsKept l c c :=
  ⟨fun _ => ⟨rfl, rfl⟩, fun _ => ⟨rfl, rfl⟩, fun _ => ⟨rfl, rfl⟩, fun _ => ⟨rfl, rfl⟩⟩

/-- What every command but POWER_ON_RESET leaves alone. -/
structure CommandFrame (c : Instr) (s t : State) : Prop where
  osc : t.osc = s.osc
  choices : t.choices = s.choices
  pending : t.pending = s.pending
  levels : LevelsKept (lineOf c) s.sc t.sc
  inUse : loadsRecord c = false → t.sc.inUse = s.sc.inUse

/-- A command that changes nothing but the blocks' own items and site control has the frame its change of site control
has. -/
theorem commandFrame_of_control {c : Instr} {s t : State} (f : SiteControl → SiteControl)
    (h : rest t = rest (updateControl f s)) (hlevels : LevelsKept (lineOf c) s.sc (f s.sc))
    (hinUse : loadsRecord c = false → (f s.sc).inUse = s.sc.inUse) : CommandFrame c s t := by
  have hsc : latchless t.sc = latchless (f s.sc) := congrArg Rest.control h
  simp only [latchless, SiteControl.mk.injEq] at hsc
  refine ⟨congrArg Rest.osc h, congrArg Rest.choices h, congrArg Rest.pending h, ?_, ?_⟩
  · obtain ⟨hi, ho, hl, hr⟩ := hlevels
    constructor <;> simp_all
  · intro hc; rw [← hinUse hc]; simp_all

/-- A command that leaves site control alone but for the latches. -/
theorem commandFrame_of_rest {c : Instr} {s t : State} (h : rest t = rest s) : CommandFrame c s t :=
  commandFrame_of_control id h (.refl _ _) fun _ => rfl

/-- A command whose frame is that of a change of site control keeps the time base. -/
theorem commandFrame_of_frame {c : Instr} {s t : State} (f : SiteControl → SiteControl)
    (h : frame t = frame (updateControl f s)) (hlevels : LevelsKept (lineOf c) s.sc (f s.sc))
    (hinUse : loadsRecord c = false → (f s.sc).inUse = s.sc.inUse) : t.tb = s.tb ∧ CommandFrame c s t :=
  ⟨congrArg Prod.fst h, commandFrame_of_control f (congrArg Prod.snd h) hlevels hinUse⟩

/-! ### The lines and the loader -/

theorem frame_restartBlocks (s : State) : frame (restartBlocks s)
    = frame (updateControl (fun c => c.restart s.ros.duplicate) s) := by
  unfold restartBlocks; dsimp only; rw [frame_mon, frame_restartStore]; rfl

theorem frame_judgeLatch (l : Latch) (s : State) : frame (judgeLatch l s) = frame s := by
  unfold judgeLatch; split <;> simp

theorem frame_loadFault (cause : LoadFault) (s : State) : frame (loadFault cause s)
    = frame (updateControl (fun c => { c with
        config := .fault, loader := .waiting, faultCause := some cause, faults := bump c.faults }) s) := by
  simp [loadFault]

/-- A level of the RESTART line changes the frame by the level and, but for the first one, by the restart. -/
theorem commandFrame_restart (s : State) (hs : ¬(s.sc.restartLine = true ∨ lineSettled s.sc.restartSince s = false))
    {t : State} (h : exec .restart s = .next t) : t.tb = s.tb ∧ CommandFrame .restart s t := by
  rw [next_inj h, if_neg hs]; dsimp only; split
  · exact commandFrame_of_frame (fun c => { c with restartLine := true, restartTaken := true, restartSince := s.osc })
      rfl (by constructor <;> simp [lineOf]) fun _ => rfl
  · exact commandFrame_of_frame (fun c => ({ c with
      restartLine := true, restartTaken := true, restartSince := s.osc } : SiteControl).restart s.ros.duplicate)
      (frame_restartBlocks _) (by constructor <;> simp [lineOf, SiteControl.restart]) fun _ => rfl

/-- A command that takes a level of a site line, or ends a load without a record, changes the frame by its change of
site control alone. -/
theorem commandFrame_lines {c : Instr} {s t : State} (hc : framed c = false) (htime : setsTime c = false)
    (h : exec c s = .next t) : t.tb = s.tb ∧ CommandFrame c s t := by
  have hstays : t = s → t.tb = s.tb ∧ CommandFrame c s t := fun e => e ▸ ⟨rfl, commandFrame_of_rest rfl⟩
  cases c with
  | restart =>
    by_cases hs : s.sc.restartLine = true ∨ lineSettled s.sc.restartSince s = false
    · exact hstays ((next_inj h).trans (if_pos hs))
    · exact commandFrame_restart s hs h
  | loadStart =>
    revert hstays; rw [next_inj h]; split
    · exact fun hstays => hstays rfl
    · intro _; unfold startRead; split
      · exact commandFrame_of_frame (fun c => { c with
          restartLine := false, restartTaken := true, loader := .reading s.osc
          restartSince := if c.restartLine then s.osc else c.restartSince }) rfl
          (by constructor <;> simp [lineOf]) fun _ => rfl
      · exact commandFrame_of_frame (fun c => { c with
          restartLine := false, restartTaken := true
          restartSince := if c.restartLine then s.osc else c.restartSince }) rfl
          (by constructor <;> simp [lineOf]) fun _ => rfl
  | noRecord firstByte =>
    revert hstays; rw [next_inj h]; split
    · exact fun _ => commandFrame_of_frame _ (frame_loadFault .noRecord s) (by constructor <;> simp) fun _ => rfl
    · exact fun hstays => hstays rfl
  | inhibitChange active =>
    revert hstays; rw [next_inj h]; split
    · exact fun hstays => hstays rfl
    · exact fun _ => commandFrame_of_frame (fun c => { c with inhibitLine := active, inhibitSince := s.osc })
        (by dsimp only; split <;> simp) (by constructor <;> simp [lineOf]) fun _ => rfl
  | overrideChange active =>
    revert hstays; rw [next_inj h]; split
    · exact fun hstays => hstays rfl
    · exact fun _ => commandFrame_of_frame (fun c => { c with overrideLine := active, overrideSince := s.osc })
        (by dsimp only; split <;> simp) (by constructor <;> simp [lineOf]) fun _ => rfl
  | latchClear =>
    revert hstays; rw [next_inj h]; split
    · exact fun hstays => hstays rfl
    · exact fun _ => commandFrame_of_frame (fun c => { c with latchClearLine := true, latchClearSince := s.osc })
        (forEach_keeps frame _ frame_judgeLatch _ _) (by constructor <;> simp [lineOf]) fun _ => rfl
  | latchClearRelease =>
    revert hstays; rw [next_inj h]; split
    · exact fun _ => commandFrame_of_frame (fun c => { c with latchClearLine := false, latchClearSince := s.osc })
        rfl (by constructor <;> simp [lineOf]) fun _ => rfl
    · exact fun hstays => hstays rfl
  | powerOnReset | configReadComplete record | labelRecord r record | markArrival r | missingVerdict r
  | secondBoundary => cases htime
  | _ => cases hc

/-! ### The load and the time base's commands -/

theorem rest_takeUp (c : SiteConfig) (a b : Bool) (s : State) : rest (takeUp c a b s) = rest s := by
  unfold takeUp
  rw [rest_of_still (still_of_calm (calm_checkLow _)), rest_of_still (still_of_calm (calm_checkHigh _)),
    rest_of_still (still_of_calm (calm_compareU _)), rest_of_still (still_takeFitted _ _ _)]
  rfl

theorem frame_raiseAll (l : List Event) (s : State) : frame (raiseAll l s) = frame s :=
  forEach_keeps frame _ frame_raise l s

/-- A load that completes changes the frame by its change of site control. -/
theorem rest_loadValid (c : SiteConfig) (s : State) : rest (loadValid c s) = rest (updateControl (fun k => { k with
    config := .valid, loader := .waiting, faultCause := none, inUse := some c, loads := bump k.loads }) s) :=
  rest_takeUp c _ _ _

theorem commandFrame_loadRecord (bytes record : List Byte) (s : State) :
    CommandFrame (.configReadComplete bytes) s (loadRecord record s) := by
  have hraised : ∀ l, rest (raiseAll l s) = rest s := fun l => congrArg Prod.snd (frame_raiseAll l s)
  have hcontrol : ∀ (l : List Event) (f : SiteControl → SiteControl), (∀ c, latchless (f (latchless c)) = latchless (f c)) →
      rest (updateControl f (raiseAll l s)) = rest (updateControl f s) := by
    intro l f hf
    have hsc : latchless (raiseAll l s).sc = latchless s.sc := congrArg Rest.control (hraised l)
    have hnew : latchless (f (raiseAll l s).sc) = latchless (f s.sc) := by rw [← hf, hsc, hf]
    have hr := hraised l
    simp only [rest, Rest.mk.injEq, updateControl_osc, updateControl_choices, updateControl_pending,
      updateControl_sc] at hr ⊢
    exact ⟨hr.1, hr.2.1, hr.2.2.1, hnew⟩
  unfold loadRecord; split
  · next c clamps _ =>
    exact commandFrame_of_control _ ((rest_loadValid c _).trans (hcontrol clamps _ fun _ => rfl))
      (by constructor <;> simp) (by simp [loadsRecord])
  · next cause clamps _ =>
    exact commandFrame_of_control _ ((congrArg Prod.snd (frame_loadFault cause _)).trans (hcontrol clamps _ fun _ => rfl))
      (by constructor <;> simp) (by simp [loadsRecord])

/-- Every command but POWER_ON_RESET leaves the oscillator count, the queue, the count of choices and what it does not
name of site control. -/
theorem commandFrame_exec {c : Instr} {s t : State} (hc : c ≠ .powerOnReset) (h : exec c s = .next t) :
    CommandFrame c s t := by
  cases hf : framed c with
  | true => exact commandFrame_of_rest (congrArg Prod.snd (frame_exec hf h))
  | false =>
    cases ht : setsTime c with
    | false => exact (commandFrame_lines hf ht h).2
    | true =>
      cases c with
      | powerOnReset => exact absurd rfl hc
      | configReadComplete record =>
        simp only [exec, execConfigReadComplete] at h
        split at h
        · rw [next_inj h]; split
          · exact commandFrame_loadRecord record record s
          · exact commandFrame_of_rest rfl
        · cases h
      | labelRecord r record =>
        simp only [exec, execLabelRecord] at h
        split at h
        · rw [next_inj h]; split <;> exact commandFrame_of_rest rfl
        · cases h
      | markArrival r =>
        rw [next_inj h]; split
        · exact commandFrame_of_rest (rest_markArrives r s)
        · exact commandFrame_of_rest rfl
      | missingVerdict r =>
        rw [next_inj h]; split
        · exact commandFrame_of_rest (rest_of_still (still_giveMarkVerdict r .missing _))
        · exact commandFrame_of_rest rfl
      | secondBoundary => rw [next_inj h]; exact commandFrame_of_rest (rest_of_still (still_boundary s))
      | _ => cases ht

/-- A command that does not set site time leaves the time base. -/
theorem exec_tb {c : Instr} {s t : State} (hc : setsTime c = false) (h : exec c s = .next t) : t.tb = s.tb := by
  cases hf : framed c with
  | true => exact congrArg Prod.fst (frame_exec hf h)
  | false => exact (commandFrame_lines hf hc h).1

/-! ### A level within 10 ms of the last one -/

theorem lineSettled_false {since : Nat} {s : State} (h : s.osc < since + 100000) : lineSettled since s = false :=
  decide_eq_false (Nat.not_le.2 h)

/-- A change of a site line's level is not taken within 10 ms of its last one (R186). -/
theorem exec_unsettled (active : Bool) (s : State) :
    (s.osc < s.sc.inhibitSince + 100000 → exec (.inhibitChange active) s = .next s)
      ∧ (s.osc < s.sc.overrideSince + 100000 → exec (.overrideChange active) s = .next s)
      ∧ (s.osc < s.sc.latchClearSince + 100000 → exec .latchClear s = .next s ∧ exec .latchClearRelease s = .next s)
      ∧ (s.osc < s.sc.restartSince + 100000 → exec .restart s = .next s ∧ exec .loadStart s = .next s) := by
  refine ⟨fun h => ?_, fun h => ?_, fun h => ⟨?_, ?_⟩, fun h => ⟨?_, ?_⟩⟩
  · exact congrArg _ (if_pos (.inr (lineSettled_false h)))
  · exact congrArg _ (if_pos (.inr (lineSettled_false h)))
  · exact congrArg _ (if_pos (.inr (lineSettled_false h)))
  · exact congrArg _ (if_neg fun hl => by simp [lineSettled_false h] at hl)
  · exact congrArg _ (if_pos (.inr (lineSettled_false h)))
  · exact congrArg _ (if_pos (.inr (lineSettled_false h)))

/-- Settles O2: each command's frame, taken apart clause by clause. -/
theorem otherCommandsLeaveTheQueueTheClockAndTheLines :
    Obligations.OtherCommandsLeaveTheQueueTheClockAndTheLines := by
  unfold Obligations.OtherCommandsLeaveTheQueueTheClockAndTheLines
  refine ⟨fun c s t h => ?_, fun c s t h => ?_, exec_unsettled⟩
  · by_cases hc : c = .powerOnReset
    · subst hc; rw [next_inj h]; exact ⟨rfl, rfl, fun hne => absurd rfl hne⟩
    · obtain ⟨hosc, hchoices, hpending, -, -⟩ := commandFrame_exec hc h
      exact ⟨hpending, hchoices, fun _ => hosc⟩
  · refine ⟨fun hm => exec_tb ?_ h, ?_⟩
    · cases c <;> simp_all [setsTime]
    · by_cases hc : c = .powerOnReset
      · subst hc; simp
      · obtain ⟨-, -, -, ⟨hinhibit, hoverride, hclear, hrestart⟩, hinUse⟩ := commandFrame_exec hc h
        refine ⟨fun hm => hinUse ?_, fun hm => hinhibit ?_, fun hm => hoverride ?_, fun hm => hclear ?_,
          fun hm => hrestart ?_⟩ <;> cases c <;> simp_all [loadsRecord, lineOf]

end Sys2Proof.Proofs
end

section
/-! The law of the time base: every step keeps it. -/

namespace Sys2Proof.Proofs

open Sys2Proof Sys2Proof.Machine Sys2Proof.Laws

/-! ### The law at the time base -/

/-- What the law asks of one reference's record: its runs, and the label it holds. -/
def RefSound (x : RefRecord) : Prop := x.runsOk ∧ ∀ n, x.lastLabel = some n → n < 4294967296

/-- The law of the time base without the grade: what every operation keeps before the grade is computed afresh. -/
structure TimeSound (t : TimeBase) : Prop where
  untracked : t.disc = .unset ∨ t.disc = .acquire → t.u = Config.uMax
  tracking : t.disc = .track → t.u = trackU t.history
  bounded : t.u ≤ Config.uMax
  magnitudes : ∀ e ∈ t.history, e ≤ 10000
  history : t.history.length ≤ 8
  trim : -Config.trimMax ≤ t.trim ∧ t.trim ≤ Config.trimMax
  carry : t.carry < Config.carryPart
  refA : RefSound t.refA
  refB : RefSound t.refB
  range : 0 ≤ t.now ∧ t.now < Config.timeWrap

/-- The grade is that of U and the discipline state (R19). -/
def GradeCurrent (t : TimeBase) : Prop := t.grade = gradeOf t.u t.disc

theorem timeLaw_iff (s : State) : TimeLaw s ↔ TimeSound s.tb ∧ GradeCurrent s.tb := by
  constructor
  · rintro ⟨grade, untracked, tracking, bounded, magnitudes, history, trim, carry, runsA, runsB, range, labelA, labelB⟩
    exact ⟨⟨untracked, tracking, bounded, magnitudes, history, trim, carry, ⟨runsA, labelA⟩, ⟨runsB, labelB⟩, range⟩,
      grade⟩
  · rintro ⟨⟨untracked, tracking, bounded, magnitudes, history, trim, carry, ⟨runsA, labelA⟩, ⟨runsB, labelB⟩, range⟩,
      grade⟩
    exact ⟨grade, untracked, tracking, bounded, magnitudes, history, trim, carry, runsA, runsB, range, labelA, labelB⟩

theorem timeLaw_of_tb {s t : State} (h : t.tb = s.tb) (hs : TimeLaw s) : TimeLaw t := by
  rw [timeLaw_iff, h, ← timeLaw_iff]; exact hs

/-! ### References -/

theorem RefSound.shift {x : RefRecord} (h : RefSound x) (k : Int) : RefSound (x.shift k) := h
theorem RefSound.forget {x : RefRecord} (h : RefSound x) : RefSound x.forget := ⟨⟨Nat.zero_le _, h.1.2⟩, h.2⟩
theorem RefSound.openWindows {x : RefRecord} (h : RefSound x) (now : Time) : RefSound (x.openWindows now) := h
theorem RefSound.unlabelled {x : RefRecord} (h : RefSound x) : RefSound { x with lastLabel := none } :=
  ⟨h.1, fun _ hn => absurd hn (by simp)⟩
theorem RefSound.unfit {x : RefRecord} : RefSound x.unfit := ⟨⟨Nat.zero_le _, Nat.zero_le _⟩, fun _ hn => absurd hn (by simp [RefRecord.unfit])⟩
theorem RefSound.windowTaken {x : RefRecord} (h : RefSound x) (now : Time) : RefSound (x.windowTaken now) := by
  unfold RefRecord.windowTaken; split <;> exact h
theorem RefSound.markTaken {x : RefRecord} (h : RefSound x) (label : Option Nat) (now : Time) :
    RefSound (x.markTaken label now) := by
  unfold RefRecord.markTaken; split <;> exact h
theorem RefSound.missed {x : RefRecord} (h : RefSound x) (test : Bool) (now : Time) : RefSound (x.missed test now) := by
  unfold RefRecord.missed; split <;> exact h

/-- The runs after a verdict stay within their limits (R7). -/
theorem RefSound.judged {x : RefRecord} (h : RefSound x) (v : Verdict) : RefSound (x.judged v) := by
  obtain ⟨⟨hgood, hbad⟩, hlabel⟩ := h
  cases v with
  | start => exact ⟨⟨hgood, hbad⟩, hlabel⟩
  | good => exact ⟨⟨Nat.min_le_right _ _, Nat.zero_le _⟩, hlabel⟩
  | bad => exact ⟨⟨Nat.zero_le _, Nat.min_le_right _ _⟩, hlabel⟩
  | missing => exact ⟨⟨Nat.zero_le _, Nat.min_le_right _ _⟩, hlabel⟩

theorem TimeSound.ref {t : TimeBase} (h : TimeSound t) (r : Ref) : RefSound (t.ref r) := by
  cases r with
  | a => exact h.refA
  | b => exact h.refB

theorem TimeSound.updateRef {t : TimeBase} (h : TimeSound t) (r : Ref) {f : RefRecord → RefRecord}
    (hf : RefSound (t.ref r) → RefSound (f (t.ref r))) : TimeSound (t.updateRef r f) := by
  have href := hf (h.ref r)
  obtain ⟨untracked, tracking, bounded, magnitudes, history, trim, carry, refA, refB, range⟩ := h
  cases r with
  | a => exact ⟨untracked, tracking, bounded, magnitudes, history, trim, carry, href, refB, range⟩
  | b => exact ⟨untracked, tracking, bounded, magnitudes, history, trim, carry, refA, href, range⟩

theorem GradeCurrent.updateRef {t : TimeBase} (h : GradeCurrent t) (r : Ref) (f : RefRecord → RefRecord) :
    GradeCurrent (t.updateRef r f) := by cases r <;> exact h

/-! ### Time, the test in force and the grade -/

theorem TimeSound.graded {t : TimeBase} (h : TimeSound t) : TimeSound (graded t) :=
  ⟨h.untracked, h.tracking, h.bounded, h.magnitudes, h.history, h.trim, h.carry, h.refA, h.refB, h.range⟩

theorem gradeCurrent_graded (t : TimeBase) : GradeCurrent (graded t) := rfl

theorem TimeSound.withRefs {t : TimeBase} (h : TimeSound t) {a b : RefRecord} (ha : RefSound a) (hb : RefSound b) :
    TimeSound { t with refA := a, refB := b } :=
  ⟨h.untracked, h.tracking, h.bounded, h.magnitudes, h.history, h.trim, h.carry, ha, hb, h.range⟩

theorem TimeSound.changeTest {t : TimeBase} (h : TimeSound t) (before : TimeBase) : TimeSound (t.changeTest before) := by
  unfold TimeBase.changeTest; split
  · exact h.withRefs h.refA.forget h.refB.forget
  · exact h.withRefs (h.refA.openWindows _) (h.refB.openWindows _)
  · exact h

/-- A time base whose site time, carry and slew have moved, the time by less than one wrap out of its range. -/
theorem TimeSound.wrapped {t : TimeBase} (h : TimeSound t) {now : Time} (hlow : -Config.timeWrap ≤ now)
    (hhigh : now < 2 * Config.timeWrap) {carry : Nat} (hcarry : carry < Config.carryPart) (slew : Slew) :
    TimeSound (wrapped { t with now := now, carry := carry, slew := slew }) := by
  obtain ⟨untracked, tracking, bounded, magnitudes, history, trim, -, refA, refB, -⟩ := h
  unfold Proofs.wrapped
  simp only [Time, Config.timeWrap] at hlow hhigh
  split
  · next hw =>
    refine ⟨untracked, tracking, bounded, magnitudes, history, trim, hcarry, refA.shift _, refB.shift _, ?_⟩
    simp only [Time, shift_now, shiftTime, Config.timeWrap] at hw ⊢; omega
  · next hw =>
    split
    · next hn =>
      refine ⟨untracked, tracking, bounded, magnitudes, history, trim, hcarry, refA.shift _, refB.shift _, ?_⟩
      simp only [Time, shift_now, shiftTime, Config.timeWrap] at hn hw ⊢; omega
    · next hn =>
      exact ⟨untracked, tracking, bounded, magnitudes, history, trim, hcarry, refA, refB, not_lt.1 hn, not_le.1 hw⟩

theorem GradeCurrent.wrapped {t : TimeBase} (h : GradeCurrent t) : GradeCurrent (wrapped t) := by
  unfold Proofs.wrapped; (repeat' split) <;> exact h

/-- The site time that a step goes to lies less than 2 s out of its range (R16). -/
theorem stepTarget_range {now : Time} (h : 0 ≤ now ∧ now < Config.timeWrap) {label : Nat} (hl : label < 4294967296) :
    -Config.timeWrap ≤ stepTarget now label ∧ stepTarget now label < 2 * Config.timeWrap := by
  have hcases := stepTarget_cases now label
  simp only [Time, Config.timeWrap, Config.second] at *
  omega

theorem TimeSound.stepped {t : TimeBase} (h : TimeSound t) {label : Nat} (hl : label < 4294967296) :
    TimeSound (stepped label t) := by
  have hr := stepTarget_range h.range hl
  obtain ⟨untracked, tracking, bounded, magnitudes, history, trim, carry, refA, refB, range⟩ :=
    h.wrapped hr.1 hr.2 h.carry Slew.none
  exact ⟨untracked, tracking, bounded, magnitudes, history, trim, carry, refA, refB, range⟩

/-! ### A TU of the oscillator -/

theorem nextCarry_lt {trim : Int} {carry : Nat} (ht : -Config.trimMax ≤ trim ∧ trim ≤ Config.trimMax)
    (hc : carry < Config.carryPart) : nextCarry trim carry < Config.carryPart := by
  unfold nextCarry; dsimp only
  simp only [Config.trimMax, Config.carryPart] at *
  split <;> omega

theorem baseAdvance_le (trim : Int) (carry : Nat) : baseAdvance trim carry ≤ 2 := by
  unfold baseAdvance; (repeat' split) <;> decide

theorem slewAdvance_bounds (w : Slew) (n : Nat) : -1 ≤ (w.advance n).2 ∧ (w.advance n).2 ≤ 1 := by
  have hsign : -1 ≤ w.amount.sign ∧ w.amount.sign ≤ 1 := by
    rcases Int.sign_trichotomy w.amount with h | h | h <;> rw [h] <;> decide
  unfold Slew.advance; dsimp only
  (repeat' split)
  · exact hsign
  · exact hsign
  · exact ⟨by simp, by simp⟩
  · exact ⟨by simp, by simp⟩

theorem tick_tb (s : State) : (tick s).tb = wrapped s.tb.tick := wrapTime_tb _

theorem timeLaw_tick {s : State} (h : TimeLaw s) : TimeLaw (tick s) := by
  rw [timeLaw_iff] at h ⊢
  obtain ⟨hsound, hgrade⟩ := h
  have hn := baseAdvance_le s.tb.trim s.tb.carry
  have hw := slewAdvance_bounds s.tb.slew (baseAdvance s.tb.trim s.tb.carry)
  obtain ⟨hlow, hhigh⟩ := hsound.range
  rw [tick_tb]
  refine ⟨hsound.wrapped ?_ ?_ (nextCarry_lt hsound.trim hsound.carry) _, GradeCurrent.wrapped hgrade⟩ <;>
    simp only [Time, Config.timeWrap] at hlow hhigh ⊢ <;> omega

/-! ### Bounds on the phase error, the trim and U -/

theorem clampInt_bounds {lo hi : Int} (h : lo ≤ hi) (v : Int) : lo ≤ clampInt lo hi v ∧ clampInt lo hi v ≤ hi := by
  unfold clampInt; omega

theorem phaseError_le (now : Time) (label : Nat) : (phaseError now label).natAbs ≤ 10000 := by
  unfold phaseError; dsimp only
  split
  · have h := clampInt_bounds (lo := -10000) (hi := 10000) (by decide)
      (if fractionOf now < 5000000 then fractionOf now else fractionOf now - 10000000)
    omega
  · split <;> decide

theorem trimAfter_range (trim factor e : Int) :
    -Config.trimMax ≤ trimAfter trim factor e ∧ trimAfter trim factor e ≤ Config.trimMax :=
  clampInt_bounds (by decide) _

theorem foldl_max_le {l : List Nat} {a b : Nat} (ha : a ≤ b) (h : ∀ e ∈ l, e ≤ b) : l.foldl max a ≤ b := by
  induction l generalizing a with
  | nil => exact ha
  | cons x l ih => exact ih (Nat.max_le.2 ⟨ha, h x (by simp)⟩) fun e he => h e (by simp [he])

theorem trackU_le {l : List Nat} (h : ∀ e ∈ l, e ≤ 10000) : trackU l ≤ Config.uMax :=
  Nat.le_trans (Nat.succ_le_succ (foldl_max_le (Nat.zero_le _) h)) (by decide)

/-- The error history stays at eight magnitudes, the oldest leaving first (R13). -/
theorem pushError_eq {l : List Nat} (h : l.length ≤ 8) (e : Int) :
    pushError l e = (l ++ [e.natAbs]).drop (l.length - 7) := by
  unfold pushError; dsimp only
  by_cases h8 : l.length = 8
  · rw [if_pos (by simp [h8]), h8]
  · rw [if_neg (by simp [h8]), show l.length - 7 = 0 by omega, List.drop_zero]

theorem mem_pushError {l : List Nat} (hl : l.length ≤ 8) {e : Int} {x : Nat} (h : x ∈ pushError l e) :
    x ∈ l ∨ x = e.natAbs := by
  rw [pushError_eq hl] at h
  simpa using List.mem_of_mem_drop h

theorem pushError_length {l : List Nat} (h : l.length ≤ 8) (e : Int) : (pushError l e).length ≤ 8 := by
  rw [pushError_eq h, List.length_drop, List.length_append, List.length_singleton]; omega

/-! ### The mark at the discipline -/

/-- A taken mark that stays in TRACK, or ends HOLDOVER in it. -/
theorem TimeSound.trackMark {t : TimeBase} (h : TimeSound t) {e : Int} (he : e.natAbs ≤ 10000) {d : Discipline}
    (hd : d = .track) : TimeSound { t.trackMark e with disc := d } := by
  have hmem : ∀ x ∈ pushError t.history e, x ≤ 10000 := fun x hx => by
    rcases mem_pushError h.history hx with hx | rfl
    · exact h.magnitudes x hx
    · exact he
  subst hd
  exact ⟨by simp, fun _ => rfl, trackU_le hmem, hmem, pushError_length h.history e, trimAfter_range _ _ _, h.carry,
    h.refA, h.refB, h.range⟩

theorem TimeSound.cleared {t : TimeBase} (h : TimeSound t) (hd : t.disc ≠ .track) :
    TimeSound { t with history := [], excessRun := 0 } :=
  ⟨h.untracked, fun ht => absurd ht hd, h.bounded, by simp, by simp, h.trim, h.carry, h.refA, h.refB, h.range⟩

theorem sound_enterAcquire {label : Nat} (hl : label < 4294967296) {s : State} (h : TimeSound s.tb) :
    TimeSound (enterAcquire label s).tb := by
  rw [enterAcquire_tb]
  have hs := h.stepped hl
  exact ⟨fun _ => rfl, by simp, Nat.le_refl _, by simp, by simp, hs.trim, hs.carry, hs.refA, hs.refB, hs.range⟩

theorem sound_acquireMark {label : Nat} (hl : label < 4294967296) {e : Int} (he : e.natAbs ≤ 10000) {s : State}
    (h : TimeSound s.tb) : TimeSound (acquireMark label e s).tb := by
  by_cases h10 : 10 < e.natAbs
  · have hs := h.stepped hl
    rw [acquireMark_step h10, updateTime_tb, stepTime_tb]
    exact ⟨hs.untracked, hs.tracking, hs.bounded, hs.magnitudes, hs.history, trimAfter_range _ _ _, hs.carry, hs.refA,
      hs.refB, hs.range⟩
  · by_cases hrun : s.tb.acquireRun = 7
    · rw [acquireMark_track (Nat.not_lt.1 h10) label hrun]
      exact ⟨by simp, fun _ => rfl, trackU_le (by simpa using he), by simpa using he, by simp, trimAfter_range _ _ _,
        h.carry, h.refA, h.refB, h.range⟩
    · rw [acquireMark_run (Nat.not_lt.1 h10) label hrun]
      exact ⟨h.untracked, h.tracking, h.bounded, h.magnitudes, h.history, trimAfter_range _ _ _, h.carry, h.refA,
        h.refB, h.range⟩

theorem sound_trackStateMark {label : Nat} (hl : label < 4294967296) {e : Int} (he : e.natAbs ≤ 10000) {s : State}
    (h : TimeSound s.tb) (hd : s.tb.disc = .track) : TimeSound (trackStateMark label e s).tb := by
  have hexcess : ∀ n, TimeSound { s.tb with excessRun := n } := fun n =>
    ⟨h.untracked, h.tracking, h.bounded, h.magnitudes, h.history, h.trim, h.carry, h.refA, h.refB, h.range⟩
  by_cases h100 : 100 < e.natAbs
  · by_cases hrun : s.tb.excessRun = 2
    · rw [trackStateMark_third h100 label hrun]; exact sound_enterAcquire hl h
    · rw [trackStateMark_excess h100 label hrun]; exact (hexcess (s.tb.excessRun + 1)).trackMark he hd
  · rw [trackStateMark_small (Nat.not_lt.1 h100)]; exact (hexcess 0).trackMark he hd

theorem sound_holdoverMark {label : Nat} (hl : label < 4294967296) {e : Int} (he : e.natAbs ≤ 10000) {s : State}
    (h : TimeSound s.tb) (hd : s.tb.disc = .holdover) : TimeSound (holdoverMark label e s).tb := by
  unfold holdoverMark; split
  · exact (h.cleared (by simp [hd])).trackMark he rfl
  · exact sound_enterAcquire hl h

/-- A time set within the range of site time, where U is what it is at the start. -/
theorem sound_setTime {now : Time} (hlow : 0 ≤ now) (hhigh : now < Config.timeWrap) {s : State} (h : TimeSound s.tb)
    (hu : s.tb.u = Config.uMax) : TimeSound (moveDiscipline .acquire
      (updateTime (fun t => { t with acquireRun := 0 }) (replaceTime now s))).tb := by
  have hw := h.wrapped (now := now) (by simp only [Time, Config.timeWrap] at *; omega)
    (by simp only [Time, Config.timeWrap] at *; omega) h.carry Slew.none
  rw [moveDiscipline_tb, updateTime_tb, replaceTime_tb]
  exact ⟨fun _ => (wrapped_u _).trans hu, by simp, hw.bounded, hw.magnitudes, hw.history, hw.trim, hw.carry, hw.refA,
    hw.refB, hw.range⟩

theorem sound_setTimeMark {label : Nat} (hl : label < 4294967296) {s : State} (h : TimeSound s.tb)
    (hd : s.tb.disc = .unset) : TimeSound (setTimeMark label s).tb :=
  sound_setTime (by simp only [Time, Config.second]; omega)
    (by simp only [Time, Config.timeWrap, Config.second]; omega) h (h.untracked (.inl hd))

theorem sound_disciplineMark {label : Nat} (hl : label < 4294967296) {s : State} (h : TimeSound s.tb) :
    TimeSound (disciplineMark label s).tb := by
  have he := phaseError_le s.tb.now label
  unfold disciplineMark; dsimp only
  split
  · next hd => exact sound_setTimeMark hl h hd
  · exact sound_acquireMark hl he h
  · next hd => exact sound_trackStateMark hl he h hd
  · next hd => exact sound_holdoverMark hl he h hd

/-! ### The second boundary -/

theorem timeLaw_boundary {s : State} (h : TimeLaw s) : TimeLaw (boundary s) := by
  unfold boundary; split
  · rw [timeLaw_iff] at h ⊢
    obtain ⟨hs, hg⟩ := h
    rw [raiseBoundary_tb]; unfold grown; split
    · next hd =>
      refine ⟨(TimeSound.changeTest ?_ _).graded, gradeCurrent_graded _⟩
      exact ⟨by simp [show s.tb.disc = .holdover from hd], by simp [show s.tb.disc = .holdover from hd],
        Nat.min_le_right _ _, hs.magnitudes, hs.history, hs.trim, hs.carry, hs.refA, hs.refB, hs.range⟩
    · exact ⟨⟨hs.untracked, hs.tracking, hs.bounded, hs.magnitudes, hs.history, hs.trim, hs.carry, hs.refA, hs.refB,
        hs.range⟩, hg⟩
  · exact h

theorem timeLaw_takeMark {r : Ref} {label : Nat} (hl : label < 4294967296) {s : State} (h : TimeLaw s) :
    TimeLaw (takeMark r label s) := by
  rw [takeMark_eq]; split
  · apply timeLaw_boundary
    rw [timeLaw_iff] at h ⊢
    have hd := sound_disciplineMark hl h.1
    have hm : TimeSound (markSettled label s) := (TimeSound.changeTest (t := { (disciplineMark label s).tb with
      lastTaken := some (disciplineMark label s).tb.now }) ⟨hd.untracked, hd.tracking, hd.bounded, hd.magnitudes,
        hd.history, hd.trim, hd.carry, hd.refA, hd.refB, hd.range⟩ _).graded
    have hg : GradeCurrent (markSettled label s) := gradeCurrent_graded _
    rw [markMet_tb]; split
    · exact ⟨hm.updateRef r fun hx => hx.windowTaken _, hg.updateRef r _⟩
    · exact ⟨hm, hg⟩
  · exact h

/-! ### Verdicts, the selection and a new fitted set -/

theorem TimeSound.answered {t : TimeBase} (h : TimeSound t) (new : Option Ref) : TimeSound (answered new t) := by
  have hhold : t.disc = .acquire ∨ t.disc = .track → TimeSound { t with
      history := [], excessRun := 0, uEntry := t.u, holdSeconds := 0, disc := .holdover } := fun _ =>
    ⟨by simp, by simp, h.bounded, by simp, by simp, h.trim, h.carry, h.refA, h.refB, h.range⟩
  unfold Proofs.answered answerSelection
  split
  · next hd =>
    split
    · exact hhold (.inl hd)
    · exact ⟨fun _ => h.untracked (.inr hd), by simp, h.bounded, h.magnitudes, h.history, h.trim, h.carry, h.refA,
        h.refB, h.range⟩
  · exact ⟨h.untracked, h.tracking, h.bounded, h.magnitudes, h.history, h.trim, h.carry, h.refA, h.refB, h.range⟩
  · next hd => exact hhold (.inr hd)
  · exact h
  · exact h
  · exact h

/-- The law of the time base, with the grade. -/
theorem reselected_law {t : TimeBase} (hs : TimeSound t) (hg : GradeCurrent t) :
    TimeSound (reselected t) ∧ GradeCurrent (reselected t) := by
  unfold reselected; split
  · exact ⟨hs, hg⟩
  · refine ⟨(TimeSound.changeTest (TimeSound.answered ?_ _) _).graded, gradeCurrent_graded _⟩
    exact ⟨hs.untracked, hs.tracking, hs.bounded, hs.magnitudes, hs.history, hs.trim, hs.carry, hs.refA, hs.refB,
      hs.range⟩

theorem timeLaw_reselect {s : State} (h : TimeLaw s) : TimeLaw (reselect s) := by
  rw [timeLaw_iff] at h ⊢; rw [reselect_tb]; exact reselected_law h.1 h.2

theorem timeLaw_updateRef (r : Ref) {f : RefRecord → RefRecord} (hf : ∀ x, RefSound x → RefSound (f x)) {s : State}
    (h : TimeLaw s) : TimeLaw (updateRef r f s) := by
  rw [timeLaw_iff] at h ⊢
  exact ⟨h.1.updateRef r (hf _), h.2.updateRef r f⟩

theorem timeLaw_giveMarkVerdict (r : Ref) (v : Verdict) {s : State} (h : TimeLaw s) :
    TimeLaw (giveMarkVerdict r v s) := by
  have hj := timeLaw_updateRef r (f := fun x => x.judged v) (fun _ hx => hx.judged v) h
  unfold giveMarkVerdict validityChanged; dsimp only; split
  · exact hj
  · exact timeLaw_reselect (timeLaw_of_tb (by rfl) hj)

theorem timeLaw_markArrives (r : Ref) {s : State} (h : TimeLaw s) : TimeLaw (markArrives r s) := by
  have hlabel : ∀ n, (s.tb.ref r).lastLabel = some n → n < 4294967296 :=
    (((timeLaw_iff s).1 h).1.ref r).2
  have hrecord : TimeLaw (recordMark r s) := timeLaw_updateRef r (fun x hx => RefSound.unlabelled (by
    split
    · exact hx.windowTaken _
    · exact hx.markTaken _ _)) h
  have hgiven := timeLaw_giveMarkVerdict r (verdictNow r s) hrecord
  unfold markArrives; dsimp only; split
  · next n hv hn => exact timeLaw_takeMark (hlabel n hn) hgiven
  · exact hgiven

theorem timeLaw_takeFitted (a b : Bool) {s : State} (h : TimeLaw s) : TimeLaw (takeFitted a b s) := by
  have hunfit : ∀ (r : Ref) (was : Bool) (t : State), TimeLaw t → TimeLaw (unfitRef r was t) := by
    intro r was t ht
    have hu := timeLaw_updateRef r (f := RefRecord.unfit) (fun _ _ => .unfit) ht
    unfold unfitRef; dsimp only; (repeat' split)
    · exact timeLaw_of_tb (by rfl) hu
    · exact hu
    · exact ht
  have hfit : ∀ (r : Ref) (was : Bool) (t : State), TimeLaw t → TimeLaw (fitRef r was t) := by
    intro r was t ht
    unfold fitRef; split
    · exact timeLaw_updateRef r (fun _ _ => RefSound.unfit.openWindows _) ht
    · exact ht
  exact timeLaw_reselect (hfit _ _ _ (hfit _ _ _ (hunfit _ _ _ (hunfit _ _ _ h))))

theorem takeUp_tb (c : SiteConfig) (a b : Bool) (s : State) :
    (takeUp c a b s).tb = (takeFitted a b (takeRoster c (enableReceiver s))).tb := by
  unfold takeUp
  rw [tb_of_calm (calm_checkLow _), tb_of_calm (calm_checkHigh _), tb_of_calm (calm_compareU _)]

theorem timeLaw_loadRecord (record : List Byte) {s : State} (h : TimeLaw s) : TimeLaw (loadRecord record s) := by
  have hraised : ∀ l, TimeLaw (raiseAll l s) := fun l =>
    timeLaw_of_tb (congrArg Prod.fst (frame_raiseAll l s)) h
  unfold loadRecord; split
  · exact timeLaw_of_tb (takeUp_tb _ _ _ _) (timeLaw_takeFitted _ _ (timeLaw_of_tb (by rfl) (hraised _)))
  · exact timeLaw_of_tb (congrArg Prod.fst (frame_loadFault _ _)) (timeLaw_of_tb (by rfl) (hraised _))

/-! ### Labels and resets -/

theorem byteAt_lt (l : List Byte) (i : Nat) : byteAt l i < 256 := BitVec.isLt _

/-- A number in `n` bytes lies below 256 to the `n`. -/
theorem numAt_lt (l : List Byte) (i n : Nat) : numAt l i n < 256 ^ n := by
  induction n with
  | zero => simp [numAt]
  | succ n ih => have hb := byteAt_lt l (i + n); rw [numAt, Nat.pow_succ]; omega

theorem labelOf_lt {record : List Byte} {n : Nat} (h : labelOf record = some n) : n < 4294967296 := by
  unfold labelOf at h
  split at h
  · cases h; exact numAt_lt record 0 4
  · cases h

theorem timeLaw_takeLabel (r : Ref) (record : List Byte) {s : State} (h : TimeLaw s) : TimeLaw (takeLabel r record s) := by
  refine timeLaw_updateRef r (fun x hx => ?_) h
  split
  · next n hn => exact ⟨hx.1, fun m hm => by cases hm; exact labelOf_lt hn⟩
  · exact hx

theorem timeLaw_reset : TimeLaw State.reset := by
  rw [timeLaw_iff]
  have hreset : RefSound RefRecord.reset := ⟨⟨by decide, by decide⟩, fun n hn => by cases hn⟩
  exact ⟨⟨fun _ => rfl, by decide, by decide, by decide, by decide, by decide, by decide, hreset, hreset, by decide⟩, rfl⟩

/-! ### Every step -/

/-- A command keeps the law of the time base: one that does not set site time leaves the time base, and each of the six
others keeps it. -/
theorem timeLaw_exec {c : Instr} {s t : State} (hs : TimeLaw s) (h : exec c s = .next t) : TimeLaw t := by
  cases hc : setsTime c with
  | false => exact timeLaw_of_tb (exec_tb hc h) hs
  | true =>
    cases c with
    | powerOnReset => rw [next_inj h]; exact timeLaw_of_tb (by rfl) timeLaw_reset
    | configReadComplete record =>
      simp only [exec, execConfigReadComplete] at h
      split at h
      · rw [next_inj h]; split
        · exact timeLaw_loadRecord record hs
        · exact hs
      · cases h
    | labelRecord r record =>
      simp only [exec, execLabelRecord] at h
      split at h
      · rw [next_inj h]; split
        · exact timeLaw_takeLabel r record hs
        · exact hs
      · cases h
    | markArrival r =>
      rw [next_inj h]; split
      · exact timeLaw_markArrives r hs
      · exact hs
    | missingVerdict r =>
      rw [next_inj h]; split
      · exact timeLaw_giveMarkVerdict r .missing (timeLaw_updateRef r (fun _ hx => hx.missed _ _) hs)
      · exact hs
    | secondBoundary => rw [next_inj h]; exact timeLaw_boundary hs
    | _ => cases hc

/-- Settles O59: a step is a command, run with the queue's rest or after a free choice, or a TU of the oscillator. -/
theorem timeLawIsKept : Obligations.TimeLawIsKept := by
  unfold Obligations.TimeLawIsKept
  intro s t hs h
  unfold step at h; split at h
  · exact timeLaw_exec (timeLaw_of_tb (by rfl) hs) h
  · unfold idle at h; split at h
    · exact timeLaw_exec (timeLaw_of_tb (by rfl) hs) h
    · rw [next_inj h]; exact timeLaw_tick hs

end Sys2Proof.Proofs
end

section
/-! The step, the resets and the labels: statements that follow from the definitions of the operations they name. -/

namespace Sys2Proof.Proofs

open Sys2Proof Sys2Proof.Machine Sys2Proof.Laws

/-! ### The step -/

theorem chooseDue_none {s : State} (h : dueNow s = []) : chooseDue s = none := by
  rw [chooseDue, h]; rfl

theorem step_idle {s : State} (h : s.pending = []) : step s = idle s := by
  unfold step; split
  · next hp => exact absurd (hp.symm.trans h) (by simp)
  · rfl

theorem idle_due {s : State} {c : Instr} (h : chooseDue s = some c) :
    idle s = exec c { s with choices := s.choices + 1 } := by
  unfold idle; split
  · next hc => rw [Option.some.inj (hc.symm.trans h)]
  · next hc => exact absurd (hc.symm.trans h) (by simp)

theorem idle_tick {s : State} (h : chooseDue s = none) : idle s = .next (tick s) := by
  unfold idle; split
  · next hc => exact absurd (hc.symm.trans h) (by simp)
  · rfl

/-- Settles O1, by the two cases of the queue and the two of the choice. -/
theorem stepTakesTheFrontCommand : Obligations.StepTakesTheFrontCommand := by
  unfold Obligations.StepTakesTheFrontCommand
  refine ⟨fun c rest s => rfl, fun c s hq hc => ?_, fun s hq hd => ?_⟩
  · rw [step_idle hq, idle_due hc]
  · rw [step_idle hq, idle_tick (chooseDue_none hd)]; rfl

/-! ### What stops a command -/

/-- The commands whose operand has a length to meet. -/
def measured : Instr → Bool
  | .configReadComplete _ => true
  | .labelRecord _ _ => true
  | .cellTaken _ => true
  | .zoneMessage _ => true
  | _ => false

theorem exec_unmeasured {c : Instr} (hc : measured c = false) (s : State) :
    c.wellFormed = true ∧ ∃ t, exec c s = .next t := by
  cases c with
  | configReadComplete record | labelRecord r record | cellTaken cell | zoneMessage bytes => cases hc
  | _ => exact ⟨rfl, _, rfl⟩

/-- A measured command stops on an operand of another length, and completes on one of its own. -/
theorem exec_measured {c : Instr} (hc : measured c = true) (s : State) :
    (c.wellFormed = false → exec c s = .fault .illFormed) ∧ (c.wellFormed = true → ∃ t, exec c s = .next t) := by
  cases c with
  | configReadComplete record | labelRecord r record | cellTaken cell | zoneMessage bytes =>
    exact ⟨fun h => if_neg (by rw [h]; decide), fun h => ⟨_, if_pos h⟩⟩
  | _ => cases hc

/-- Settles O56: four commands have a length to meet, and the others always complete. -/
theorem onlyIllFormedOperandsStop : Obligations.OnlyIllFormedOperandsStop := by
  unfold Obligations.OnlyIllFormedOperandsStop
  intro c s
  cases hc : measured c with
  | true => exact exec_measured hc s
  | false =>
    obtain ⟨hwf, hnext⟩ := exec_unmeasured hc s
    exact ⟨fun h => absurd (hwf.symm.trans h) (by decide), fun _ => hnext⟩

/-! ### POWER_ON_RESET -/

/-- Settles O4: the command answers the state after power-on with the queue, the choices and the receive line left. -/
theorem powerOnResetGivesEveryBlockItsValues : Obligations.PowerOnResetGivesEveryBlockItsValues := by
  unfold Obligations.PowerOnResetGivesEveryBlockItsValues
  intro s
  refine ⟨_, rfl, ?_, fun r => ?_, ?_⟩
  · simp [State.reset, TimeBase.reset, Slew.none, Slew.remainder, State.fitted, State.growth, State.setting,
      SiteControl.reset]
  · cases r <;> simp [State.reset, TimeBase.reset, TimeBase.ref, RefRecord.reset]
  · simp [State.reset, Intake.reset, Emission.resetWith, CellQueue.reset, SpotStore.reset, CueDecoder.reset,
      ZoneLine.resetAt, PeerRoster.resetAt, Channels.reset]

theorem capacityLaw_reset : CapacityLaw State.reset :=
  ⟨by decide, by decide, by decide, by decide, by decide, by decide, by decide, by simp [State.reset, Emission.resetWith],
    by decide, List.length_replicate, List.length_replicate⟩

theorem airLaw_reset : AirLaw State.reset := by
  constructor <;> decide

theorem breakTableLaw_reset : BreakTableLaw State.reset := by
  constructor <;> simp [State.reset, CueDecoder.reset]

theorem agreementLaw_reset : AgreementLaw State.reset := by
  constructor <;> simp [State.reset, CueDecoder.reset]

/-- A channel after reset, and no other, stands in each of the four places. -/
theorem channel_reset {k : Nat} {c : Channel} (h : State.reset.chans.chan[k]? = some c) : c = Channel.reset := by
  have hmem : c ∈ List.replicate 4 Channel.reset := List.mem_of_getElem? h
  exact List.eq_of_mem_replicate hmem

theorem channelLaw_reset : ChannelLaw State.reset := by
  refine ⟨fun k _ c hc => ?_, fun k _ c b hc hb => ?_, by simp [State.reset, CueDecoder.reset],
    fun j _ k _ c d hc _ _ hidle => ?_⟩
  · rw [channel_reset hc]; simp [Channel.reset]
  · rw [channel_reset hc] at hb; cases hb
  · rw [channel_reset hc] at hidle; exact absurd rfl hidle

/-- A store without entries or a segment in assembly has its pages on the free list alone. -/
theorem pages_of_empty {st : SpotStore} (hd : st.directory = []) (ha : st.assembler = .idle) :
    st.directory.flatMap Entry.pages ++ st.capturePage ++ st.freePages = st.freePages := by
  rw [SpotStore.capturePage, hd, ha]; rfl

theorem pageLaw_reset : PageLaw State.reset := by
  have hfree : State.reset.store.freePages = List.range Config.storePages := by simp only [State.reset, SpotStore.reset]
  refine ⟨.of_eq ((pages_of_empty rfl rfl).trans hfree), List.nodup_nil, ?_, ?_, ?_⟩ <;>
    simp [State.reset, SpotStore.reset]

/-- Settles O57, law by law. -/
theorem resetMeetsEveryLaw : Obligations.ResetMeetsEveryLaw := by
  unfold Obligations.ResetMeetsEveryLaw
  exact ⟨memoryLaw_reset, capacityLaw_reset, timeLaw_reset, airLaw_reset, breakTableLaw_reset, agreementLaw_reset,
    channelLaw_reset, pageLaw_reset⟩

/-! ### LABEL_RECORD -/

/-- Settles O6: the label's check decides between the last label and a bad one. -/
theorem labelRecordIsTakenOrCounted : Obligations.LabelRecordIsTakenOrCounted := by
  unfold Obligations.LabelRecordIsTakenOrCounted
  intro r record s hlength
  have hwf : (Instr.labelRecord r record).wellFormed = true := (Lengths.labelRecord r record).2 hlength
  have hexec : exec (.labelRecord r record) s = .next (if s.fitted r then takeLabel r record s else s) := if_pos hwf
  rw [hexec]
  cases hfit : s.fitted r with
  | false => rfl
  | true =>
    by_cases hcrc : crc16 (record.take 4) = BitVec.ofNat 16 (numAt record 4 2)
    · have hlabel : labelOf record = some (numAt record 0 4) := if_pos hcrc
      simp only [takeLabel, hlabel, if_pos hcrc]; rfl
    · have hlabel : labelOf record = none := if_neg hcrc
      simp only [takeLabel, hlabel, if_neg hcrc]; rfl

end Sys2Proof.Proofs
end

section
/-! The count of site time: the trim, the slew and the wrap of S (R1, R17). -/

namespace Sys2Proof.Proofs

open Sys2Proof Sys2Proof.Machine Sys2Proof.Laws

theorem iter_succ_last {α : Type} (f : α → α) (n : Nat) (x : α) : iter f (n + 1) x = f (iter f n x) := by
  induction n generalizing x with
  | zero => rfl
  | succ n ih => rw [iter, ih]; rfl

/-- A TU that leaves site time in its range moves no other instant. -/
theorem tick_of_range {s : State} (h : 0 ≤ s.tb.tick.now) (h' : s.tb.tick.now < Config.timeWrap) :
    tick s = { s with osc := s.osc + 1, tb := s.tb.tick } := wrapTime_of_range (s := { s with
      osc := s.osc + 1, tb := s.tb.tick }) h h'

/-! ### The trim -/

theorem advance_none (n : Nat) : Slew.none.advance n = (Slew.none, 0) := rfl

/-- One TU without a slew. -/
theorem tick_unslewed {t : TimeBase} (h : t.slew = Slew.none) :
    t.tick = { t with now := t.now + baseAdvance t.trim t.carry, carry := nextCarry t.trim t.carry } := by
  unfold TimeBase.tick; dsimp only
  rw [h, advance_none, Int.add_zero, ← h]

/-- What the trim makes of one TU, in units of 10^-11 TU (R1). -/
theorem trim_account {trim : Int} {carry : Nat} (hc : carry < Config.carryPart) (hlow : -Config.trimMax ≤ trim)
    (hhigh : trim ≤ Config.trimMax) :
    (0 ≤ trim → (Config.carryPart : Int) * (baseAdvance trim carry - 1) = trim + carry - nextCarry trim carry)
      ∧ (trim < 0 → (Config.carryPart : Int) * (baseAdvance trim carry - 1) = trim - carry + nextCarry trim carry) := by
  simp only [baseAdvance, trimPart, nextCarry, Config.carryPart, Config.trimMax, decide_eq_true_eq] at *
  constructor <;> intro h <;> (repeat' split) <;> omega

/-- The accounts of `n` TU and of one more add up: `p` units a TU, site time from `x` over `x + b` to `y`, the carry
from `c` over `d` to `c'`, counted with the sign of the trim. -/
theorem account_succ {p x y b n trim c d c' : Int} :
    (p * (y - (x + b) - n) = n * trim + d - c' → p * (b - 1) = trim + c - d →
      p * (y - x - (n + 1)) = (n + 1) * trim + c - c')
    ∧ (p * (y - (x + b) - n) = n * trim - d + c' → p * (b - 1) = trim - c + d →
      p * (y - x - (n + 1)) = (n + 1) * trim - c + c') :=
  ⟨fun hn h1 => by linear_combination hn + h1, fun hn h1 => by linear_combination hn + h1⟩

/-- `n` TU without a slew account for the trim (R1). -/
theorem iter_tick_unslewed (n : Nat) (s : State) (hslew : s.tb.slew = Slew.none) (hc : s.tb.carry < Config.carryPart)
    (hlow : -Config.trimMax ≤ s.tb.trim) (hhigh : s.tb.trim ≤ Config.trimMax) (h0 : 0 ≤ s.tb.now)
    (hn : s.tb.now + 2 * n < Config.timeWrap) :
    let t := iter tick n s
    let extra := t.tb.now - s.tb.now - n
    t.osc = s.osc + n ∧ t.tb.trim = s.tb.trim ∧ t.tb.slew = Slew.none ∧ t.tb.carry < Config.carryPart
      ∧ s.tb.now ≤ t.tb.now
      ∧ (0 ≤ s.tb.trim → Config.carryPart * extra = n * s.tb.trim + s.tb.carry - t.tb.carry)
      ∧ (s.tb.trim < 0 → Config.carryPart * extra = n * s.tb.trim - s.tb.carry + t.tb.carry) := by
  induction n generalizing s with
  | zero => simp [iter, hslew, hc]
  | succ n ih =>
    have hb := baseAdvance_le s.tb.trim s.tb.carry
    have htb := tick_unslewed hslew
    have hnow : s.tb.tick.now = s.tb.now + baseAdvance s.tb.trim s.tb.carry := by rw [htb]
    have htick := tick_of_range (s := s) (by rw [hnow]; simp only [Time, Config.timeWrap] at *; omega)
      (by rw [hnow]; simp only [Time, Config.timeWrap] at *; omega)
    obtain ⟨hpos, hneg⟩ := trim_account hc hlow hhigh
    have hstep := ih (tick s) (by rw [htick, htb]; exact hslew)
      (by rw [htick, htb]; exact nextCarry_lt ⟨hlow, hhigh⟩ hc) (by rw [htick, htb]; exact hlow)
      (by rw [htick, htb]; exact hhigh) (by rw [htick]; simp only [hnow, Time, Config.timeWrap] at *; omega)
      (by rw [htick]; simp only [hnow, Time, Config.timeWrap] at *; omega)
    have hn1 : (tick s).tb.now = s.tb.now + baseAdvance s.tb.trim s.tb.carry := by rw [htick]; exact hnow
    have hc1 : (tick s).tb.carry = nextCarry s.tb.trim s.tb.carry := by rw [htick, htb]
    have ht1 : (tick s).tb.trim = s.tb.trim := by rw [htick, htb]
    have ho1 : (tick s).osc = s.osc + 1 := by rw [htick]
    rw [hn1, hc1, ht1, ho1] at hstep
    obtain ⟨hosc, htrim, hs, hcarry, hle, hp, hm⟩ := hstep
    refine ⟨by rw [iter, hosc]; omega, htrim, hs, hcarry, by rw [iter]; simp only [Time] at *; omega,
      fun h => ?_, fun h => ?_⟩
    · exact account_succ.1 (hp h) (hpos h)
    · exact account_succ.2 (hm h) (hneg h)

/-! ### The slew -/

/-- The parts of a slew of `k` made once site time has advanced by `a` without it (R17). -/
def slewParts (k : Int) (a : Nat) : Nat := min k.natAbs (a * k.natAbs / 10000000)

/-- The slew then: its parts made and the advance counted, or none once all are made. -/
def slewAfter (k : Int) (a : Nat) : Slew :=
  if slewParts k a < k.natAbs then ⟨k, slewParts k a, a⟩ else Slew.none

theorem slewPoint_le_iff {k : Int} (hk : 1 ≤ k.natAbs) (j x : Nat) :
    slewPoint k j ≤ x ↔ j * 10000000 ≤ x * k.natAbs := by
  rw [slewPoint, Nat.div_le_iff_le_mul_add_pred hk, Nat.mul_comm x]; omega

/-- A TU of the oscillator at a slew: it makes the parts that the advance has reached. -/
theorem slewAfter_advance {k : Int} (hk : 1 ≤ k.natAbs) (hk' : k.natAbs ≤ 2500) (a : Nat) {m : Nat} (hm : m ≤ 2) :
    (slewAfter k a).advance m
      = (slewAfter k (a + m), k.sign * ((slewParts k (a + m) : Int) - slewParts k a)) := by
  have hsmall : m * k.natAbs ≤ 5000 := (Nat.mul_le_mul hm hk').trans (by decide)
  have hsum : (a + m) * k.natAbs = a * k.natAbs + m * k.natAbs := Nat.add_mul _ _ _
  have hpoint := slewPoint_le_iff hk (slewParts k a + 1) (a + m)
  by_cases hdone : slewParts k a < k.natAbs
  · rw [slewAfter, if_pos hdone, Slew.advance]; dsimp only; rw [if_pos hdone]
    by_cases hreach : slewPoint k (slewParts k a + 1) ≤ a + m
    · have hnext : slewParts k (a + m) = slewParts k a + 1 := by
        have := hpoint.1 hreach
        simp only [slewParts] at *; omega
      rw [if_pos hreach, slewAfter, hnext]
      by_cases hlast : slewParts k a + 1 = k.natAbs
      · rw [if_pos hlast, if_neg (by omega)]; simp
      · rw [if_neg hlast, if_pos (by omega)]; simp
    · have hnext : slewParts k (a + m) = slewParts k a := by
        have := mt hpoint.2 hreach
        simp only [slewParts] at *; omega
      rw [if_neg hreach, slewAfter, hnext, if_pos hdone]; simp
  · have hnext : slewParts k (a + m) = slewParts k a := by simp only [slewParts] at *; omega
    rw [slewAfter, if_neg hdone, advance_none, slewAfter, hnext, if_neg hdone]; simp

theorem slewAfter_remainder (k : Int) (a : Nat) : (slewAfter k a).remainder = k - k.sign * slewParts k a := by
  by_cases hdone : slewParts k a < k.natAbs
  · rw [slewAfter, if_pos hdone]; rfl
  · have hall : slewParts k a = k.natAbs := by simp only [slewParts] at *; omega
    rw [slewAfter, if_neg hdone, hall, Int.sign_mul_natAbs, Int.sub_self]; rfl

theorem slewParts_le {k : Int} (hk : k.natAbs ≤ 2500) (a : Nat) : slewParts k a ≤ a ∧ slewParts k a ≤ 2500 := by
  have h : a * k.natAbs ≤ a * 2500 := Nat.mul_le_mul_left a hk
  simp only [slewParts]; omega

/-- The state with a slew that has just begun, and the one without it, after `n` TU of the oscillator each. -/
structure Slewed (k : Int) (n : Nat) (s t free : State) (a : Nat) : Prop where
  unslewed : free.tb.slew = Slew.none
  advanced : free.tb.now = s.tb.now + a
  bound : a ≤ 2 * n
  now : t.tb.now = free.tb.now + k.sign * slewParts k a
  slew : t.tb.slew = slewAfter k a
  carry : t.tb.carry = free.tb.carry
  trim : t.tb.trim = s.tb.trim
  freeTrim : free.tb.trim = s.tb.trim

theorem slewed_iter (n : Nat) {k : Int} {s : State} (hs : s.tb.slew = ⟨k, 0, 0⟩) (hk : 1 ≤ k.natAbs)
    (hk' : k.natAbs ≤ 2500) (h0 : 0 ≤ s.tb.now) (hn : s.tb.now + 2 * n + 2500 < Config.timeWrap) :
    ∃ a, Slewed k n s (iter tick n s) (iter tick n { s with tb := { s.tb with slew := Slew.none } }) a := by
  induction n with
  | zero =>
    have hstart : slewParts k 0 = 0 := by simp [slewParts]
    refine ⟨0, rfl, by simp [iter], Nat.le_refl _, by simp [iter, hstart], ?_, rfl, rfl, rfl⟩
    rw [slewAfter, hstart, if_pos (Nat.lt_of_lt_of_le Nat.zero_lt_one hk)]; exact hs
  | succ n ih =>
    obtain ⟨a, hfree, hadv, hbound, hnow, hslew, hcarry, htrim, hftrim⟩ :=
      ih (by simp only [Time, Config.timeWrap] at *; push_cast at hn; omega)
    rw [iter_succ_last, iter_succ_last]
    generalize iter tick n s = t at *
    generalize iter tick n { s with tb := { s.tb with slew := Slew.none } } = f at *
    have hb := baseAdvance_le f.tb.trim f.tb.carry
    have hp := slewParts_le hk' (a + baseAdvance f.tb.trim f.tb.carry)
    have hsign : k.sign = 1 ∨ k.sign = -1 := by
      rcases Int.sign_trichotomy k with h | h | h
      · exact .inl h
      · rw [Int.sign_eq_zero_iff_zero] at h; subst h; exact absurd hk (by decide)
      · exact .inr h
    have hftb := tick_unslewed hfree
    have hadvance := slewAfter_advance hk hk' a hb
    have hsame : baseAdvance t.tb.trim t.tb.carry = baseAdvance f.tb.trim f.tb.carry := by
      rw [htrim, hftrim, hcarry]
    have httb : t.tb.tick = { t.tb with
        now := f.tb.now + baseAdvance f.tb.trim f.tb.carry
          + k.sign * slewParts k (a + baseAdvance f.tb.trim f.tb.carry)
        carry := nextCarry f.tb.trim f.tb.carry
        slew := slewAfter k (a + baseAdvance f.tb.trim f.tb.carry) } := by
      unfold TimeBase.tick; dsimp only
      rw [hsame, hslew, hadvance, hnow, hcarry, htrim, ← hftrim]
      congr 1
      simp only [Time]; ring
    have hftick := tick_of_range (s := f)
      (by rw [hftb]; simp only [Time, Config.timeWrap] at *; push_cast at hn; omega)
      (by rw [hftb]; simp only [Time, Config.timeWrap] at *; push_cast at hn; omega)
    have httick := tick_of_range (s := t)
      (by rw [httb]; simp only [Time, Config.timeWrap] at *; push_cast at hn; rcases hsign with h | h <;> rw [h] <;> omega)
      (by rw [httb]; simp only [Time, Config.timeWrap] at *; push_cast at hn; rcases hsign with h | h <;> rw [h] <;> omega)
    refine ⟨a + baseAdvance f.tb.trim f.tb.carry, ?_, ?_, ?_, ?_, ?_, ?_, ?_, ?_⟩
    · rw [hftick, hftb]; exact hfree
    · rw [hftick, hftb, hadv]; push_cast; simp only [Time]; ring
    · omega
    · rw [httick, httb, hftick, hftb]
    · rw [httick, httb]
    · rw [httick, httb, hftick, hftb]
    · rw [httick, httb]; exact htrim
    · rw [hftick, hftb]; exact hftrim

/-! ### The wrap of S -/

theorem dueTime_shift (k : Int) (s : State) : dueTime (s.shift k) = dueTime s := by
  simp only [dueTime, boundaryDue_shift, missingDue_shift]

theorem dueControl_shift (k : Int) (s : State) : dueControl (s.shift k) = dueControl s := rfl

theorem feedLossDue_shift (k : Int) (s : State) : feedLossDue (s.shift k) = feedLossDue s := by
  simp only [feedLossDue, stateShift_tb, shift_now, stateShift_intake, Intake.shift, isDue_shift]

theorem dueNow_shift (k : Int) (s : State) : dueNow (s.shift k) = dueNow s := by
  have hstarve : isDue (s.shift k).tb.now (s.shift k).em.starve = isDue s.tb.now s.em.starve := isDue_shift k _ _
  simp only [dueNow, dueTime_shift, dueControl_shift, feedLossDue_shift, dueEmission_shift, hstarve, checkDue_shift,
    dueBreaks_shift, dueZone_shift]

/-- A TU that carries S past its maximum moves every instant back by one wrap (R1). -/
theorem tick_wraps {s : State} (h : Config.timeWrap ≤ s.tb.tick.now) :
    tick s = ({ s with osc := s.osc + 1, tb := s.tb.tick } : State).shift (-1) := if_pos h

/-- Settles O3: without a slew by induction on the TU; with one beside the run without it; at the wrap because all that
is due moves with site time. -/
theorem ticksAccountForTheTrimAndTheSlew : Obligations.TicksAccountForTheTrimAndTheSlew := by
  unfold Obligations.TicksAccountForTheTrimAndTheSlew
  refine ⟨iter_tick_unslewed, fun n k s hs hk hk' h0 hn => ?_, fun s => ⟨tick_of_range, fun h => ⟨?_, ?_⟩⟩⟩
  · obtain ⟨a, -, hadv, -, hnow, hslew, hcarry, htrim, -⟩ := slewed_iter n hs hk hk' h0 hn
    dsimp only
    have ha : ((iter tick n { s with tb := { s.tb with slew := Slew.none } }).tb.now - s.tb.now).toNat = a := by
      rw [hadv]; simp
    have hparts := slewParts_le hk' a
    rw [ha]
    refine ⟨hnow, by rw [hslew]; exact slewAfter_remainder k a, ?_, hcarry, htrim⟩
    rw [hnow, hadv]
    have hsign : -1 ≤ k.sign := by rcases Int.sign_trichotomy k with h | h | h <;> rw [h] <;> decide
    have hmul : -1 * (slewParts k a : Int) ≤ k.sign * slewParts k a :=
      Int.mul_le_mul_of_nonneg_right hsign (Int.natCast_nonneg _)
    simp only [Time] at *; omega
  · rw [tick_wraps h]
    simp only [stateShift_tb, shift_now, shiftTime, Config.timeWrap]; simp only [Time]; omega
  · rw [tick_wraps h]; exact dueNow_shift (-1) _

end Sys2Proof.Proofs
end

section
/-! What a mark makes of the time base: its verdict, the reference's record, the selection and the discipline state
(R3 to R13). -/

namespace Sys2Proof.Proofs

open Sys2Proof Sys2Proof.Machine Sys2Proof.Laws

/-! ### The windows -/

/-- A site time lies in the window of the boundary `b` (R4). -/
theorem windowOf_eq_some {now : Time} {b : Int} :
    windowOf now = some b ↔ b * 10000000 - 10000 ≤ now ∧ now ≤ b * 10000000 + 10000 := by
  unfold windowOf; dsimp only
  simp only [Time, Config.markWindow, Config.second] at *
  split <;> simp only [Option.some.injEq, reduceCtorEq, false_iff] <;> omega

theorem windowOf_eq_none {now : Time} :
    windowOf now = none ↔ ∀ b : Int, ¬(b * 10000000 - 10000 ≤ now ∧ now ≤ b * 10000000 + 10000) := by
  simp only [Option.eq_none_iff_forall_ne_some, ne_eq, windowOf_eq_some]

/-! ### The reference's record at a mark -/

/-- A reference's record once a mark has used its label and the test in force has kept its account. -/
def marked (t : TimeBase) (x : RefRecord) : RefRecord :=
  { (if localTest t then x.windowTaken t.now else x.markTaken x.lastLabel t.now) with lastLabel := none }

theorem recordMark_eq (r : Ref) (s : State) : recordMark r s = updateRef r (marked s.tb) s := rfl

theorem windowTaken_eq {now : Time} {b : Int} (h : windowOf now = some b) (x : RefRecord) :
    x.windowTaken now = { x with windowMark := some b, windowClosed := b } := by
  unfold RefRecord.windowTaken; rw [h]

theorem windowTaken_none {now : Time} (h : windowOf now = none) (x : RefRecord) : x.windowTaken now = x := by
  unfold RefRecord.windowTaken; rw [h]

theorem marked_local {t : TimeBase} (h : localTest t = true) (x : RefRecord) :
    marked t x = { x.windowTaken t.now with lastLabel := none } := by rw [marked, if_pos h]

theorem marked_markToMark {t : TimeBase} (h : localTest t = false) (x : RefRecord) : marked t x = { x with
    lastMark := x.lastLabel.map fun n => (t.now, n)
    expected := x.lastLabel.map fun n => (t.now + 10000000, (n + 1) % 4294967296)
    lastLabel := none } := by
  rw [marked, if_neg (by simp [h])]
  unfold RefRecord.markTaken
  cases hl : x.lastLabel <;> simp [Config.second]

@[simp] theorem windowTaken_valid (x : RefRecord) (now : Time) : (x.windowTaken now).valid = x.valid := by
  unfold RefRecord.windowTaken; split <;> rfl
@[simp] theorem windowTaken_goodRun (x : RefRecord) (now : Time) : (x.windowTaken now).goodRun = x.goodRun := by
  unfold RefRecord.windowTaken; split <;> rfl
@[simp] theorem windowTaken_badRun (x : RefRecord) (now : Time) : (x.windowTaken now).badRun = x.badRun := by
  unfold RefRecord.windowTaken; split <;> rfl
@[simp] theorem windowTaken_goodMarks (x : RefRecord) (now : Time) : (x.windowTaken now).goodMarks = x.goodMarks := by
  unfold RefRecord.windowTaken; split <;> rfl
@[simp] theorem windowTaken_badMarks (x : RefRecord) (now : Time) : (x.windowTaken now).badMarks = x.badMarks := by
  unfold RefRecord.windowTaken; split <;> rfl
@[simp] theorem markTaken_valid (x : RefRecord) (l : Option Nat) (now : Time) : (x.markTaken l now).valid = x.valid := by
  unfold RefRecord.markTaken; split <;> rfl
@[simp] theorem markTaken_goodRun (x : RefRecord) (l : Option Nat) (now : Time) :
    (x.markTaken l now).goodRun = x.goodRun := by unfold RefRecord.markTaken; split <;> rfl
@[simp] theorem markTaken_badRun (x : RefRecord) (l : Option Nat) (now : Time) :
    (x.markTaken l now).badRun = x.badRun := by unfold RefRecord.markTaken; split <;> rfl
@[simp] theorem markTaken_goodMarks (x : RefRecord) (l : Option Nat) (now : Time) :
    (x.markTaken l now).goodMarks = x.goodMarks := by unfold RefRecord.markTaken; split <;> rfl
@[simp] theorem markTaken_badMarks (x : RefRecord) (l : Option Nat) (now : Time) :
    (x.markTaken l now).badMarks = x.badMarks := by unfold RefRecord.markTaken; split <;> rfl

@[simp] theorem marked_valid (t : TimeBase) (x : RefRecord) : (marked t x).valid = x.valid := by
  unfold marked; dsimp only; split <;> simp
@[simp] theorem marked_goodRun (t : TimeBase) (x : RefRecord) : (marked t x).goodRun = x.goodRun := by
  unfold marked; dsimp only; split <;> simp
@[simp] theorem marked_badRun (t : TimeBase) (x : RefRecord) : (marked t x).badRun = x.badRun := by
  unfold marked; dsimp only; split <;> simp
@[simp] theorem marked_goodMarks (t : TimeBase) (x : RefRecord) : (marked t x).goodMarks = x.goodMarks := by
  unfold marked; dsimp only; split <;> simp
@[simp] theorem marked_badMarks (t : TimeBase) (x : RefRecord) : (marked t x).badMarks = x.badMarks := by
  unfold marked; dsimp only; split <;> simp

/-! ### A mark with a verdict -/

/-- A mark that changes no validity: the record of its reference alone is changed by the verdict. -/
theorem giveMarkVerdict_same {r : Ref} {v : Verdict} {s : State}
    (h : ((s.tb.ref r).judged v).valid = (s.tb.ref r).valid) :
    giveMarkVerdict r v s = updateRef r (fun x => x.judged v) s :=
  validityChanged_same (by rw [updateRef_tb, ref_updateRef_same]; exact h)

theorem judged_valid_congr {x y : RefRecord} (hv : x.valid = y.valid) (hg : x.goodRun = y.goodRun)
    (hb : x.badRun = y.badRun) (v : Verdict) : (x.judged v).valid = (y.judged v).valid := by
  cases v <;> simp only [RefRecord.judged, hv, hg, hb]

/-- A verdict on a reference whose mark has just been recorded. -/
theorem verdict_recordMark_same {r : Ref} {v : Verdict} {s : State}
    (h : ((s.tb.ref r).judged v).valid = (s.tb.ref r).valid) : giveMarkVerdict r v (recordMark r s)
      = { s with tb := s.tb.updateRef r fun x => (marked s.tb x).judged v } := by
  rw [recordMark_eq, giveMarkVerdict_same]
  · simp only [updateRef, updateTime, updateRef_updateRef]
  · rw [updateRef_tb, ref_updateRef_same, marked_valid]
    exact (judged_valid_congr (marked_valid _ _) (marked_goodRun _ _) (marked_badRun _ _) v).trans h

theorem markArrives_of_ne_good {r : Ref} {v : Verdict} {s : State} (hv : verdictNow r s = v) (h : v ≠ .good) :
    markArrives r s = giveMarkVerdict r v (recordMark r s) := by
  unfold markArrives; dsimp only; rw [hv]
  cases v with
  | good => exact absurd rfl h
  | bad => rfl
  | missing => rfl
  | start => rfl

theorem markArrives_of_good {r : Ref} {n : Nat} {s : State} (hv : verdictNow r s = .good)
    (hl : (s.tb.ref r).lastLabel = some n) :
    markArrives r s = takeMark r n (giveMarkVerdict r .good (recordMark r s)) := by
  unfold markArrives; dsimp only; rw [hv, hl]

theorem exec_markArrival {r : Ref} {s : State} (h : s.fitted r = true) :
    exec (.markArrival r) s = .next (markArrives r s) := congrArg Host.Outcome.next (if_pos h)

/-- A reference's record after a bad mark that changes no validity. -/
def badCounted (x : RefRecord) : RefRecord :=
  { x with badMarks := min (x.badMarks + 1) 4294967295, badRun := min (x.badRun + 1) 2, goodRun := 0 }

/-- The first bad mark in a row, and any of an INVALID reference, keeps the validity (R7). -/
theorem judged_bad {x : RefRecord} (h : x.valid = false ∨ x.badRun = 0) : x.judged .bad = badCounted x := by
  have hvalid : (x.valid && decide (min (x.badRun + 1) 2 ≠ 2)) = x.valid := by
    rcases h with h | h <;> simp [h]
  simp only [RefRecord.judged, hvalid]; rfl

/-- A bad mark that changes no validity changes its reference's record alone. -/
theorem bad_mark_recorded {r : Ref} {s : State} (hfit : s.fitted r = true) (hv : verdictNow r s = .bad)
    (hvalid : (s.tb.ref r).valid = false ∨ (s.tb.ref r).badRun = 0) : exec (.markArrival r) s
      = .next { s with tb := s.tb.updateRef r fun x => badCounted (marked s.tb x) } := by
  have hkeeps : ((s.tb.ref r).judged .bad).valid = (s.tb.ref r).valid := by rw [judged_bad hvalid]; rfl
  rw [exec_markArrival hfit, markArrives_of_ne_good hv (by decide), verdict_recordMark_same hkeeps,
    updateRef_congr (g := fun x => badCounted (marked s.tb x)) _ _ (judged_bad (by
      rw [marked_valid, marked_badRun]; exact hvalid))]

/-! ### The two tests -/

theorem verdictNow_local {r : Ref} {s : State} (h : localTest s.tb = true) :
    verdictNow r s = windowVerdict (s.tb.ref r) (s.tb.ref r).lastLabel s.tb.now := if_pos h

theorem verdictNow_markToMark {r : Ref} {s : State} (h : localTest s.tb = false) :
    verdictNow r s = markVerdict (s.tb.ref r) (s.tb.ref r).lastLabel s.tb.now := if_neg (by simp [h])

theorem markVerdict_start {x : RefRecord} (h : x.lastMark = none) (l : Option Nat) (now : Time) :
    markVerdict x l now = .start := by unfold markVerdict; rw [h]

/-- The mark-to-mark test calls a mark good on the expected instant and label (R5). -/
theorem markVerdict_good {x : RefRecord} (h : x.lastMark.isSome = true) {at_ now : Time} {n : Nat}
    (he : x.expected = some (at_, n)) (hlow : at_ - 10000 ≤ now) (hhigh : now ≤ at_ + 10000) :
    markVerdict x (some n) now = .good := by
  obtain ⟨m, hm⟩ := Option.isSome_iff_exists.1 h
  unfold markVerdict; rw [hm, he]
  exact if_pos ⟨hlow, hhigh, rfl⟩

/-- The mark-to-mark test calls a mark bad off the expected instant or label (R5). -/
theorem markVerdict_bad {x : RefRecord} (h : x.lastMark.isSome = true) {now : Time}
    (hoff : ¬∃ at_ n, x.expected = some (at_, n) ∧ at_ - 10000 ≤ now ∧ now ≤ at_ + 10000 ∧ x.lastLabel = some n) :
    markVerdict x x.lastLabel now = .bad := by
  obtain ⟨m, hm⟩ := Option.isSome_iff_exists.1 h
  unfold markVerdict; rw [hm]
  cases he : x.expected with
  | none => rfl
  | some p => exact if_neg fun hon => hoff ⟨p.1, p.2, he, hon⟩

/-- The window test calls a mark bad outside every window, when it is not its window's first, and when its label is absent
or not the window's (R5). -/
theorem windowVerdict_bad {x : RefRecord} {now : Time}
    (h : (∀ b : Int, ¬(b * 10000000 - 10000 ≤ now ∧ now ≤ b * 10000000 + 10000))
      ∨ ∃ b : Int, (b * 10000000 - 10000 ≤ now ∧ now ≤ b * 10000000 + 10000)
        ∧ (x.windowMark = some b ∨ ¬∃ n : Nat, x.lastLabel = some n ∧ (n : Int) = b % 4294967296)) :
    windowVerdict x x.lastLabel now = .bad := by
  unfold windowVerdict
  rcases h with h | ⟨b, hb, h⟩
  · rw [windowOf_eq_none.2 h]
  · rw [windowOf_eq_some.2 hb]
    refine if_neg ?_
    rintro ⟨hfirst, hlabel⟩
    rcases h with h | h
    · exact hfirst h
    · cases hl : x.lastLabel with
      | none => rw [hl] at hlabel; exact absurd hlabel (by simp)
      | some n => rw [hl] at hlabel; exact h ⟨n, hl, Option.some.inj hlabel⟩

/-! ### The answer to a change of selection -/

/-- The time base in HOLDOVER, just entered (R14). -/
def heldOver (t : TimeBase) : TimeBase :=
  { t with history := [], excessRun := 0, uEntry := t.u, holdSeconds := 0, disc := .holdover }

theorem answered_quiet {t : TimeBase} (h : t.disc = .unset ∨ t.disc = .holdover) (new : Option Ref) :
    answered new t = t := by
  unfold answered answerSelection; dsimp only
  rcases h with h | h <;> rw [h]

theorem answered_track {t : TimeBase} (h : t.disc = .track) (q : Ref) : answered (some q) t = t := by
  unfold answered answerSelection; dsimp only; rw [h]

theorem answered_acquire {t : TimeBase} (h : t.disc = .acquire) (q : Ref) :
    answered (some q) t = { t with acquireRun := 0 } := by
  unfold answered answerSelection; dsimp only; simp [h]

theorem answered_holdover {t : TimeBase} (h : t.disc = .track ∨ t.disc = .acquire ∧ t.tracked = true) :
    answered none t = heldOver t := by
  unfold answered answerSelection; dsimp only
  rcases h with h | ⟨h, htracked⟩
  · rw [h]; rfl
  · rw [h]; dsimp only; rw [if_pos htracked]; rfl

theorem answered_unset {t : TimeBase} (h : t.disc = .acquire) (htracked : t.tracked = false) :
    answered none t = { t with announced := none, disc := .unset } := by
  unfold answered answerSelection; dsimp only
  rw [h]; dsimp only; rw [if_neg (by simp [htracked])]; rfl

/-- What every answer to a change of selection keeps of the time base. -/
structure AnswerKept (t t' : TimeBase) : Prop where
  now : t'.now = t.now
  trim : t'.trim = t.trim
  slew : t'.slew = t.slew
  selected : t'.selected = t.selected
  u : t'.u = t.u
  ref : ∀ r, t'.ref r = t.ref r

theorem answered_kept (new : Option Ref) (t : TimeBase) : AnswerKept t (answered new t) := by
  unfold answered answerSelection; dsimp only
  (repeat' split) <;> exact ⟨rfl, rfl, rfl, rfl, rfl, fun r => by cases r <;> rfl⟩

/-- The answer to a selection that is not empty leaves the discipline state. -/
theorem answered_some_disc (q : Ref) (t : TimeBase) : (answered (some q) t).disc = t.disc := by
  cases h : t.disc with
  | unset => rw [answered_quiet (.inl h), h]
  | acquire => rw [answered_acquire h]; exact h
  | track => rw [answered_track h, h]
  | holdover => rw [answered_quiet (.inr h), h]

/-! ### The second bad verdict on the selected reference -/

/-- The selection once one reference is INVALID: the other if it is VALID (R8). -/
theorem selection_other {t : TimeBase} {r q : Ref} (hq : q ≠ r) (hr : (t.ref r).valid = false) :
    t.selection = if (t.ref q).valid then some q else none := by
  unfold TimeBase.selection
  match r, q, hq with
  | .a, .b, _ => rw [if_neg (by simpa [TimeBase.ref] using hr)]; rfl
  | .b, .a, _ => rw [show t.refB.valid = false from hr]; rfl
  | .a, .a, h => exact absurd rfl h
  | .b, .b, h => exact absurd rfl h

theorem changeTest_goodRun {t before : TimeBase} {r : Ref} (h : (t.ref r).goodRun = 0) :
    ((t.changeTest before).ref r).goodRun = 0 := by
  rcases changeTest_cases t before with ⟨-, hc⟩ | ⟨-, hc⟩ | ⟨-, hc⟩ <;> rw [hc] <;> cases r
  · exact h
  · exact h
  · rfl
  · rfl
  · exact h
  · exact h

@[simp] theorem graded_ref (t : TimeBase) (r : Ref) : (graded t).ref r = t.ref r := by cases r <;> rfl

@[simp] theorem withSelected_ref (t : TimeBase) (new : Option Ref) (r : Ref) :
    ({ t with selected := new } : TimeBase).ref r = t.ref r := by cases r <;> rfl

/-- What a new selection makes of the time base (R8). -/
theorem reselected_of_ne {t : TimeBase} (h : t.selection ≠ t.selected) : reselected t
    = graded ((answered t.selection { t with selected := t.selection }).changeTest t) := if_neg h

/-- What a new selection keeps of the time base (R8). -/
structure SelectionKept (t t' : TimeBase) : Prop where
  now : t'.now = t.now
  trim : t'.trim = t.trim
  slew : t'.slew = t.slew
  u : t'.u = t.u
  selected : t'.selected = t.selection
  valid : ∀ r, (t'.ref r).valid = (t.ref r).valid
  badRun : ∀ r, (t'.ref r).badRun = (t.ref r).badRun
  goodRun : ∀ r, (t.ref r).goodRun = 0 → (t'.ref r).goodRun = 0
  badMarks : ∀ r, (t'.ref r).badMarks = (t.ref r).badMarks

theorem reselected_kept {t : TimeBase} (h : t.selection ≠ t.selected) : SelectionKept t (reselected t) := by
  obtain ⟨now, trim, slew, selected, u, ref⟩ := answered_kept t.selection { t with selected := t.selection }
  have href : ∀ r, (answered t.selection { t with selected := t.selection }).ref r = t.ref r := fun r => by
    rw [ref, withSelected_ref]
  rw [reselected_of_ne h]
  exact {
    now := (changeTest_now _ _).trans now
    trim := (changeTest_trim _ _).trans trim
    slew := (changeTest_slew _ _).trans slew
    u := (changeTest_u _ _).trans u
    selected := (changeTest_selected _ _).trans selected
    valid := fun r => by rw [graded_ref, changeTest_valid, href]
    badRun := fun r => by rw [graded_ref, changeTest_badRun, href]
    goodRun := fun r h => by rw [graded_ref]; exact changeTest_goodRun (by rw [href]; exact h)
    badMarks := fun r => by rw [graded_ref, changeTest_badMarks, href] }

theorem reselected_disc {t : TimeBase} (h : t.selection ≠ t.selected) :
    (reselected t).disc = (answered t.selection { t with selected := t.selection }).disc := by
  rw [reselected_of_ne h]; exact changeTest_disc _ _

/-- The time base once the selected reference has gone INVALID. -/
structure SelectionLost (r q : Ref) (t : TimeBase) : Prop where
  other : q ≠ r
  invalid : (t.ref r).valid = false
  selected : t.selected = some r

theorem SelectionLost.ne {r q : Ref} {t : TimeBase} (h : SelectionLost r q t) : t.selection ≠ t.selected := by
  rw [selection_other h.other h.invalid, h.selected]
  split
  · exact fun e => h.other (Option.some.inj e)
  · exact fun e => nomatch e

/-- With the other reference VALID the selection goes there, and the discipline state stays (R8). -/
theorem SelectionLost.taken_over {r q : Ref} {t : TimeBase} (h : SelectionLost r q t) (hq : (t.ref q).valid = true) :
    (reselected t).selected = some q ∧ (reselected t).disc = t.disc := by
  have hsel : t.selection = some q := by rw [selection_other h.other h.invalid, if_pos hq]
  exact ⟨(reselected_kept h.ne).selected.trans hsel,
    by rw [reselected_disc h.ne, hsel, answered_some_disc]⟩

theorem SelectionLost.none_left {r q : Ref} {t : TimeBase} (h : SelectionLost r q t) (hq : (t.ref q).valid = false) :
    t.selection = none := by
  rw [selection_other h.other h.invalid, if_neg (by simp [hq])]

/-- The time base once a bad mark of the selected reference has been judged its second in a row. -/
theorem selectionLost_updateRef {r q : Ref} {t : TimeBase} (hq : q ≠ r) (hsel : t.selected = some r)
    {f : RefRecord → RefRecord} (hf : (f (t.ref r)).valid = false) : SelectionLost r q (t.updateRef r f) :=
  ⟨hq, by rw [ref_updateRef_same]; exact hf, by rw [updateRef_selected]; exact hsel⟩

/-- A verdict that makes its reference INVALID has the selection recomputed (R7, R8). -/
theorem verdictGiven_recordMark {r : Ref} {v : Verdict} {s : State}
    (h : ((marked s.tb (s.tb.ref r)).judged v).valid ≠ (s.tb.ref r).valid) :
    (giveMarkVerdict r v (recordMark r s)).tb = reselected (s.tb.updateRef r fun x => (marked s.tb x).judged v) := by
  rw [giveMarkVerdict_tb, verdictGiven, recordMark_eq, updateRef_tb, ref_updateRef_same, marked_valid, if_neg h,
    updateRef_updateRef]

theorem memory_of_still {s t : State} (h : still s = still t) : s.store.memory = t.store.memory :=
  congrArg Still.memory h

theorem intake_of_still {s t : State} (h : still s = still t) : s.intake = t.intake := congrArg Still.intake h

theorem inUse_of_still {s t : State} (h : still s = still t) : s.sc.inUse = t.sc.inUse :=
  congrArg (fun p => p.control.inUse) h

/-- The second bad mark in a row of the VALID selected reference (R7, R8). -/
theorem second_bad_mark {r q : Ref} {s : State} (hfit : s.fitted r = true) (hv : verdictNow r s = .bad)
    (hvalid : (s.tb.ref r).valid = true) (hrun : (s.tb.ref r).badRun = 1) (hsel : s.tb.selected = some r) (hq : q ≠ r) :
    ∃ t, exec (.markArrival r) s = .next t ∧ (t.tb.ref r).valid = false ∧ (t.tb.ref r).badRun = 2
      ∧ (t.tb.ref r).goodRun = 0 ∧ (t.tb.ref r).badMarks = min ((s.tb.ref r).badMarks + 1) 4294967295
      ∧ ((s.tb.ref q).valid = true → t.tb.selected = some q ∧ t.tb.disc = s.tb.disc)
      ∧ ((s.tb.ref q).valid = false → t.tb.selected = none ∧ (s.tb.disc = .track → t.tb.disc = .holdover))
      ∧ t.tb.now = s.tb.now ∧ t.tb.trim = s.tb.trim ∧ t.intake = s.intake ∧ t.store.memory = s.store.memory := by
  have hinvalid : ((marked s.tb (s.tb.ref r)).judged .bad).valid = false := by simp [RefRecord.judged, hrun]
  have htb := verdictGiven_recordMark (r := r) (v := .bad) (s := s) (by rw [hinvalid, hvalid]; decide)
  have hlost := selectionLost_updateRef hq hsel (f := fun x => (marked s.tb x).judged .bad) hinvalid
  have hother : (s.tb.updateRef r fun x => (marked s.tb x).judged .bad).ref q = s.tb.ref q := ref_updateRef_other hq _ _
  have hkept := reselected_kept hlost.ne
  have hstill : still (giveMarkVerdict r .bad (recordMark r s)) = still s := still_giveMarkVerdict _ _ _
  refine ⟨_, by rw [exec_markArrival hfit, markArrives_of_ne_good hv (by decide)], ?_⟩
  rw [htb, hkept.valid, hkept.badRun, hkept.badMarks, hkept.now, hkept.trim, hkept.goodRun r (by
    rw [ref_updateRef_same]; rfl), ref_updateRef_same, updateRef_now, updateRef_trim]
  refine ⟨hinvalid, by simp [RefRecord.judged, hrun], rfl, by simp [RefRecord.judged, bump, bumpBy, Config.counterMax],
    fun h => ?_, fun h => ?_, rfl, rfl, intake_of_still hstill, memory_of_still hstill⟩
  · obtain ⟨hs, hd⟩ := hlost.taken_over (by rw [hother]; exact h)
    exact ⟨hs, hd.trans (updateRef_disc _ _ _)⟩
  · have hnone := hlost.none_left (by rw [hother]; exact h)
    refine ⟨hkept.selected.trans hnone, fun htrack => ?_⟩
    rw [reselected_disc hlost.ne, hnone, answered_holdover (.inl (by simpa using htrack))]; rfl

end Sys2Proof.Proofs
end

section
/-! A mark taken for discipline: what it leaves of the time base, and the instant it names (R9 to R17). -/

namespace Sys2Proof.Proofs

open Sys2Proof Sys2Proof.Machine Sys2Proof.Laws

/-! ### The time base but for the references and the second announced -/

/-- The time base without the references' records and the announced second. -/
def core (t : TimeBase) : TimeBase :=
  { t with refA := State.reset.tb.refA, refB := State.reset.tb.refB, announced := none }

@[simp] theorem core_updateRef (t : TimeBase) (r : Ref) (f : RefRecord → RefRecord) :
    core (t.updateRef r f) = core t := by cases r <;> rfl

@[simp] theorem core_changeTest (t before : TimeBase) : core (t.changeTest before) = core t := by
  unfold TimeBase.changeTest; split <;> rfl

/-- Two time bases that agree but for the references and the second announced agree in every other item. -/
theorem item_of_core {α : Type} (p : TimeBase → α) (hp : ∀ t, p (core t) = p t) {t t' : TimeBase}
    (h : core t = core t') : p t = p t' := by rw [← hp t, ← hp t', h]

theorem core_graded (t : TimeBase) : core (graded t) = graded (core t) := rfl

theorem graded_changeTest (t before : TimeBase) : core (graded (t.changeTest before)) = core (graded t) := by
  rw [core_graded, core_changeTest]; rfl

/-! ### The announcement that a taken mark may bring -/

/-- The highest announced second once the present one is. -/
def announcedBy (t : TimeBase) : Int :=
  match t.announced with
  | some m => max m (secondOf t.now)
  | none => secondOf t.now

theorem grown_of_ne {t : TimeBase} (h : t.disc ≠ .holdover) (growth : Nat) : grown growth t = t := if_neg h

theorem boundaryDue_none {s : State} (hset : s.tb.disc ≠ .unset) (h : s.tb.announced = none) :
    boundaryDue s = true := by
  unfold boundaryDue; rw [h]; simp [hset]

theorem boundaryDue_some {s : State} (hset : s.tb.disc ≠ .unset) {m : Int} (h : s.tb.announced = some m) :
    boundaryDue s = true ↔ m < secondOf s.tb.now := by
  unfold boundaryDue; rw [h]; simp [hset]

/-- With time set and no HOLDOVER the second boundary changes the announced second alone (R2). -/
theorem boundary_tb {s : State} (hset : s.tb.disc ≠ .unset) (hhold : s.tb.disc ≠ .holdover) :
    (boundary s).tb = { s.tb with announced := some (announcedBy s.tb) } := by
  have hraise : (raiseBoundary s).tb = { s.tb with announced := some (secondOf s.tb.now) } := by
    rw [raiseBoundary_tb]; exact grown_of_ne (t := { s.tb with announced := some (secondOf s.tb.now) }) hhold _
  unfold boundary announcedBy
  cases ha : s.tb.announced with
  | none => rw [if_pos (boundaryDue_none hset ha), hraise]
  | some m =>
    dsimp only
    by_cases hm : m < secondOf s.tb.now
    · rw [if_pos ((boundaryDue_some hset ha).2 hm), hraise, max_eq_right (le_of_lt hm)]
    · rw [if_neg (mt (boundaryDue_some hset ha).1 hm), max_eq_left (not_lt.1 hm), ← ha]

theorem latchTime_boundary {s : State} (hhold : s.tb.disc ≠ .holdover) :
    (boundary s).sc.latchTime = s.sc.latchTime := by
  have hmet : (boundaryMet s).tb.disc ≠ .holdover := by rw [boundaryMet_tb]; exact hhold
  have hgrow : growHoldover (boundaryMet s) = boundaryMet s := if_neg hmet
  have hlatch : (boundaryMet s).sc.latchTime = s.sc.latchTime := by
    rw [boundaryMet, startSchedule_eq]; dsimp only; rw [latchTime_of_calm (calm_expireAll _ _)]; rfl
  unfold boundary; split
  · rw [raiseBoundary_eq, hgrow]; exact hlatch
  · rfl

/-! ### A taken mark -/

theorem localTest_of_disc {t : TimeBase} (h : t.disc = .acquire ∨ t.disc = .track) : localTest t = true := by
  unfold localTest; rcases h with h | h <;> rw [h]

theorem changeTest_goodRun_local {t : TimeBase} (h : localTest t = true) (before : TimeBase) (r : Ref) :
    ((t.changeTest before).ref r).goodRun = (t.ref r).goodRun := by
  rcases changeTest_cases t before with ⟨-, hc⟩ | ⟨⟨-, hl⟩, -⟩ | ⟨-, hc⟩
  · rw [hc]
  · rw [h] at hl; exact absurd hl (by decide)
  · rw [hc]; cases r <;> rfl

/-- The time base with the present instant as that of the last taken mark, and its grade computed afresh. -/
def taken (t : TimeBase) : TimeBase := graded { t with lastTaken := some t.now }

theorem taken_now (t : TimeBase) : (taken t).now = t.now := rfl
theorem taken_disc (t : TimeBase) : (taken t).disc = t.disc := rfl

/-- What a mark taken in the state `s` leaves, `d` being the state after the discipline's own answer. -/
structure MarkTaken (s d t : State) : Prop where
  core : core t.tb = core (taken d.tb)
  announced : t.tb.announced = some (announcedBy d.tb)
  valid : ∀ q, (t.tb.ref q).valid = (d.tb.ref q).valid
  goodRun : ∀ q, (t.tb.ref q).goodRun = (d.tb.ref q).goodRun
  badRun : ∀ q, (t.tb.ref q).badRun = (d.tb.ref q).badRun
  goodMarks : ∀ q, (t.tb.ref q).goodMarks = (d.tb.ref q).goodMarks
  still : still t = still d
  kept : d.sc.latchTime = true → t.sc.latchTime = true
  latched : gradeOf d.tb.u d.tb.disc = .d → s.tb.grade ≠ .d → t.sc.latchTime = true

theorem ref_withTaken (t : TimeBase) (l : Option Time) (r : Ref) :
    ({ t with lastTaken := l } : TimeBase).ref r = t.ref r := by cases r <;> rfl

theorem ref_withAnnounced (t : TimeBase) (l : Option Int) (r : Ref) :
    ({ t with announced := l } : TimeBase).ref r = t.ref r := by cases r <;> rfl

theorem core_withAnnounced (t : TimeBase) (l : Option Int) : core { t with announced := l } = core t := rfl

theorem windowTaken_ref {α : Type} (p : RefRecord → α) (hp : ∀ x now, p (RefRecord.windowTaken x now) = p x)
    (t : TimeBase) (r q : Ref) (now : Time) : p ((t.updateRef r fun x => x.windowTaken now).ref q) = p (t.ref q) := by
  by_cases h : q = r
  · subst h; rw [ref_updateRef_same, hp]
  · rw [ref_updateRef_other h]

theorem markMet_ref {α : Type} (p : RefRecord → α) (hp : ∀ x now, p (RefRecord.windowTaken x now) = p x)
    (r : Ref) (label : Nat) (s : State) (q : Ref) :
    p ((markMet r label s).tb.ref q) = p ((markSettled label s).ref q) := by
  rw [markMet_tb]; split
  · exact windowTaken_ref p hp _ _ _ _
  · rfl

theorem core_markMet (r : Ref) (label : Nat) (s : State) : core (markMet r label s).tb
    = core (taken (disciplineMark label s).tb) := by
  rw [markMet_tb]; split
  · rw [core_updateRef, markSettled, graded_changeTest, taken]
  · rw [markSettled, graded_changeTest, taken]

theorem latchTime_markMet (r : Ref) (label : Nat) (s : State) : (markMet r label s).sc.latchTime
    = (timeCause s.tb (markSettled label s) || (disciplineMark label s).sc.latchTime) := by
  unfold markMet; dsimp only; split
  · exact settleTime_latchTime _ _
  · exact settleTime_latchTime _ _

theorem markSettled_ref {α : Type} (p : RefRecord → α)
    (hp : ∀ (t before : TimeBase) q, p ((t.changeTest before).ref q) = p (t.ref q)) (label : Nat) (s : State) (q : Ref) :
    p ((markSettled label s).ref q) = p ((disciplineMark label s).tb.ref q) := by
  rw [markSettled, graded_ref, hp, ref_withTaken]

theorem markSettled_goodRun {label : Nat} {s : State} (h : localTest (disciplineMark label s).tb = true) (q : Ref) :
    ((markSettled label s).ref q).goodRun = ((disciplineMark label s).tb.ref q).goodRun := by
  rw [markSettled, graded_ref, changeTest_goodRun_local (t := { (disciplineMark label s).tb with
    lastTaken := some (disciplineMark label s).tb.now }) h, ref_withTaken]

theorem markSettled_announced (label : Nat) (s : State) :
    (markSettled label s).announced = (disciplineMark label s).tb.announced := changeTest_announced _ _

theorem markSettled_grade (label : Nat) (s : State) :
    (markSettled label s).grade = gradeOf (disciplineMark label s).tb.u (disciplineMark label s).tb.disc :=
  congrArg₂ gradeOf (changeTest_u _ _) (changeTest_disc _ _)

theorem announced_markMet (r : Ref) (label : Nat) (s : State) :
    (markMet r label s).tb.announced = (disciplineMark label s).tb.announced := by
  rw [markMet_tb, ← markSettled_announced]
  generalize markSettled label s = t
  split
  · exact updateRef_announced _ _ _
  · rfl

theorem takeMark_taken {r : Ref} {label : Nat} {s : State} (hsel : s.tb.selected = some r)
    (hapart : takenLately s.tb = false)
    (hdisc : (disciplineMark label s).tb.disc = .acquire ∨ (disciplineMark label s).tb.disc = .track) :
    MarkTaken s (disciplineMark label s) (takeMark r label s) := by
  have hcore := core_markMet r label s
  have hd := (item_of_core (·.disc) (fun _ => rfl) hcore).trans (taken_disc _)
  have hnow := (item_of_core (·.now) (fun _ => rfl) hcore).trans (taken_now _)
  have hset : (markMet r label s).tb.disc ≠ .unset := by rw [hd]; rcases hdisc with h | h <;> rw [h] <;> decide
  have hhold : (markMet r label s).tb.disc ≠ .holdover := by rw [hd]; rcases hdisc with h | h <;> rw [h] <;> decide
  have htb := boundary_tb hset hhold
  have hby : announcedBy (markMet r label s).tb = announcedBy (disciplineMark label s).tb := by
    rw [announcedBy, announced_markMet, hnow]; rfl
  have href : ∀ q, (boundary (markMet r label s)).tb.ref q = (markMet r label s).tb.ref q := fun q => by
    rw [htb, ref_withAnnounced]
  rw [show takeMark r label s = boundary (markMet r label s) from if_pos ⟨hsel, hapart⟩]
  exact {
    core := by rw [htb, core_withAnnounced, hcore]
    announced := by rw [htb, ← hby]
    valid := fun q => by
      rw [href, markMet_ref (·.valid) windowTaken_valid, markSettled_ref (·.valid) changeTest_valid]
    goodRun := fun q => by
      rw [href, markMet_ref (·.goodRun) windowTaken_goodRun, markSettled_goodRun (localTest_of_disc hdisc)]
    badRun := fun q => by
      rw [href, markMet_ref (·.badRun) windowTaken_badRun, markSettled_ref (·.badRun) changeTest_badRun]
    goodMarks := fun q => by
      rw [href, markMet_ref (·.goodMarks) windowTaken_goodMarks, markSettled_ref (·.goodMarks) changeTest_goodMarks]
    still := (still_boundary _).trans (still_markMet _ _ _)
    kept := fun h => by rw [latchTime_boundary hhold, latchTime_markMet, h, Bool.or_true]
    latched := fun hnew hold => by
      rw [latchTime_boundary hhold, latchTime_markMet, timeCause, markSettled_grade, hnew,
        show (s.tb.grade != .d) = true by simp [hold]]
      simp }

end Sys2Proof.Proofs
end

section
/-! The marks of Chapter 1: in UNSET, in ACQUIRE, in TRACK and in HOLDOVER. -/

namespace Sys2Proof.Proofs

open Sys2Proof Sys2Proof.Machine Sys2Proof.Laws

/-! ### What a good verdict makes of the time base -/

/-- The time base once a good mark has been recorded at its reference. -/
def goodMarked (r : Ref) (t : TimeBase) : TimeBase := t.updateRef r fun x => (marked t x).judged .good

theorem goodMarked_ref (r : Ref) (t : TimeBase) : (goodMarked r t).ref r = (marked t (t.ref r)).judged .good :=
  ref_updateRef_same _ _ _

/-- A good mark of a VALID reference changes its reference's record alone. -/
theorem good_mark_of_valid {r : Ref} {s : State} (h : (s.tb.ref r).valid = true) :
    giveMarkVerdict r .good (recordMark r s) = { s with tb := goodMarked r s.tb } :=
  verdict_recordMark_same (by simp [RefRecord.judged, h])

theorem changeTest_same {t before : TimeBase} (h : localTest before = localTest t) : t.changeTest before = t := by
  unfold TimeBase.changeTest; rw [h]; cases localTest t <;> rfl

theorem changeTest_withSelected (t : TimeBase) (new : Option Ref) :
    ({ t with selected := new } : TimeBase).changeTest t = { t with selected := new } := changeTest_same rfl

/-- The fourth good mark in a row of a reference, with none selected and none other VALID, selects it (R7, R8). -/
theorem fourth_good_mark {r : Ref} {s : State} (hdisc : s.tb.disc = .unset ∨ s.tb.disc = .holdover)
    (hsel : s.tb.selected = none) (hvalid : (s.tb.ref r).valid = false) (hrun : (s.tb.ref r).goodRun = 3)
    (hothers : ∀ q, q ≠ r → (s.tb.ref q).valid = false) :
    (giveMarkVerdict r .good (recordMark r s)).tb = graded { goodMarked r s.tb with selected := some r } := by
  have hgood : ((marked s.tb (s.tb.ref r)).judged .good).valid = true := by simp [RefRecord.judged, hrun]
  have hselection : (goodMarked r s.tb).selection = some r := by
    unfold TimeBase.selection
    cases r with
    | a => exact if_pos hgood
    | b =>
      rw [if_neg (by rw [show (goodMarked .b s.tb).refA = s.tb.ref .a from rfl, hothers .a (by decide)]; decide)]
      exact if_pos hgood
  have hne : (goodMarked r s.tb).selection ≠ (goodMarked r s.tb).selected := by
    rw [hselection, goodMarked, updateRef_selected, hsel]; exact fun e => nomatch e
  have hd : (goodMarked r s.tb).disc = s.tb.disc := updateRef_disc _ _ _
  rw [verdictGiven_recordMark (by rw [hgood, hvalid]; decide)]
  show reselected (goodMarked r s.tb) = _
  rw [reselected_of_ne hne, hselection, answered_quiet (t := { goodMarked r s.tb with selected := some r })
    (by rcases hdisc with h | h <;> simp [hd, h]), changeTest_withSelected]

/-- A selection that falls into grade D sets the TIME latch (R20). -/
theorem reselect_latched {s : State} (hold : s.tb.grade ≠ .d) (hnew : (reselect s).tb.grade = .d) :
    (reselect s).sc.latchTime = true := by
  unfold reselect at hnew ⊢; dsimp only at hnew ⊢
  split
  · next h => rw [if_pos h] at hnew; exact absurd hnew hold
  · next h =>
    rw [if_neg h, settleTime_tb] at hnew
    rw [settleTime_latchTime, timeCause, hnew, show (s.tb.grade != .d) = true by simp [hold]]
    simp

theorem giveMarkVerdict_latched {r : Ref} {v : Verdict} {s : State} (hold : s.tb.grade ≠ .d)
    (hnew : (giveMarkVerdict r v s).tb.grade = .d) : (giveMarkVerdict r v s).sc.latchTime = true := by
  unfold giveMarkVerdict validityChanged at hnew ⊢; dsimp only at hnew ⊢
  split
  · next h => rw [if_pos h, updateRef_tb, updateRef_grade] at hnew; exact absurd hnew hold
  · next h =>
    rw [if_neg h] at hnew
    exact reselect_latched (by rw [raise_tb, updateRef_tb, updateRef_grade]; exact hold) hnew

/-! ### A mark in its window -/

theorem verdictNow_windowMark {r : Ref} {n : Nat} {e : Int} {s : State} (h : WindowMark r n e s) :
    verdictNow r s = .good := by
  obtain ⟨-, test, labelled, second, instant, window, -, first, -⟩ := h
  have hw : windowOf s.tb.now = some (n : Int) := windowOf_eq_some.2 (by rw [instant]; simp only [Time]; omega)
  rw [verdictNow_local test]
  unfold windowVerdict; rw [hw, labelled]
  exact if_pos ⟨first, congrArg some (Int.emod_eq_of_lt (Int.natCast_nonneg n) (by simp only [Config.secondsWrap]; omega)).symm⟩

theorem exec_windowMark {r : Ref} {n : Nat} {e : Int} {s : State} (h : WindowMark r n e s) :
    exec (.markArrival r) s = .next (takeMark r n (giveMarkVerdict r .good (recordMark r s))) := by
  rw [exec_markArrival h.fitted, markArrives_of_good (verdictNow_windowMark h) h.labelled]

/-- The step to the label goes to the label's second itself, when site time is near it (R16). -/
theorem stepTarget_near {now : Time} {n : Nat} {e : Int} (hnow : now = n * 10000000 + e) (he : -10000 ≤ e ∧ e ≤ 10000) :
    stepTarget now n = n * 10000000 := by
  have hcases : stepTarget now n = if (n : Int) * 10000000 + Config.timeWrap - now < 20000000
      then (n : Int) * 10000000 + Config.timeWrap
      else if now - ((n : Int) * 10000000 - Config.timeWrap) < 20000000 then (n : Int) * 10000000 - Config.timeWrap
      else (n : Int) * 10000000 := rfl
  rw [hcases, if_neg, if_neg] <;> simp only [Time, Config.timeWrap] at * <;> omega

/-- The phase error of a mark near its label's second (R9). -/
theorem phaseError_near {now : Time} {n : Nat} {e : Int} (hn : n < 4294967296) (hnow : now = n * 10000000 + e)
    (he : -10000 ≤ e ∧ e ≤ 10000) : phaseError now n = e := by
  have hsecond : nearestSecond now = n := by
    unfold nearestSecond; simp only [Time, Config.second, Config.secondsWrap] at *; omega
  unfold phaseError; dsimp only; rw [if_pos hsecond]
  have hf : (if fractionOf now < 5000000 then fractionOf now else fractionOf now - 10000000) = e := by
    unfold fractionOf; simp only [Time, Config.second] at *; split <;> omega
  rw [hf]; unfold clampInt; omega

/-! ### The answers of the discipline -/

/-- The time base stepped to a label's second (R16). -/
def steppedTo (n : Nat) (t : TimeBase) : TimeBase :=
  { t with now := n * 10000000, slew := Slew.none, stepCount := bump t.stepCount }

theorem calm_stepTime_near {s : State} {n : Nat} {e : Int} (hn : n < 4294967296) (hnow : s.tb.now = n * 10000000 + e)
    (he : -10000 ≤ e ∧ e ≤ 10000) : calm (stepTime n s) = calm (updateTime (steppedTo n) s) := by
  have htarget := stepTarget_near hnow he
  rw [stepTime_calm (by rw [htarget]; simp only [Time]; omega)
    (by rw [htarget]; simp only [Time, Config.timeWrap]; omega)]
  simp only [updateTime, htarget, steppedTo]

theorem calm_updateTime {f : TimeBase → TimeBase} {s t : State} (h : calm s = calm t) :
    calm (updateTime f s) = calm (updateTime f t) := by
  simp only [calm, Prod.mk.injEq] at h ⊢
  obtain ⟨htb, hstill, hzone, hlatch⟩ := h
  exact ⟨by rw [updateTime_tb, htb]; rfl, hstill, hzone, hlatch⟩

theorem calm_moveDiscipline (new : Discipline) (s : State) :
    calm (moveDiscipline new s) = calm (updateTime (fun t => { t with disc := new }) s) := rfl

/-- The time base at an entry to ACQUIRE through a step (R15, R16). -/
def acquired (n : Nat) (t : TimeBase) : TimeBase :=
  { steppedTo n t with acquireRun := 0, excessRun := 0, history := [], u := Config.uMax, disc := .acquire }

theorem calm_enterAcquire {s : State} {n : Nat} {e : Int} (hn : n < 4294967296) (hnow : s.tb.now = n * 10000000 + e)
    (he : -10000 ≤ e ∧ e ≤ 10000) : calm (enterAcquire n s) = calm (updateTime (acquired n) s) := by
  rw [enterAcquire, calm_moveDiscipline]
  exact calm_updateTime (calm_updateTime (calm_stepTime_near hn hnow he))

/-! ### The items that the claims name -/

/-- Two time bases agree in every item but the references, the carry, the announced second and HOLDOVER's own items. -/
structure SameItems (t t' : TimeBase) : Prop where
  now : t.now = t'.now
  trim : t.trim = t'.trim
  disc : t.disc = t'.disc
  tracked : t.tracked = t'.tracked
  selected : t.selected = t'.selected
  acquireRun : t.acquireRun = t'.acquireRun
  excessRun : t.excessRun = t'.excessRun
  history : t.history = t'.history
  u : t.u = t'.u
  grade : t.grade = t'.grade
  slew : t.slew = t'.slew
  lastTaken : t.lastTaken = t'.lastTaken
  stepCount : t.stepCount = t'.stepCount

theorem sameItems_of_core {t t' : TimeBase} (h : core t = core t') : SameItems t t' :=
  ⟨item_of_core (·.now) (fun _ => rfl) h, item_of_core (·.trim) (fun _ => rfl) h, item_of_core (·.disc) (fun _ => rfl) h,
    item_of_core (·.tracked) (fun _ => rfl) h, item_of_core (·.selected) (fun _ => rfl) h,
    item_of_core (·.acquireRun) (fun _ => rfl) h, item_of_core (·.excessRun) (fun _ => rfl) h,
    item_of_core (·.history) (fun _ => rfl) h, item_of_core (·.u) (fun _ => rfl) h,
    item_of_core (·.grade) (fun _ => rfl) h, item_of_core (·.slew) (fun _ => rfl) h,
    item_of_core (·.lastTaken) (fun _ => rfl) h, item_of_core (·.stepCount) (fun _ => rfl) h⟩

end Sys2Proof.Proofs
end

section
/-! The obligations about marks: setting time, discipline in ACQUIRE and TRACK, and the ends of HOLDOVER and TRACK. -/

namespace Sys2Proof.Proofs

open Sys2Proof Sys2Proof.Machine Sys2Proof.Laws

/-! ### A mark of the selected reference -/

/-- A mark in its window of the VALID selected reference is taken (R5, R9). -/
theorem selected_mark {r : Ref} {n : Nat} {e : Int} {s : State} (h : WindowMark r n e s) (hsel : s.tb.selected = some r)
    (hvalid : (s.tb.ref r).valid = true) {d : State}
    (hd : disciplineMark n { s with tb := goodMarked r s.tb } = d) (hdisc : d.tb.disc = .acquire ∨ d.tb.disc = .track) :
    ∃ t, exec (.markArrival r) s = .next t ∧ MarkTaken { s with tb := goodMarked r s.tb } d t := by
  refine ⟨_, by rw [exec_windowMark h, good_mark_of_valid hvalid], ?_⟩
  subst hd
  have hlate : takenLately (goodMarked r s.tb) = takenLately s.tb := by
    unfold takenLately goodMarked; rw [updateRef_lastTaken, updateRef_now]
  exact takeMark_taken ((updateRef_selected _ _ _).trans hsel) (hlate.trans h.apart) hdisc

theorem goodMarked_now (r : Ref) (t : TimeBase) : (goodMarked r t).now = t.now := updateRef_now _ _ _
theorem goodMarked_disc (r : Ref) (t : TimeBase) : (goodMarked r t).disc = t.disc := updateRef_disc _ _ _
theorem goodMarked_acquireRun (r : Ref) (t : TimeBase) : (goodMarked r t).acquireRun = t.acquireRun :=
  updateRef_acquireRun _ _ _
theorem goodMarked_excessRun (r : Ref) (t : TimeBase) : (goodMarked r t).excessRun = t.excessRun :=
  updateRef_excessRun _ _ _
theorem goodMarked_announced (r : Ref) (t : TimeBase) : (goodMarked r t).announced = t.announced :=
  updateRef_announced _ _ _
theorem goodMarked_grade (r : Ref) (t : TimeBase) : (goodMarked r t).grade = t.grade := updateRef_grade _ _ _

theorem announcedBy_some {t : TimeBase} {m : Int} (h : t.announced = some m) :
    announcedBy t = max m (secondOf t.now) := by rw [announcedBy, h]

/-- What the claims about a mark say it leaves alone. -/
theorem leaves_of_still {s t : State} (h : still t = still s) :
    t.intake = s.intake ∧ t.sc.inUse = s.sc.inUse ∧ t.store.memory = s.store.memory :=
  ⟨intake_of_still h, inUse_of_still h, memory_of_still h⟩

/-- A change of the time base that neither reads nor changes the references' records and the second announced. -/
structure LeavesRefs (g : TimeBase → TimeBase) : Prop where
  core : ∀ t r f, core (g (t.updateRef r f)) = core (g t)
  announced : ∀ t, (g t).announced = t.announced
  ref : ∀ t r, (g t).ref r = t.ref r

theorem core_taken {t t' : TimeBase} (h : core t = core t') : core (taken t) = core (taken t') := by
  rw [show core (taken t) = taken (core t) from rfl, h]; rfl

theorem judged_good_goodMarks (x : RefRecord) : (x.judged .good).goodMarks = min (x.goodMarks + 1) 4294967295 := rfl

/-- What a mark of the VALID selected reference leaves when `g` is what it makes of the time base. -/
structure MarkDone (r : Ref) (g : TimeBase → TimeBase) (s t : State) : Prop where
  items : SameItems t.tb (taken (g s.tb))
  announced : ∀ m, s.tb.announced = some m → t.tb.announced = some (max m (secondOf t.tb.now))
  goodMarks : (t.tb.ref r).goodMarks = min ((s.tb.ref r).goodMarks + 1) 4294967295
  badRun : (t.tb.ref r).badRun = 0
  still : still t = still s
  latched : gradeOf (g s.tb).u (g s.tb).disc = .d → s.tb.grade ≠ .d → t.sc.latchTime = true

/-- A mark in its window of the VALID selected reference, with what the discipline makes of the time base. -/
theorem selected_mark_done {r : Ref} {n : Nat} {e : Int} {s : State} (h : WindowMark r n e s)
    (hsel : s.tb.selected = some r) (hvalid : (s.tb.ref r).valid = true) {g : TimeBase → TimeBase} (hg : LeavesRefs g)
    (hcalm : calm (disciplineMark n { s with tb := goodMarked r s.tb })
      = calm (updateTime g { s with tb := goodMarked r s.tb }))
    (hdisc : (g s.tb).disc = .acquire ∨ (g s.tb).disc = .track) :
    ∃ t, exec (.markArrival r) s = .next t ∧ MarkDone r g s t := by
  have htb : (disciplineMark n { s with tb := goodMarked r s.tb }).tb = g (goodMarked r s.tb) := tb_of_calm hcalm
  have hstill := still_of_calm hcalm
  generalize hd : disciplineMark n { s with tb := goodMarked r s.tb } = d at htb hstill
  have hsame : SameItems (g (goodMarked r s.tb)) (g s.tb) := sameItems_of_core (hg.core _ _ _)
  obtain ⟨t, hexec, hm⟩ := selected_mark h hsel hvalid hd (by rw [htb, hsame.disc]; exact hdisc)
  have hitems : SameItems t.tb (taken (g s.tb)) :=
    sameItems_of_core (hm.core.trans (by rw [htb]; exact core_taken (hg.core _ _ _)))
  refine ⟨t, hexec, hitems, fun m ha => ?_, ?_, ?_, hm.still.trans (hstill.trans rfl), fun hnew hold => ?_⟩
  · rw [hm.announced, announcedBy_some (m := m) (by rw [htb, hg.announced, goodMarked_announced, ha]), htb, hsame.now,
      hitems.now, taken_now]
  · rw [hm.goodMarks, htb, hg.ref, goodMarked_ref, judged_good_goodMarks, marked_goodMarks]
  · rw [hm.badRun, htb, hg.ref, goodMarked_ref]; rfl
  · exact hm.latched (by rw [htb, hsame.u, hsame.disc]; exact hnew) (by rw [goodMarked_grade]; exact hold)

/-! ### ACQUIRE -/

theorem disciplineMark_acquire {r : Ref} {n : Nat} {e : Int} {s : State} (h : WindowMark r n e s)
    (hdisc : s.tb.disc = .acquire) : disciplineMark n { s with tb := goodMarked r s.tb }
      = acquireMark n e { s with tb := goodMarked r s.tb } := by
  unfold disciplineMark; dsimp only
  rw [goodMarked_disc, hdisc, phaseError_near h.second ((goodMarked_now r s.tb).trans h.instant) h.window]

/-- A mark in ACQUIRE with |e| above 10 (R11, R16). -/
theorem acquire_mark_steps {r : Ref} {n : Nat} {e : Int} {s : State} (h : WindowMark r n e s)
    (hdisc : s.tb.disc = .acquire) (hsel : s.tb.selected = some r) (hvalid : (s.tb.ref r).valid = true)
    (he : 10 < e.natAbs) : ∃ t, exec (.markArrival r) s = .next t ∧ MarkDone r (fun t =>
      { steppedTo n t with acquireRun := 0, trim := trimAfter t.trim 2500 e }) s t := by
  refine selected_mark_done h hsel hvalid ⟨fun t r f => by cases r <;> rfl, fun t => rfl, fun t r => by cases r <;> rfl⟩
    ?_ (.inl hdisc)
  rw [disciplineMark_acquire h hdisc, acquireMark_step he]
  exact calm_updateTime (calm_stepTime_near (s := { s with tb := goodMarked r s.tb }) h.second
    ((goodMarked_now r s.tb).trans h.instant) h.window)

/-- A mark in ACQUIRE with |e| at most 10 that is not the eighth in a row (R11). -/
theorem acquire_mark_runs {r : Ref} {n : Nat} {e : Int} {s : State} (h : WindowMark r n e s)
    (hdisc : s.tb.disc = .acquire) (hsel : s.tb.selected = some r) (hvalid : (s.tb.ref r).valid = true)
    (he : e.natAbs ≤ 10) (hrun : s.tb.acquireRun ≠ 7) : ∃ t, exec (.markArrival r) s = .next t ∧ MarkDone r (fun t =>
      { t with acquireRun := t.acquireRun + 1, trim := trimAfter t.trim 2500 e }) s t := by
  refine selected_mark_done h hsel hvalid ⟨fun t r f => by cases r <;> rfl, fun t => rfl, fun t r => by cases r <;> rfl⟩
    ?_ (.inl hdisc)
  rw [disciplineMark_acquire h hdisc, acquireMark_run he n (by rw [goodMarked_acquireRun]; exact hrun)]

/-- The eighth mark in a row in ACQUIRE with |e| at most 10 enters TRACK (R11). -/
theorem acquire_mark_tracks {r : Ref} {n : Nat} {e : Int} {s : State} (h : WindowMark r n e s)
    (hdisc : s.tb.disc = .acquire) (hsel : s.tb.selected = some r) (hvalid : (s.tb.ref r).valid = true)
    (he : e.natAbs ≤ 10) (hrun : s.tb.acquireRun = 7) : ∃ t, exec (.markArrival r) s = .next t ∧ MarkDone r (fun t =>
      { t with
        acquireRun := t.acquireRun + 1
        trim := trimAfter t.trim 2500 e
        tracked := true
        history := [e.natAbs]
        excessRun := 0
        u := trackU [e.natAbs]
        disc := .track }) s t := by
  refine selected_mark_done h hsel hvalid ⟨fun t r f => by cases r <;> rfl, fun t => rfl, fun t r => by cases r <;> rfl⟩
    ?_ (.inr rfl)
  rw [disciplineMark_acquire h hdisc, acquireMark_track he n (by rw [goodMarked_acquireRun]; exact hrun)]
  rfl

/-! ### TRACK -/

theorem disciplineMark_track {r : Ref} {n : Nat} {e : Int} {s : State} (h : WindowMark r n e s)
    (hdisc : s.tb.disc = .track) : disciplineMark n { s with tb := goodMarked r s.tb }
      = trackStateMark n e { s with tb := goodMarked r s.tb } := by
  unfold disciplineMark; dsimp only
  rw [goodMarked_disc, hdisc, phaseError_near h.second ((goodMarked_now r s.tb).trans h.instant) h.window]

/-- What a mark that stays in TRACK makes of the time base, the run of great errors being `run` then (R13). -/
def trackedBy (e : Int) (run : Nat) (t : TimeBase) : TimeBase := ({ t with excessRun := run }).trackMark e

theorem trackedBy_leavesRefs (e : Int) (run : Nat) : LeavesRefs (trackedBy e run) :=
  ⟨fun t r f => by cases r <;> rfl, fun t => rfl, fun t r => by cases r <;> rfl⟩

/-- A mark in TRACK that does not end it (R13). -/
theorem track_mark_stays {r : Ref} {n : Nat} {e : Int} {s : State} (h : WindowMark r n e s)
    (hdisc : s.tb.disc = .track) (hsel : s.tb.selected = some r) (hvalid : (s.tb.ref r).valid = true) {run : Nat}
    (hrun : e.natAbs ≤ 100 ∧ run = 0 ∨ 100 < e.natAbs ∧ s.tb.excessRun ≠ 2 ∧ run = s.tb.excessRun + 1) :
    ∃ t, exec (.markArrival r) s = .next t ∧ MarkDone r (trackedBy e run) s t := by
  refine selected_mark_done h hsel hvalid (trackedBy_leavesRefs e run) ?_ (.inr hdisc)
  rw [disciplineMark_track h hdisc]
  rcases hrun with ⟨he, rfl⟩ | ⟨he, hexcess, rfl⟩
  · rw [trackStateMark_small he]; rfl
  · rw [trackStateMark_excess he n (by rw [goodMarked_excessRun]; exact hexcess), goodMarked_excessRun]; rfl

theorem acquired_leavesRefs (n : Nat) : LeavesRefs (acquired n) :=
  ⟨fun t r f => by cases r <;> rfl, fun t => rfl, fun t r => by cases r <;> rfl⟩

/-- The third mark in a row in TRACK with |e| above 100 ends it by a step (R13, R15). -/
theorem track_mark_ends {r : Ref} {n : Nat} {e : Int} {s : State} (h : WindowMark r n e s)
    (hdisc : s.tb.disc = .track) (hsel : s.tb.selected = some r) (hvalid : (s.tb.ref r).valid = true)
    (he : 100 < e.natAbs) (hrun : s.tb.excessRun = 2) :
    ∃ t, exec (.markArrival r) s = .next t ∧ MarkDone r (acquired n) s t := by
  refine selected_mark_done h hsel hvalid (acquired_leavesRefs n) ?_ (.inl rfl)
  rw [disciplineMark_track h hdisc, trackStateMark_third he n (by rw [goodMarked_excessRun]; exact hrun)]
  exact calm_enterAcquire h.second ((goodMarked_now r s.tb).trans h.instant) h.window

theorem trackU_single (n : Nat) : trackU [n] = n + 1 := by simp [trackU]

/-- Settles O8, by the answers of ACQUIRE and of TRACK. -/
theorem marksInAcquireAndTrackDiscipline : Obligations.MarksInAcquireAndTrackDiscipline := by
  unfold Obligations.MarksInAcquireAndTrackDiscipline
  refine ⟨fun r n e s h hdisc hsel hvalid => ?_, fun r n e s h hdisc hsel hvalid hlow hhigh hlen => ?_⟩
  · by_cases he : 10 < e.natAbs
    · obtain ⟨t, hexec, hm⟩ := acquire_mark_steps h hdisc hsel hvalid he
      have i := hm.items
      exact ⟨t, hexec, i.trim, fun _ => ⟨i.now, i.disc.trans hdisc, i.acquireRun, i.slew, i.stepCount, i.u⟩,
        fun hle => absurd hle (by omega), hm.announced, by rw [i.lastTaken, i.now]; rfl, i.selected.trans hsel,
        leaves_of_still hm.still⟩
    · have hle : e.natAbs ≤ 10 := by omega
      by_cases hrun : s.tb.acquireRun = 7
      · obtain ⟨t, hexec, hm⟩ := acquire_mark_tracks h hdisc hsel hvalid hle hrun
        have i := hm.items
        exact ⟨t, hexec, i.trim, fun hgt => absurd hgt he, fun _ => ⟨i.now, i.acquireRun, i.slew, i.stepCount,
          fun hne => absurd hrun hne, fun _ => ⟨i.disc, i.history, i.u.trans (trackU_single _), i.tracked, i.excessRun,
            i.grade.trans (congrArg (gradeOf · .track) (trackU_single _))⟩⟩,
          hm.announced, by rw [i.lastTaken, i.now]; rfl, i.selected.trans hsel, leaves_of_still hm.still⟩
      · obtain ⟨t, hexec, hm⟩ := acquire_mark_runs h hdisc hsel hvalid hle hrun
        have i := hm.items
        exact ⟨t, hexec, i.trim, fun hgt => absurd hgt he, fun _ => ⟨i.now, i.acquireRun, i.slew, i.stepCount,
          fun _ => ⟨i.disc.trans hdisc, i.history, i.u, i.tracked⟩, fun h7 => absurd h7 hrun⟩,
          hm.announced, by rw [i.lastTaken, i.now]; rfl, i.selected.trans hsel, leaves_of_still hm.still⟩
  · obtain ⟨t, hexec, hm⟩ := track_mark_stays h hdisc hsel hvalid (run := 0) (.inl ⟨by omega, rfl⟩)
    have i := hm.items
    have hgrade : t.tb.grade = gradeOf t.tb.u t.tb.disc := by rw [i.u, i.disc]; exact i.grade
    have hd : t.tb.disc = .track := i.disc.trans hdisc
    exact ⟨t, hexec, hd, i.now, i.excessRun, i.trim, i.slew, i.history.trans (pushError_eq hlen e),
      by rw [i.history]; exact i.u, by rw [hgrade, hd], i.lastTaken, i.stepCount, hm.goodMarks, hm.badRun,
      leaves_of_still hm.still⟩

/-! ### The fourth good mark in a row -/

/-- The time base with a reference newly selected, its grade computed afresh (R8). -/
def newlySelected (r : Ref) (t : TimeBase) : TimeBase := graded { t with selected := some r }

theorem newlySelected_goodMarked (r : Ref) (t : TimeBase) : newlySelected r (goodMarked r t)
    = (newlySelected r t).updateRef r fun x => (marked t x).judged .good := by cases r <;> rfl

/-- What the fourth good mark in a row leaves when `g` is what it makes of the time base with its reference selected. -/
structure FourthDone (r : Ref) (g : TimeBase → TimeBase) (s t : State) : Prop where
  items : SameItems t.tb (taken (g (newlySelected r s.tb)))
  announced : s.tb.announced = none → t.tb.announced = some (secondOf t.tb.now)
  valid : (t.tb.ref r).valid = true
  goodRun : (t.tb.ref r).goodRun = 4
  goodMarks : (t.tb.ref r).goodMarks = min ((s.tb.ref r).goodMarks + 1) 4294967295
  badRun : (t.tb.ref r).badRun = 0
  still : still t = still s
  latched : gradeOf (g (newlySelected r s.tb)).u (g (newlySelected r s.tb)).disc = .d → s.tb.grade ≠ .d →
    t.sc.latchTime = true

theorem goodRun_at_four {x : RefRecord} (h : x.goodRun = 3) : (x.judged .good).goodRun = 4 := by
  simp [RefRecord.judged, h]

theorem valid_at_four {x : RefRecord} (h : x.goodRun = 3) : (x.judged .good).valid = true := by
  simp [RefRecord.judged, h]

/-- The fourth good mark in a row of a reference, with none selected and none other VALID, is taken (R7 to R9). -/
theorem fourth_mark_done {r : Ref} {n : Nat} {s : State} (hfit : s.fitted r = true) (hgood : verdictNow r s = .good)
    (hlabel : (s.tb.ref r).lastLabel = some n) (hdisc : s.tb.disc = .unset ∨ s.tb.disc = .holdover)
    (hsel : s.tb.selected = none) (hvalid : (s.tb.ref r).valid = false) (hrun : (s.tb.ref r).goodRun = 3)
    (hothers : ∀ q, q ≠ r → (s.tb.ref q).valid = false) (hapart : takenLately s.tb = false)
    {g : TimeBase → TimeBase} (hg : LeavesRefs g)
    (hcalm : ∀ u : State, u.tb = newlySelected r (goodMarked r s.tb) →
      calm (disciplineMark n u) = calm (updateTime g u))
    (hnew : (g (newlySelected r s.tb)).disc = .acquire ∨ (g (newlySelected r s.tb)).disc = .track) :
    ∃ t, exec (.markArrival r) s = .next t ∧ FourthDone r g s t := by
  have hexec : exec (.markArrival r) s = .next (takeMark r n (giveMarkVerdict r .good (recordMark r s))) := by
    rw [exec_markArrival hfit, markArrives_of_good hgood hlabel]
  have hu : (giveMarkVerdict r .good (recordMark r s)).tb = newlySelected r (goodMarked r s.tb) :=
    fourth_good_mark hdisc hsel hvalid hrun hothers
  have hustill : still (giveMarkVerdict r .good (recordMark r s)) = still s := still_giveMarkVerdict _ _ _
  have hulatch := giveMarkVerdict_latched (r := r) (v := .good) (s := recordMark r s)
  rw [show (recordMark r s).tb.grade = s.tb.grade from updateRef_grade _ _ _] at hulatch
  generalize giveMarkVerdict r .good (recordMark r s) = u at hexec hu hustill hulatch
  have hcalm := hcalm u hu
  have htb : (disciplineMark n u).tb = g (newlySelected r (goodMarked r s.tb)) := by
    rw [← hu]; exact tb_of_calm hcalm
  have hdstill : still (disciplineMark n u) = still s := (still_of_calm hcalm).trans hustill
  have hdlatch : (disciplineMark n u).sc.latchTime = u.sc.latchTime :=
    congrArg (fun p => p.2.2.2) hcalm
  rw [newlySelected_goodMarked] at hu htb
  have hcore := hg.core (newlySelected r s.tb) r fun x => (marked s.tb x).judged .good
  have hsame := sameItems_of_core hcore
  have href : (disciplineMark n u).tb.ref r = (marked s.tb (s.tb.ref r)).judged .good := by
    rw [htb, hg.ref, ref_updateRef_same, newlySelected, graded_ref, withSelected_ref]
  have hann : (disciplineMark n u).tb.announced = s.tb.announced := by
    rw [htb, hg.announced, updateRef_announced]; rfl
  have hlate : takenLately u.tb = false := by
    rw [hu, takenLately, updateRef_lastTaken, updateRef_now]; exact hapart
  generalize hd : disciplineMark n u = d at htb hdstill hdlatch href hann
  have hm := takeMark_taken (r := r) (label := n) (s := u) (by rw [hu, updateRef_selected]; rfl) hlate
    (by rw [hd, htb, hsame.disc]; exact hnew)
  rw [hd] at hm
  have hitems : SameItems (takeMark r n u).tb (taken (g (newlySelected r s.tb))) :=
    sameItems_of_core (hm.core.trans (by rw [htb]; exact core_taken hcore))
  refine ⟨takeMark r n u, hexec, {
    items := hitems
    announced := fun hnone => ?_
    valid := by rw [hm.valid, href, valid_at_four (by rw [marked_goodRun, hrun])]
    goodRun := by rw [hm.goodRun, href, goodRun_at_four (by rw [marked_goodRun, hrun])]
    goodMarks := by rw [hm.goodMarks, href, judged_good_goodMarks, marked_goodMarks]
    badRun := by rw [hm.badRun, href]; rfl
    still := hm.still.trans hdstill
    latched := fun hgrade hold => ?_ }⟩
  · rw [hm.announced, announcedBy, hann, hnone, htb, hitems.now, taken_now, hsame.now]
  · by_cases hug : u.tb.grade = .d
    · exact hm.kept (hdlatch.trans (hulatch hold hug))
    · exact hm.latched (by rw [htb, hsame.u, hsame.disc]; exact hgrade) hug

/-! ### HOLDOVER -/

/-- What a mark that ends HOLDOVER in TRACK makes of the time base (R15). -/
def trackedAfresh (e : Int) (t : TimeBase) : TimeBase :=
  { ({ t with history := [], excessRun := 0 } : TimeBase).trackMark e with disc := .track }

theorem trackedAfresh_leavesRefs (e : Int) : LeavesRefs (trackedAfresh e) :=
  ⟨fun t r f => by cases r <;> rfl, fun t => rfl, fun t r => by cases r <;> rfl⟩

theorem newlySelected_goodMarked_now (r : Ref) (t : TimeBase) : (newlySelected r (goodMarked r t)).now = t.now :=
  goodMarked_now r t

theorem newlySelected_goodMarked_disc (r : Ref) (t : TimeBase) : (newlySelected r (goodMarked r t)).disc = t.disc :=
  goodMarked_disc r t

/-- The fourth good mark in a row in HOLDOVER ends it in TRACK or, with |e| above 100, in ACQUIRE (R15). -/
theorem holdover_mark {r : Ref} {n : Nat} {e : Int} {s : State} (h : WindowMark r n e s)
    (hdisc : s.tb.disc = .holdover) (hsel : s.tb.selected = none) (hvalid : (s.tb.ref r).valid = false)
    (hrun : (s.tb.ref r).goodRun = 3) (hothers : ∀ q, q ≠ r → (s.tb.ref q).valid = false) :
    ∃ t, exec (.markArrival r) s = .next t ∧ (e.natAbs ≤ 100 → FourthDone r (trackedAfresh e) s t)
      ∧ (100 < e.natAbs → FourthDone r (acquired n) s t) := by
  have hmark : ∀ u : State, u.tb = newlySelected r (goodMarked r s.tb) →
      u.tb.now = n * 10000000 + e ∧ disciplineMark n u = holdoverMark n e u := by
    intro u hu
    have hnow : u.tb.now = n * 10000000 + e := by rw [hu, newlySelected_goodMarked_now]; exact h.instant
    have hd : u.tb.disc = .holdover := by rw [hu, newlySelected_goodMarked_disc, hdisc]
    refine ⟨hnow, ?_⟩
    unfold disciplineMark; dsimp only; rw [hd, phaseError_near h.second hnow h.window]
  by_cases he : e.natAbs ≤ 100
  · obtain ⟨t, hexec, hm⟩ := fourth_mark_done h.fitted (verdictNow_windowMark h) h.labelled (.inr hdisc) hsel hvalid hrun
      hothers h.apart (trackedAfresh_leavesRefs e)
      (fun u hu => by rw [(hmark u hu).2, holdoverMark, if_pos he]; rfl) (.inr rfl)
    exact ⟨t, hexec, fun _ => hm, fun hgt => absurd he (by omega)⟩
  · obtain ⟨t, hexec, hm⟩ := fourth_mark_done h.fitted (verdictNow_windowMark h) h.labelled (.inr hdisc) hsel hvalid hrun
      hothers h.apart (acquired_leavesRefs n)
      (fun u hu => by
        rw [(hmark u hu).2, holdoverMark, if_neg he]; exact calm_enterAcquire h.second (hmark u hu).1 h.window)
      (.inl rfl)
    exact ⟨t, hexec, fun hle => absurd hle he, fun _ => hm⟩

/-- Settles O9, by the answers of HOLDOVER and of TRACK. -/
theorem marksEndHoldoverAndExcessErrorsEndTrack : Obligations.MarksEndHoldoverAndExcessErrorsEndTrack := by
  unfold Obligations.MarksEndHoldoverAndExcessErrorsEndTrack
  refine ⟨fun r n e s h hdisc hsel hvalid hrun hothers => ?_, fun r n e s h hdisc hsel hvalid he hlen => ?_⟩
  · obtain ⟨t, hexec, htrack, hacquire⟩ := holdover_mark h hdisc hsel hvalid hrun hothers
    refine ⟨t, hexec, ?_⟩
    by_cases he : e.natAbs ≤ 100
    · have hm := htrack he
      have i := hm.items
      have hgrade : t.tb.grade = gradeOf t.tb.u t.tb.disc := by rw [i.u, i.disc]; exact i.grade
      exact ⟨hm.valid, i.selected, leaves_of_still hm.still, fun _ => ⟨⟨i.disc, i.now, i.trim, i.slew, i.history, i.u,
        by rw [hgrade, i.disc]; rfl, i.stepCount⟩, i.excessRun⟩, fun hgt => absurd he (by omega)⟩
    · have hm := hacquire (by omega)
      have i := hm.items
      exact ⟨hm.valid, i.selected, leaves_of_still hm.still, fun hle => absurd hle he, fun _ => ⟨i.disc, i.now, i.trim,
        i.slew, i.acquireRun, i.excessRun, i.history, i.u, i.grade, i.stepCount, hm.latched rfl⟩⟩
  · by_cases hrun : s.tb.excessRun = 2
    · obtain ⟨t, hexec, hm⟩ := track_mark_ends h hdisc hsel hvalid he hrun
      have i := hm.items
      exact ⟨t, hexec, leaves_of_still hm.still, fun _ => ⟨i.disc, i.now, i.trim, i.slew, i.acquireRun, i.excessRun,
        i.history, i.u, i.grade, i.stepCount, hm.latched rfl⟩, fun hne => absurd hrun hne⟩
    · obtain ⟨t, hexec, hm⟩ := track_mark_stays h hdisc hsel hvalid (run := s.tb.excessRun + 1) (.inr ⟨he, hrun, rfl⟩)
      have i := hm.items
      have hgrade : t.tb.grade = gradeOf t.tb.u t.tb.disc := by rw [i.u, i.disc]; exact i.grade
      have hd : t.tb.disc = .track := i.disc.trans hdisc
      have hhist := pushError_eq hlen e
      exact ⟨t, hexec, leaves_of_still hm.still, fun h2 => absurd h2 hrun, fun _ => ⟨i.excessRun, hd, i.now, i.trim,
        i.slew, i.history.trans hhist, i.u.trans (congrArg trackU hhist), by rw [hgrade, hd], i.stepCount⟩⟩

/-! ### UNSET -/

/-- What a mark that sets time makes of the time base (R10). -/
def timeSet (n : Nat) (t : TimeBase) : TimeBase :=
  { t with now := n * 10000000, slew := Slew.none, acquireRun := 0, disc := .acquire }

theorem timeSet_leavesRefs (n : Nat) : LeavesRefs (timeSet n) :=
  ⟨fun t r f => by cases r <;> rfl, fun t => rfl, fun t r => by cases r <;> rfl⟩

theorem calm_setTimeMark {n : Nat} (hn : n < 4294967296) (s : State) :
    calm (setTimeMark n s) = calm (updateTime (timeSet n) s) := by
  have hnew := replaceTime_calm (new := n * Config.second) (by simp only [Time, Config.second]; omega)
    (by simp only [Time, Config.second, Config.timeWrap]; omega) s
  rw [setTimeMark, calm_moveDiscipline]
  exact calm_updateTime (calm_updateTime hnew)

/-- Settles O7: each verdict by its test, the lost selection, and the mark that sets time. -/
theorem marksInUnsetStartAndSetTime : Obligations.MarksInUnsetStartAndSetTime := by
  unfold Obligations.MarksInUnsetStartAndSetTime
  refine ⟨fun r s hfit htest => ⟨fun hnone => ?_, fun hsome hvalid hoff => ?_⟩,
    fun r s hfit htest hvalid => ⟨fun hout => ?_, fun b hin href => ?_⟩,
    fun r q s hfit htest hvalid hrun hsel hq hbad => ?_,
    fun r n at_ s hfit hdisc hsel hvalid hrun hothers hlast hexp hlabel hlow hhigh hapart hann _ hn => ?_⟩
  · have hv : verdictNow r s = .start := by rw [verdictNow_markToMark htest, markVerdict_start hnone]
    rw [exec_markArrival hfit, markArrives_of_ne_good hv (by decide), verdict_recordMark_same rfl]
    simp only [marked_markToMark htest]; rfl
  · have hv : verdictNow r s = .bad := by rw [verdictNow_markToMark htest, markVerdict_bad hsome hoff]
    rw [bad_mark_recorded hfit hv hvalid]
    simp only [marked_markToMark htest]; rfl
  · have hv : verdictNow r s = .bad := by rw [verdictNow_local htest, windowVerdict_bad (.inl hout)]
    rw [bad_mark_recorded hfit hv hvalid]
    simp only [marked_local htest, windowTaken_none (windowOf_eq_none.2 hout)]; rfl
  · have hv : verdictNow r s = .bad := by rw [verdictNow_local htest, windowVerdict_bad (.inr ⟨b, hin, href⟩)]
    rw [bad_mark_recorded hfit hv hvalid]
    simp only [marked_local htest, windowTaken_eq (windowOf_eq_some.2 hin)]; rfl
  · exact second_bad_mark hfit (by rw [verdictNow_local htest, windowVerdict_bad hbad]) hvalid hrun hsel hq
  · have htest : localTest s.tb = false := by unfold localTest; rw [hdisc]
    have hv : verdictNow r s = .good := by
      rw [verdictNow_markToMark htest, hlabel, markVerdict_good hlast hexp hlow hhigh]
    have hmark : ∀ u : State, u.tb = newlySelected r (goodMarked r s.tb) → disciplineMark n u = setTimeMark n u := by
      intro u hu
      unfold disciplineMark; dsimp only
      rw [show u.tb.disc = .unset by rw [hu, newlySelected_goodMarked_disc, hdisc]]
    obtain ⟨t, hexec, hm⟩ := fourth_mark_done hfit hv hlabel (.inl hdisc) hsel hvalid hrun hothers hapart
      (timeSet_leavesRefs n) (fun u hu => by rw [hmark u hu]; exact calm_setTimeMark hn u) (.inl rfl)
    have i := hm.items
    have hsecond : secondOf t.tb.now = (n : Int) := by
      rw [i.now]; exact Int.mul_ediv_cancel _ (by decide)
    exact ⟨t, hexec, i.now, i.disc, i.acquireRun, (hm.announced hann).trans (congrArg some hsecond), i.trim, i.stepCount,
      i.u, i.grade, i.lastTaken, i.selected, hm.valid, hm.goodRun, hm.badRun, hm.goodMarks, leaves_of_still hm.still⟩

end Sys2Proof.Proofs
end

section
/-! The missing verdicts (R6 to R8, R12 to R14, R20). -/

namespace Sys2Proof.Proofs

open Sys2Proof Sys2Proof.Machine Sys2Proof.Laws

/-- A reference's record once a missing verdict has kept its account. -/
def missNoted (t : TimeBase) (x : RefRecord) : RefRecord := x.missed (localTest t) t.now

theorem exec_missingVerdict {r : Ref} {s : State} (h : missingDue r s = true) : exec (.missingVerdict r) s
    = .next (giveMarkVerdict r .missing (updateRef r (missNoted s.tb) s)) := congrArg Host.Outcome.next (if_pos h)

@[simp] theorem missNoted_valid (t : TimeBase) (x : RefRecord) : (missNoted t x).valid = x.valid := by
  unfold missNoted RefRecord.missed; split <;> rfl
@[simp] theorem missNoted_badRun (t : TimeBase) (x : RefRecord) : (missNoted t x).badRun = x.badRun := by
  unfold missNoted RefRecord.missed; split <;> rfl

/-- A reference's record after a missing verdict that changes no validity. -/
def missCounted (x : RefRecord) : RefRecord :=
  { x with badRun := min (x.badRun + 1) 2, goodRun := 0, missingMarks := min (x.missingMarks + 1) 4294967295 }

/-- The first missing verdict in a row, and any of an INVALID reference, keeps the validity (R7). -/
theorem judged_missing {x : RefRecord} (h : x.valid = false ∨ x.badRun = 0) : x.judged .missing = missCounted x := by
  have hvalid : (x.valid && decide (min (x.badRun + 1) 2 ≠ 2)) = x.valid := by
    rcases h with h | h <;> simp [h]
  simp only [RefRecord.judged, hvalid]; rfl

/-- A missing verdict that changes no validity changes its reference's record alone. -/
theorem missing_counted {r : Ref} {s : State} (hdue : missingDue r s = true)
    (hvalid : (s.tb.ref r).valid = false ∨ (s.tb.ref r).badRun = 0) : exec (.missingVerdict r) s
      = .next { s with tb := s.tb.updateRef r fun x => missCounted (missNoted s.tb x) } := by
  have hjudged := judged_missing (x := missNoted s.tb (s.tb.ref r)) (by simpa using hvalid)
  rw [exec_missingVerdict hdue, giveMarkVerdict_same]
  · simp only [updateRef, updateTime, updateRef_updateRef]
    rw [updateRef_congr (g := fun x => missCounted (missNoted s.tb x)) _ _ hjudged]
  · rw [updateRef_tb, ref_updateRef_same, hjudged]; rfl

/-- The time base once a missing verdict has been recorded at its reference. -/
def missMarked (r : Ref) (t : TimeBase) : TimeBase := t.updateRef r fun x => (missNoted t x).judged .missing

/-- The second missing verdict in a row of a VALID reference, the selection still to be recomputed (R7). -/
theorem second_missing {r : Ref} {s : State} (hvalid : (s.tb.ref r).valid = true) (hrun : (s.tb.ref r).badRun = 1) :
    giveMarkVerdict r .missing (updateRef r (missNoted s.tb) s)
      = reselect (raise (.refState r false) { s with tb := missMarked r s.tb }) := by
  have hinvalid : ((missNoted s.tb (s.tb.ref r)).judged .missing).valid = false := by simp [RefRecord.judged, hrun]
  have htb : (updateRef r (fun x => x.judged .missing) (updateRef r (missNoted s.tb) s)).tb = missMarked r s.tb := by
    simp only [updateRef_tb, updateRef_updateRef, missMarked]
  have hnow : ((missMarked r s.tb).ref r).valid = false := by rw [missMarked, ref_updateRef_same, hinvalid]
  have hwas : ((updateRef r (missNoted s.tb) s).tb.ref r).valid = true := by simp [hvalid]
  rw [giveMarkVerdict, hwas, validityChanged_changed (by rw [htb, hnow]; decide), htb, hnow]
  simp only [updateRef, updateTime, updateRef_updateRef, missMarked]

/-- A selection that has gone is answered, and what follows is handed on (R8, R12 to R14). -/
theorem reselect_eq {s : State} (h : s.tb.selection ≠ s.tb.selected) : reselect s
    = settleTime s.tb (answerSelection s.tb.selection (raise (.refSwitch s.tb.selected s.tb.selection)
        (updateTime (fun t => { t with selected := s.tb.selection }) s))) := if_neg h

theorem missMarked_lost {r q : Ref} {t : TimeBase} (hq : q ≠ r) (hrun : (t.ref r).badRun = 1)
    (hsel : t.selected = some r) : SelectionLost r q (missMarked r t) :=
  selectionLost_updateRef hq hsel (by simp [RefRecord.judged, hrun])

theorem missMarked_other {r q : Ref} (hq : q ≠ r) (t : TimeBase) : (missMarked r t).ref q = t.ref q :=
  ref_updateRef_other hq _ _

theorem core_missMarked (r : Ref) (t : TimeBase) : core (missMarked r t) = core t := core_updateRef _ _ _

/-- A new selection that brings HOLDOVER sets the TIME latch (R14, R20). -/
theorem reselect_latched_holdover {s : State} (hold : s.tb.disc ≠ .holdover)
    (hnew : (reselect s).tb.disc = .holdover) : (reselect s).sc.latchTime = true := by
  by_cases h : s.tb.selection = s.tb.selected
  · rw [show reselect s = s from if_pos h] at hnew; exact absurd hnew hold
  · rw [reselect_eq h, settleTime_tb] at hnew
    rw [reselect_eq h, settleTime_latchTime, timeCause, hnew, show (s.tb.disc != .holdover) = true by simp [hold]]
    rfl

/-- The time base after a new selection is its answer, but for the references and the grade. -/
theorem core_reselected {t : TimeBase} (h : t.selection ≠ t.selected) : core (reselected t)
    = core (graded (answered t.selection { t with selected := t.selection })) := by
  rw [reselected_of_ne h, graded_changeTest]

theorem reselected_announced {t : TimeBase} (h : t.selection ≠ t.selected) :
    (reselected t).announced = (answered t.selection { t with selected := t.selection }).announced := by
  rw [reselected_of_ne h]; exact changeTest_announced _ _

/-- What a latch that is set leaves alone. -/
theorem setLatch_blocks (l : Latch) (s : State) : (setLatch l s).em = s.em ∧ (setLatch l s).cues = s.cues
    ∧ (setLatch l s).store = s.store ∧ (setLatch l s).chans = s.chans := by
  unfold setLatch putLatch; split <;> exact ⟨rfl, rfl, rfl, rfl⟩

/-- TRACK lost with an unchanged grade reaches no block but the TIME latch. -/
theorem reselect_track_none {s : State} (hdisc : s.tb.disc = .track) (hnone : s.tb.selection = none)
    (hsel : s.tb.selected ≠ none) (hgrade : s.tb.grade = gradeOf s.tb.u .track) :
    (reselect s).em = s.em ∧ (reselect s).cues = s.cues ∧ (reselect s).store = s.store
      ∧ (reselect s).chans = s.chans := by
  have hanswer : ∀ u : State, u.tb.disc = .track → answerSelection none u = enterHoldover u := fun u hu => by
    unfold answerSelection; rw [hu]
  have heq : reselect s = settleTime s.tb (enterHoldover (raise (.refSwitch s.tb.selected none)
      (updateTime (fun t => { t with selected := none }) s))) := by
    rw [reselect_eq (by rw [hnone]; exact fun h => hsel h.symm), hnone]
    exact congrArg (settleTime s.tb) (hanswer _ hdisc)
  generalize hu : enterHoldover (raise (.refSwitch s.tb.selected none)
    (updateTime (fun t => { t with selected := none }) s)) = u at heq
  have hblocks : u.tb.u = s.tb.u ∧ u.tb.grade = s.tb.grade ∧ u.tb.disc = .holdover
      ∧ u.em = s.em ∧ u.cues = s.cues ∧ u.store = s.store ∧ u.chans = s.chans := by
    subst hu; exact ⟨rfl, rfl, rfl, rfl, rfl, rfl, rfl⟩
  obtain ⟨hUu, hUg, hUd, hem, hcues, hstore, hchans⟩ := hblocks
  rw [heq, settleTime_quiet hUu hUg (by rw [hUg, hUu, hUd]; exact hgrade), ← hem, ← hcues, ← hstore, ← hchans]
  split
  · exact setLatch_blocks _ _
  · exact ⟨rfl, rfl, rfl, rfl⟩

/-- What the second missing verdict in a row of the VALID selected reference leaves (R7, R8, R12 to R14). -/
theorem second_missing_done {r q : Ref} {s : State} (hdue : missingDue r s = true) (hq : q ≠ r)
    (hvalid : (s.tb.ref r).valid = true) (hrun : (s.tb.ref r).badRun = 1) (hsel : s.tb.selected = some r) :
    ∃ t, exec (.missingVerdict r) s = .next t ∧ t.tb = reselected (missMarked r s.tb) ∧ still t = still s
      ∧ (s.tb.disc ≠ .holdover → t.tb.disc = .holdover → t.sc.latchTime = true)
      ∧ ((s.tb.ref q).valid = false → s.tb.disc = .track → s.tb.grade = gradeOf s.tb.u .track →
        t.em = s.em ∧ t.cues = s.cues ∧ t.store = s.store ∧ t.chans = s.chans) := by
  have hsame := sameItems_of_core (core_missMarked r s.tb)
  have hexec := exec_missingVerdict hdue
  rw [second_missing hvalid hrun] at hexec
  generalize hu : raise (.refState r false) { s with tb := missMarked r s.tb } = u at hexec
  have hparts : u.tb = missMarked r s.tb ∧ still u = still s ∧ u.em = s.em ∧ u.cues = s.cues ∧ u.store = s.store
      ∧ u.chans = s.chans := by subst hu; exact ⟨rfl, rfl, rfl, rfl, rfl, rfl⟩
  obtain ⟨htb, hstill, hem, hcues, hstore, hchans⟩ := hparts
  refine ⟨reselect u, hexec, by rw [reselect_tb, htb], (still_reselect u).trans hstill, fun hold => ?_,
    fun hother htrack hgrade => ?_⟩
  · exact reselect_latched_holdover (by rw [htb, hsame.disc]; exact hold)
  · rw [← hem, ← hcues, ← hstore, ← hchans]
    refine reselect_track_none (by rw [htb, hsame.disc, htrack]) ?_ ?_ (by rw [htb, hsame.grade, hsame.u, hgrade])
    · rw [htb]; exact (missMarked_lost hq hrun hsel).none_left (by rw [missMarked_other hq, hother])
    · rw [htb, hsame.selected, hsel]; exact fun h => nomatch h

/-- Settles O10: the missing verdict that changes no validity, and the one that loses the selection. -/
theorem missingMarksCountAndEndInHoldoverOrUnset : Obligations.MissingMarksCountAndEndInHoldoverOrUnset := by
  unfold Obligations.MissingMarksCountAndEndInHoldoverOrUnset
  refine ⟨fun r s hdue hvalid => ?_, fun r q s hdue hq hvalid hrun hsel hdisc => ?_⟩
  · rw [missing_counted hdue hvalid]
    unfold missNoted RefRecord.missed
    cases localTest s.tb <;> rfl
  · obtain ⟨t, hexec, htb, hstill, hlatch, hquiet⟩ := second_missing_done hdue hq hvalid hrun hsel
    have hlost := missMarked_lost (q := q) hq hrun hsel
    have hkept := reselected_kept hlost.ne
    have hm := sameItems_of_core (core_missMarked r s.tb)
    have hq' : ((missMarked r s.tb).ref q).valid = (s.tb.ref q).valid := by rw [missMarked_other hq]
    have hbad : (missMarked r s.tb).ref r = (missNoted s.tb (s.tb.ref r)).judged .missing := ref_updateRef_same _ _ _
    have hhold : (s.tb.ref q).valid = false → s.tb.disc = .track ∨ s.tb.tracked = true →
        t.tb.disc = .holdover ∧ t.tb.selected = none ∧ t.tb.u = s.tb.u ∧ t.tb.uEntry = s.tb.u
          ∧ t.tb.holdSeconds = 0 ∧ t.tb.history = [] ∧ t.tb.excessRun = 0 ∧ t.tb.grade = gradeOf s.tb.u .track := fun hother htracked => by
      have hnone := hlost.none_left (hq'.trans hother)
      have hcore := core_reselected hlost.ne
      rw [hnone, answered_holdover (t := { missMarked r s.tb with selected := none })
        (by rw [hm.disc, hm.tracked]; tauto)] at hcore
      rw [htb]
      have i := sameItems_of_core hcore
      exact ⟨i.disc, i.selected, i.u.trans hm.u, (item_of_core (·.uEntry) (fun _ => rfl) hcore).trans hm.u,
        item_of_core (·.holdSeconds) (fun _ => rfl) hcore, i.history, i.excessRun,
        i.grade.trans (congrArg (gradeOf · .track) hm.u)⟩
    refine ⟨t, hexec, by rw [htb, hkept.valid]; exact hlost.invalid, by
      rw [htb, hkept.badRun, hbad]; simp [RefRecord.judged, hrun], by rw [htb, hkept.trim, hm.trim], by
      rw [htb, hkept.slew, hm.slew], by rw [htb, hkept.now, hm.now], intake_of_still hstill, fun hother => ?_,
      fun hother htracked => ?_, fun hother hacq huntracked => ?_, fun hother htrack hgrade => ?_⟩
    · obtain ⟨hs, hd⟩ := hlost.taken_over (hq'.trans hother)
      have hcore := core_reselected hlost.ne
      have hsel' : (missMarked r s.tb).selection = some q := hkept.selected.symm.trans hs
      rw [hsel'] at hcore
      rw [htb]
      refine ⟨hs, hd.trans hm.disc, ?_⟩
      rcases hdisc with htrack | hacq
      · rw [answered_track (t := { missMarked r s.tb with selected := some q }) (hm.disc.trans htrack)] at hcore
        have i := sameItems_of_core hcore
        exact ⟨i.history.trans hm.history, i.excessRun.trans hm.excessRun, fun h => by rw [htrack] at h; cases h⟩
      · rw [answered_acquire (t := { missMarked r s.tb with selected := some q }) (hm.disc.trans hacq)] at hcore
        have i := sameItems_of_core hcore
        exact ⟨i.history.trans hm.history, i.excessRun.trans hm.excessRun, fun _ => i.acquireRun⟩
    · obtain ⟨hd, hs, hu, hentry, hseconds, hhist, hexcess, -⟩ := hhold hother htracked
      exact ⟨hs, hd, hu, hentry, hseconds, hhist, hexcess,
        hlatch (by rcases hdisc with h | h <;> rw [h] <;> decide) hd⟩
    · have hnone := hlost.none_left (hq'.trans hother)
      have hanswer := answered_unset (t := { missMarked r s.tb with selected := none }) (hm.disc.trans hacq)
        (hm.tracked.trans huntracked)
      have hcore := core_reselected hlost.ne
      have hann := reselected_announced hlost.ne
      rw [hnone, hanswer] at hcore hann
      have i := sameItems_of_core hcore
      rw [htb]
      exact ⟨i.selected, i.disc, hann, i.u.trans hm.u⟩
    · obtain ⟨-, -, -, -, -, -, -, hg⟩ := hhold hother (.inl htrack)
      exact ⟨hg.trans hgrade.symm, hquiet hother htrack hgrade⟩

end Sys2Proof.Proofs
end

section
/-! The directory of the spot store and the report's sequence number, as the hand-offs of a second leave them. -/

namespace Sys2Proof.Proofs

open Sys2Proof Sys2Proof.Machine Sys2Proof.Laws

/-! ### What is followed -/

/-- The items of an entry that expiry reads: spot, expiry second, expire-pending flag. -/
abbrev Mark := Spot × Nat × Bool

def markOf (e : Entry) : Mark := (e.spot, e.expiry, e.expirePending)

/-- The entries of the directory as expiry reads them. -/
def marks (s : State) : List Mark := s.store.directory.map markOf

/-- An entry that has not expired at a second and is not expire-pending. -/
def live (second : Int) (m : Mark) : Bool := decide (second < (m.2.1 : Int)) && !m.2.2

/-- The store and the sequence number of the site reports. -/
def ledger (s : State) : SpotStore × Nat := (s.store, s.mon.reportSeq)

/-- What an operation may do to the directory at a second: it may drop entries that have expired or are expire-pending,
and flag entries; the report's sequence number stays. -/
structure Keeps (second : Int) (s t : State) : Prop where
  sub : ∀ m ∈ marks t, ∃ m' ∈ marks s, m'.1 = m.1 ∧ m'.2.1 = m.2.1 ∧ (m'.2.2 = true → m.2.2 = true)
  ids : t.store.ids.Sublist s.store.ids
  live : s.store.ids.Nodup → (marks t).filter (live second) = (marks s).filter (live second)
  report : t.mon.reportSeq = s.mon.reportSeq

variable {second : Int}

theorem Keeps.of_marks {s t : State} (hm : marks t = marks s) (hr : t.mon.reportSeq = s.mon.reportSeq) :
    Keeps second s t := by
  have hids : ∀ u : State, u.store.ids = (marks u).map fun m => m.1.id := fun u => by
    simp only [marks, List.map_map]; rfl
  refine ⟨fun m h => ⟨m, hm ▸ h, rfl, rfl, id⟩, ?_, fun _ => by rw [hm], hr⟩
  rw [hids, hids, hm]

theorem Keeps.of_ledger {s t : State} (h : ledger t = ledger s) : Keeps second s t :=
  .of_marks (congrArg (fun p => p.1.directory.map markOf) h) (congrArg Prod.snd h)

theorem Keeps.refl (s : State) : Keeps second s s := .of_marks rfl rfl

theorem Keeps.trans {s t u : State} (h : Keeps second s t) (h' : Keeps second t u) : Keeps second s u where
  sub := fun m hm => by
    obtain ⟨m', hm', h1, h2, h3⟩ := h'.sub m hm
    obtain ⟨m'', hm'', g1, g2, g3⟩ := h.sub m' hm'
    exact ⟨m'', hm'', g1.trans h1, g2.trans h2, fun hp => h3 (g3 hp)⟩
  ids := h'.ids.trans h.ids
  live := fun hn => (h'.live (hn.sublist h.ids)).trans (h.live hn)
  report := h'.report.trans h.report

theorem Keeps.forEach {α : Type} {f : α → State → State} (h : ∀ a s, Keeps second s (f a s)) (l : List α) (s : State) :
    Keeps second s (forEach f l s) := by
  induction l generalizing s with
  | nil => exact .refl s
  | cons x l ih => exact (h x s).trans (ih _)

/-! ### Operations that leave the store and the sequence number -/

theorem startRecord_reportSeq (osc : Nat) (m : Monitor) : (startRecord osc m).reportSeq = m.reportSeq := by
  unfold startRecord; split <;> rfl

theorem queueEvent_reportSeq (e : Event) (now : Time) (m : Monitor) : (queueEvent e now m).reportSeq = m.reportSeq := by
  unfold queueEvent; dsimp only; split <;> rfl

@[simp] theorem ledger_raise (e : Event) (s : State) : ledger (raise e s) = ledger s := by
  simp only [ledger, raise, startRecord_reportSeq, queueEvent_reportSeq]

@[simp] theorem ledger_putLatch (l : Latch) (v : Bool) (s : State) : ledger (putLatch l v s) = ledger s := by
  unfold putLatch; split
  · rfl
  · rw [ledger_raise]; rfl

@[simp] theorem ledger_setLatch (l : Latch) (s : State) : ledger (setLatch l s) = ledger s := ledger_putLatch l true s

@[simp] theorem ledger_joinSlot (k : AnnouncementKind) (s : State) : ledger (joinSlot k s) = ledger s := by
  unfold joinSlot; split <;> rfl

@[simp] theorem ledger_urgent (s : State) : ledger (urgent s) = ledger s := by
  unfold urgent; split <;> simp

@[simp] theorem ledger_countAgree (f : AgreementCounters → AgreementCounters) (s : State) :
    ledger (countAgree f s) = ledger s := rfl
@[simp] theorem ledger_updateRecord (id : Nat) (f : BreakRecord → BreakRecord) (s : State) :
    ledger (updateRecord id f s) = ledger s := rfl
@[simp] theorem ledger_updateChan (k : Nat) (f : Channel → Channel) (s : State) : ledger (updateChan k f s) = ledger s :=
  rfl
@[simp] theorem ledger_updateTime (f : TimeBase → TimeBase) (s : State) : ledger (updateTime f s) = ledger s := rfl
@[simp] theorem ledger_updateFrame (n : Nat) (f : FrameRecord → FrameRecord) (s : State) :
    ledger (updateFrame n f s) = ledger s := rfl
@[simp] theorem ledger_em (x : Emission) (s : State) : ledger { s with em := x } = ledger s := rfl

@[simp] theorem ledger_reportStance (id : Nat) (o : Option Stance) (n : Stance) (s : State) :
    ledger (reportStance id o n s) = ledger s := by simp [reportStance]
@[simp] theorem ledger_setStance (id : Nat) (n : Stance) (s : State) : ledger (setStance id n s) = ledger s := by
  unfold setStance; (repeat' split) <;> simp
@[simp] theorem ledger_refreshRecord (id : Nat) (s : State) : ledger (refreshRecord id s) = ledger s := by
  unfold refreshRecord; (repeat' split) <;> simp
@[simp] theorem ledger_refreshOpen (s : State) : ledger (refreshOpen s) = ledger s :=
  forEach_keeps ledger _ ledger_refreshRecord _ _
@[simp] theorem ledger_moveState (id : Nat) (n : BreakState) (s : State) : ledger (moveState id n s) = ledger s := by
  unfold moveState; split <;> simp
@[simp] theorem ledger_regrade (s : State) : ledger (regrade s) = ledger s := by
  unfold regrade; dsimp only; split <;> simp
@[simp] theorem ledger_passCurrent (s : State) : ledger (passCurrent s) = ledger s := by
  unfold passCurrent; split <;> simp
@[simp] theorem ledger_removeCause (c : MuteCause) (s : State) : ledger (removeCause c s) = ledger s := by
  unfold removeCause; split <;> simp
@[simp] theorem ledger_startSchedule (second : Int) (s : State) : ledger (startSchedule second s) = ledger s := by
  rw [startSchedule_eq]; rfl

/-! ### Entries that are changed and entries that leave -/

theorem updateEntry_keeps (id : Nat) (f : Entry → Entry) (hf : ∀ e, markOf (f e) = markOf e) (s : State) :
    Keeps second s (updateEntry id f s) := .of_marks (map_updateWhere markOf _ f hf _) rfl

theorem returnPages_keeps (l : List Nat) (s : State) : Keeps second s (returnPages l s) := .of_marks rfl rfl

/-- The entry of a spot id is the one entry with that id. -/
theorem entry?_unique {st : SpotStore} (hn : st.ids.Nodup) {id : Nat} {e : Entry} (he : st.entry? id = some e) {x : Entry}
    (hx : x ∈ st.directory) (hid : x.spot.id = id) : x = e := by
  have hmem := List.mem_of_find?_eq_some he
  have hfound : e.spot.id = id := by simpa using List.find?_some he
  exact List.inj_on_of_nodup_map hn hx hmem (hid.trans hfound.symm)

theorem entry?_mem {st : SpotStore} {id : Nat} {e : Entry} (he : st.entry? id = some e) :
    e ∈ st.directory ∧ e.spot.id = id :=
  ⟨List.mem_of_find?_eq_some he, by simpa using List.find?_some he⟩

/-- Dropping items that a test does not count leaves those that it counts. -/
theorem filter_of_dropped {α β : Type} {l : List α} {keep : α → Bool} {g : α → β} {p : β → Bool}
    (h : ∀ x ∈ l, keep x = false → p (g x) = false) : ((l.filter keep).map g).filter p = (l.map g).filter p := by
  rw [List.filter_map, List.filter_map, List.filter_filter]
  refine congrArg _ (List.filter_congr fun x hx => ?_)
  cases hk : keep x with
  | true => simp
  | false => simp [h x hx hk]

/-- Changing items that a test counts neither before nor after leaves those that it counts. -/
theorem filter_of_updated {α β : Type} {l : List α} {q : α → Bool} {f : α → α} {g : α → β} {p : β → Bool}
    (h : ∀ x ∈ l, q x = true → p (g x) = false ∧ p (g (f x)) = false) :
    ((updateWhere q f l).map g).filter p = (l.map g).filter p := by
  induction l with
  | nil => rfl
  | cons x l ih =>
    have ih := ih fun y hy => h y (List.mem_cons_of_mem _ hy)
    simp only [updateWhere, List.map_cons, List.filter_cons] at ih ⊢
    rw [ih]
    by_cases hq : q x = true
    · obtain ⟨hold, hnew⟩ := h x (by simp) hq
      simp [hq, hold, hnew]
    · rw [if_neg hq]

@[simp] theorem dropCapture_directory (s : State) : (dropCapture s).store.directory = s.store.directory := by
  unfold dropCapture; split <;> rfl

theorem dropCapture_keeps (s : State) : Keeps second s (dropCapture s) := by
  refine .of_marks (by rw [marks, dropCapture_directory]; rfl) ?_
  unfold dropCapture; split <;> rfl

theorem endSegment_keeps (s : State) : Keeps second s (endSegment s) := (dropCapture_keeps s).trans (.of_marks rfl rfl)

/-- The assembler's part of a removal (R74). -/
def dropAssembly (id : Nat) (s : State) : State :=
  match s.store.assembler with
  | .capture g _ _ _ => if g.spot.id = id then endSegment s else s
  | .idle => s
  | .skip _ => s

theorem dropAssembly_keeps (id : Nat) (s : State) : Keeps second s (dropAssembly id s) := by
  unfold dropAssembly; (repeat' split)
  · exact endSegment_keeps s
  all_goals exact .refl s

@[simp] theorem dropAssembly_directory (id : Nat) (s : State) :
    (dropAssembly id s).store.directory = s.store.directory := by
  unfold dropAssembly; (repeat' split) <;> simp [endSegment]

/-- The directory and the check queue without an entry. -/
def dropEntry (id : Nat) (s : State) : State :=
  { s with store := { s.store with
    checkQueue := s.store.checkQueue.filter fun q => q != id
    directory := s.store.directory.filter fun x => x.spot.id != id } }

theorem removeEntry_some {s : State} {id : Nat} {e : Entry} (h : s.store.entry? id = some e)
    (notify : State → State) : removeEntry notify id s
      = notify (dropEntry id (returnPages (pagesOf e.segs (List.range e.segs.length)) (dropAssembly id s))) := by
  unfold removeEntry; rw [h]; rfl

theorem removeEntry_none {s : State} {id : Nat} (h : s.store.entry? id = none) (notify : State → State) :
    removeEntry notify id s = s := by unfold removeEntry; rw [h]

theorem dropEntry_keeps {id : Nat} {s : State}
    (h : s.store.ids.Nodup → ∀ x ∈ s.store.directory, x.spot.id = id → live second (markOf x) = false) :
    Keeps second s (dropEntry id s) where
  sub := fun m hm => by
    obtain ⟨x, hx, rfl⟩ := List.mem_map.1 hm
    exact ⟨markOf x, List.mem_map.2 ⟨x, (List.mem_filter.1 hx).1, rfl⟩, rfl, rfl, fun h => h⟩
  ids := List.filter_sublist.map _
  live := fun hn => filter_of_dropped fun x hx hk => h hn x hx (by simpa using hk)
  report := rfl

section Notify

variable {notify : State → State} (hn : ∀ s, Keeps second s (notify s))
include hn

theorem removeEntry_keeps {id : Nat} {s : State} (h : ∀ e, s.store.entry? id = some e → live second (markOf e) = false) :
    Keeps second s (removeEntry notify id s) := by
  cases he : s.store.entry? id with
  | none => rw [removeEntry_none he]; exact .refl s
  | some e =>
    rw [removeEntry_some he]
    have hpages := (dropAssembly_keeps (second := second) id s).trans
      (returnPages_keeps (pagesOf e.segs (List.range e.segs.length)) _)
    refine (hpages.trans (dropEntry_keeps fun hnodup x hx hid => ?_)).trans (hn _)
    rw [returnPages_store] at hx hnodup
    dsimp only [SpotStore.ids] at hx hnodup
    rw [dropAssembly_directory] at hx hnodup
    rw [entry?_unique hnodup he hx hid]
    exact h e he

theorem tryExpire_keeps (id : Nat) (s : State) : Keeps second s (tryExpire notify id s) := by
  unfold tryExpire; split
  · exact .refl s
  · next e he =>
    split
    · next hp =>
      refine (removeEntry_keeps hn fun e' he' => ?_).trans (.of_ledger (ledger_raise _ _))
      obtain rfl : e = e' := Option.some.inj (he.symm.trans he')
      simp only [Bool.and_eq_true] at hp
      simp [live, markOf, hp.1]
    · exact .refl s

theorem releaseSpot_keeps (x : Spot) (s : State) : Keeps second s (releaseSpot notify x s) := by
  unfold releaseSpot; split
  · exact .refl s
  · exact (updateEntry_keeps _ (fun y => { y with prot := y.prot - 1 }) (fun _ => rfl) s).trans (tryExpire_keeps hn _ _)

theorem makeMissing_keeps (src : Option DamageSource) (id : Nat) (l : List Nat) (s : State) :
    Keeps second s (makeMissing notify src id l s) := by
  unfold makeMissing; split
  · exact .refl s
  · next e _ =>
    refine Keeps.trans ?_ (hn _)
    have hupdated : ∀ (pages : List Nat) (f : Entry → Entry), (∀ e, markOf (f e) = markOf e) → ∀ q : List Nat → List Nat,
        Keeps second s { updateEntry id f (returnPages pages s) with store :=
          { (updateEntry id f (returnPages pages s)).store with
            checkQueue := q (updateEntry id f (returnPages pages s)).store.checkQueue } } := fun pages f hf q =>
      ((returnPages_keeps pages s).trans (updateEntry_keeps id f hf _)).trans (.of_marks rfl rfl)
    have hemptied := hupdated (pagesOf e.segs l) (fun x => { x with segs := missing x.segs l, state := .filling })
      (fun _ => rfl) (List.filter fun q => q != id)
    cases src with
    | none => exact hemptied
    | some src => exact hemptied.trans (.of_ledger (ledger_raise _ _))

theorem applyPending_keeps (src : Option DamageSource) (id : Nat) (s : State) :
    Keeps second s (applyPending notify src id s) := by
  unfold applyPending; split
  · exact .refl s
  · split
    · exact .refl s
    · exact (updateEntry_keeps _ (fun y => { y with pending := [] }) (fun _ => rfl) s).trans
        (makeMissing_keeps hn _ _ _ _)

theorem unfreezeSpot_keeps (x : Spot) (s : State) : Keeps second s (unfreezeSpot notify x s) := by
  unfold unfreezeSpot; split
  · exact .refl s
  · next e _ =>
    dsimp only
    refine (updateEntry_keeps e.spot.id (fun y => { y with freeze := y.freeze - 1 }) (fun _ => rfl) s).trans ?_
    split
    · exact (applyPending_keeps hn _ _ _).trans (tryExpire_keeps hn _ _)
    · exact .refl _

theorem unbindChannel_keeps (k : Nat) (s : State) : Keeps second s (unbindChannel notify k s) := by
  unfold unbindChannel; split
  · exact .refl s
  · next c _ =>
    refine Keeps.trans ?_ (.of_ledger (ledger_raise _ _))
    refine Keeps.trans ?_ (Keeps.forEach (releaseSpot_keeps hn) _ _)
    have hfirst : Keeps second s
        (notify (updateRecord c.breakId (fun r => { r with channel := none }) (updateChan k Channel.unbound s))) :=
      (Keeps.of_ledger (by simp)).trans (hn _)
    split
    · exact hfirst.trans (Keeps.forEach (unfreezeSpot_keeps hn) _ _)
    · exact hfirst

end Notify

/-! ### The hand-offs -/

theorem refreshOpen_keeps (s : State) : Keeps second s (refreshOpen s) := .of_ledger (ledger_refreshOpen s)

theorem holdRecord_keeps (id : Nat) (reason : HoldReason) (s : State) : Keeps second s (holdRecord id reason s) := by
  unfold holdRecord; split
  · exact .refl s
  · refine Keeps.trans ?_ (refreshOpen_keeps _)
    have hhead : ∀ f : BreakRecord → BreakRecord,
        Keeps second s (updateRecord id f (moveState id .decidedHold s)) := fun f => .of_ledger (by simp)
    have hunbound : ∀ (c : Option Nat) (t : State), Keeps second t (match c with
        | some k => unbindChannel refreshOpen k t
        | none => t) := by
      intro c t
      cases c with
      | none => exact .refl t
      | some k => exact unbindChannel_keeps refreshOpen_keeps k t
    have htail : ∀ (o : Option Stance) (n : Stance) (f : AgreementCounters → AgreementCounters) (t : State),
        Keeps second t (countAgree f (urgent (reportStance id o n t))) := fun o n f t => .of_ledger (by simp)
    split <;> exact ((hhead _).trans (hunbound _ _)).trans (htail _ _ _ _)

theorem reconcileBut_keeps (x n : Nat) (s : State) : Keeps second s (reconcileBut x n s) := by
  induction n generalizing s with
  | zero => exact refreshOpen_keeps s
  | succ n ih =>
    unfold reconcileBut; split
    · exact (holdRecord_keeps _ _ s).trans (ih _)
    · exact refreshOpen_keeps s

theorem refresh_keeps (s : State) : Keeps second s (refresh s) := reconcileBut_keeps _ _ s

theorem changeEmission_keeps (new : EmissionState) (s : State) : Keeps second s (changeEmission new s) :=
  (Keeps.trans (.of_ledger (by simp)) (refresh_keeps _)).trans (.of_ledger (ledger_urgent _))

theorem addCause_keeps (c : MuteCause) (s : State) : Keeps second s (addCause c s) := by
  unfold addCause; dsimp only; split
  · exact .refl s
  · refine Keeps.trans (t := raise (.muteCause c true (s.em.causes.put c true))
      { s with em := { s.em with causes := s.em.causes.put c true } }) (.of_ledger (by simp)) ?_
    split
    · exact ((Keeps.of_ledger (ledger_passCurrent _)).trans (changeEmission_keeps _ _)).trans
        (.of_ledger (ledger_setLatch _ _))
    · exact .refl _

theorem compareU_keeps (s : State) : Keeps second s (compareU s) := by
  unfold compareU; split
  · exact addCause_keeps _ s
  · exact .of_ledger (ledger_removeCause _ s)

theorem settleTime_keeps (before : TimeBase) (s : State) : Keeps second s (settleTime before s) := by
  have hlatch : ∀ t : State, Keeps second t (if timeCause before t.tb then setLatch .time t else t) := fun t => by
    split
    · exact .of_ledger (ledger_setLatch _ _)
    · exact .refl t
  have hcompare : ∀ t : State, Keeps second t (if t.tb.u = before.u then t else compareU t) := fun t => by
    split
    · exact .refl t
    · exact compareU_keeps t
  have hrefresh : ∀ t : State, Keeps second t (if t.tb.grade = before.grade then t else refresh (urgent t)) := fun t => by
    split
    · exact .refl t
    · exact (Keeps.of_ledger (ledger_urgent _)).trans (refresh_keeps _)
  unfold settleTime; dsimp only
  exact (((Keeps.of_ledger (by simp)).trans (hlatch _)).trans (hcompare _)).trans (hrefresh _)

theorem growHoldover_keeps (s : State) : Keeps second s (growHoldover s) := by
  unfold growHoldover; dsimp only; split
  · exact (Keeps.of_ledger (ledger_updateTime _ _)).trans (settleTime_keeps _ _)
  · exact .refl s

/-! ### Expiry at a second -/

theorem flagged_ids (id : Nat) (s : State) :
    (updateEntry id (fun x => { x with expirePending := true }) s).store.ids = s.store.ids :=
  map_updateWhere (fun x : Entry => x.spot.id) _ (fun x => { x with expirePending := true }) (fun _ => rfl) _

theorem expireEntry_keeps (id : Nat) (s : State) : Keeps second s (expireEntry second id s) := by
  unfold expireEntry; split
  · exact .refl s
  · next e he =>
    split
    · exact .refl s
    · next hexp =>
      have hdead : ∀ b, live second (e.spot, e.expiry, b) = false := fun b => by simp [live, hexp]
      split
      · refine (removeEntry_keeps refresh_keeps fun e' he' => ?_).trans (.of_ledger (ledger_raise _ _))
        obtain rfl : e = e' := Option.some.inj (he.symm.trans he')
        exact hdead _
      · exact {
          sub := fun m hm => by
            obtain ⟨y, hy, rfl⟩ := List.mem_map.1 hm
            obtain ⟨x, hx, rfl⟩ := mem_updateWhere.1 hy
            refine ⟨markOf x, List.mem_map.2 ⟨x, hx, rfl⟩, ?_⟩
            split
            · exact ⟨rfl, rfl, fun _ => rfl⟩
            · exact ⟨rfl, rfl, fun h => h⟩
          ids := by
            rw [flagged_ids]
          live := fun hnodup => filter_of_updated fun x hx hid => by
            obtain rfl := entry?_unique hnodup he hx (by simpa using hid)
            exact ⟨hdead _, hdead _⟩
          report := rfl }

theorem expireAll_keeps (s : State) : Keeps second s (expireAll second s) := Keeps.forEach expireEntry_keeps _ _

end Sys2Proof.Proofs
end

section
/-! The second boundary (R2, R18, R81, R115, R193). -/

namespace Sys2Proof.Proofs

open Sys2Proof Sys2Proof.Machine Sys2Proof.Laws

variable {second : Int}

/-! ### The sweep of the expired entries -/

/-- Every entry of the ids given that has expired is expire-pending. -/
def Swept (second : Int) (done : Nat → Prop) (s : State) : Prop :=
  ∀ m ∈ marks s, (m.2.1 : Int) ≤ second → done m.1.id → m.2.2 = true

theorem Swept.keeps {done : Nat → Prop} {s t : State} (h : Swept second done s) (hk : Keeps second s t) :
    Swept second done t := fun m hm hexp hdone => by
  obtain ⟨m', hm', hspot, hexpiry, hflag⟩ := hk.sub m hm
  exact hflag (h m' hm' (hexpiry ▸ hexp) (hspot ▸ hdone))

/-- No entry with its id stands once an entry has been dropped. -/
theorem swept_dropEntry {done : Nat → Prop} {id : Nat} {s : State} (h : Swept second done s) :
    Swept second (fun i => done i ∨ i = id) (dropEntry id s) := fun m hm hexp hdone => by
  obtain ⟨x, hx, rfl⟩ := List.mem_map.1 hm
  obtain ⟨hx, hid⟩ := List.mem_filter.1 hx
  rcases hdone with hdone | hdone
  · exact h _ (List.mem_map.2 ⟨x, hx, rfl⟩) hexp hdone
  · exact absurd hdone (by simpa [markOf] using hid)

theorem swept_removeEntry {done : Nat → Prop} {id : Nat} {s : State} (h : Swept second done s) {e : Entry}
    (he : s.store.entry? id = some e) : Swept second (fun i => done i ∨ i = id) (removeEntry refresh id s) := by
  rw [removeEntry_some he]
  exact (swept_dropEntry (h.keeps ((dropAssembly_keeps id s).trans (returnPages_keeps _ _)))).keeps (refresh_keeps _)

theorem swept_expireEntry {done : Nat → Prop} {id : Nat} {s : State} (h : Swept second done s)
    (hn : s.store.ids.Nodup) : Swept second (fun i => done i ∨ i = id) (expireEntry second id s) := by
  unfold expireEntry; split
  · next he =>
    rintro m hm hexp (hdone | hdone)
    · exact h m hm hexp hdone
    · obtain ⟨x, hx, rfl⟩ := List.mem_map.1 hm
      exact absurd hdone (by simpa [markOf] using List.find?_eq_none.1 he x hx)
  · next e he =>
    split
    · next hlater =>
      rintro m hm hexp (hdone | hdone)
      · exact h m hm hexp hdone
      · obtain ⟨x, hx, rfl⟩ := List.mem_map.1 hm
        obtain rfl := entry?_unique hn he hx hdone
        exact absurd hexp (not_le.2 hlater)
    · split
      · exact (swept_removeEntry h he).keeps (.of_ledger (ledger_raise _ _))
      · rintro m hm hexp hdone
        obtain ⟨y, hy, rfl⟩ := List.mem_map.1 hm
        obtain ⟨x, hx, rfl⟩ := mem_updateWhere.1 hy
        by_cases hid : (x.spot.id == id) = true
        · rw [if_pos hid]; rfl
        · rw [if_neg hid] at hexp hdone ⊢
          exact h _ (List.mem_map.2 ⟨x, hx, rfl⟩) hexp (hdone.resolve_right fun he => hid (beq_iff_eq.2 he))

theorem swept_forEach {done : Nat → Prop} {s : State} (h : Swept second done s) (hn : s.store.ids.Nodup) (l : List Nat) :
    Swept second (fun i => done i ∨ i ∈ l) (forEach (expireEntry second) l s) := by
  induction l generalizing done s with
  | nil => exact fun m hm hexp hdone => h m hm hexp (hdone.resolve_right (by simp))
  | cons id l ih =>
    refine fun m hm hexp hdone =>
      ih (swept_expireEntry (id := id) h hn) (hn.sublist (expireEntry_keeps id s).ids) m hm hexp ?_
    rcases hdone with hdone | hdone
    · exact .inl (.inl hdone)
    · rcases List.mem_cons.1 hdone with rfl | hdone
      · exact .inl (.inr rfl)
      · exact .inr hdone

/-- After the sweep every entry that has expired is expire-pending (R81). -/
theorem swept_expireAll {s : State} (hn : s.store.ids.Nodup) : Swept second (fun _ => True) (expireAll second s) := by
  have hnone : Swept second (fun _ => False) s := fun m _ _ hdone => hdone.elim
  refine fun m hm hexp _ => swept_forEach hnone hn s.store.ids m hm hexp (.inr ?_)
  obtain ⟨m', hm', hspot, -, -⟩ := (expireAll_keeps (second := second) s).sub m hm
  obtain ⟨x, hx, rfl⟩ := List.mem_map.1 hm'
  exact hspot ▸ List.mem_map.2 ⟨x, hx, rfl⟩

/-! ### The other consumers -/

theorem schedule_of_zone {s t : State} (h : slotless s.zone = slotless t.zone) : s.zone.schedule = t.zone.schedule :=
  have hkept : (slotless s.zone).schedule = (slotless t.zone).schedule := by rw [h]
  hkept

theorem schedule_growHoldover (s : State) : (growHoldover s).zone.schedule = s.zone.schedule := by
  unfold growHoldover; dsimp only; split
  · exact schedule_of_zone (settleTime_zone _ _)
  · rfl

theorem validConfig_of_still {s t : State} (h : still s = still t) : s.validConfig = t.validConfig := by
  have hconfig : s.sc.config = t.sc.config := congrArg (fun p => p.control.config) h
  unfold State.validConfig State.isValid; rw [hconfig, inUse_of_still h]

/-- The schedule that starts at a second does so if it has not started and the configuration is VALID (R115). -/
theorem startSchedule_schedule (second : Int) (s : State) : (startSchedule second s).zone.schedule
    = if s.zone.schedule.isSome then s.zone.schedule
      else s.validConfig.map fun c => second * 10000000 + c.site * (c.period * 6250) := by
  unfold startSchedule
  cases s.validConfig <;> cases hz : s.zone.schedule <;> simp [hz, Config.second]

theorem boundaryMet_schedule (s : State) : (boundaryMet s).zone.schedule = if s.zone.schedule.isSome then s.zone.schedule
    else s.validConfig.map fun c => secondOf s.tb.now * 10000000 + c.site * (c.period * 6250) := by
  have hcalm := calm_expireAll (secondOf s.tb.now)
    (updateTime (fun t => { t with announced := some (secondOf s.tb.now) }) s)
  rw [boundaryMet, startSchedule_schedule, schedule_of_zone (zone_of_calm hcalm),
    validConfig_of_still (still_of_calm hcalm)]
  rfl

theorem formReport_mon (s : State) : (formReport s).mon.reportSeq = (s.mon.reportSeq + 1) % 65536
    ∧ (formReport s).mon.lostSince = 0 ∧ (formReport s).mon.lastReport = s.osc := by
  have hkept : ∀ m : Monitor, (startRecord s.osc m).lostSince = m.lostSince
      ∧ (startRecord s.osc m).lastReport = m.lastReport := fun m => by unfold startRecord; split <;> exact ⟨rfl, rfl⟩
  exact ⟨startRecord_reportSeq _ _, (hkept _).1, (hkept _).2⟩

theorem boundaryMet_keeps (s : State) : Keeps (secondOf s.tb.now) s (boundaryMet s) :=
  ((Keeps.of_ledger (ledger_updateTime _ _)).trans (expireAll_keeps _)).trans (.of_ledger (ledger_startSchedule _ _))

theorem swept_boundaryMet {s : State} (hn : s.store.ids.Nodup) :
    Swept (secondOf s.tb.now) (fun _ => True) (boundaryMet s) :=
  (swept_expireAll (s := updateTime _ s) hn).keeps (.of_ledger (ledger_startSchedule _ _))

theorem marks_formReport (s : State) : marks (formReport s) = marks s := rfl

/-- U and the grade after a second (R18, R19). -/
theorem grown_items (growth : Nat) {t : TimeBase} (h : t.grade = gradeOf t.u t.disc) :
    (grown growth t).announced = t.announced ∧ (grown growth t).now = t.now ∧ (grown growth t).disc = t.disc
      ∧ (grown growth t).trim = t.trim
      ∧ (grown growth t).u = (if t.disc = .holdover then min (t.u + growth) 10000000 else t.u)
      ∧ (grown growth t).grade = gradeOf (grown growth t).u (grown growth t).disc := by
  by_cases hd : t.disc = .holdover
  · have hgrown : grown growth t = graded
        ({ t with u := min (t.u + growth) Config.uMax, holdSeconds := t.holdSeconds + 1 }.changeTest t) := if_pos hd
    rw [hgrown, if_pos hd]
    exact ⟨changeTest_announced _ _, changeTest_now _ _, changeTest_disc _ _, changeTest_trim _ _, changeTest_u _ _, rfl⟩
  · rw [grown_of_ne hd, if_neg hd]
    exact ⟨rfl, rfl, rfl, rfl, rfl, h⟩

theorem validConfig_invalid {s : State} (h : s.sc.config ≠ .valid) : s.validConfig = none := by
  unfold State.validConfig State.isValid; rw [if_neg (by simpa using h)]

/-- Settles O11, consumer by consumer. -/
theorem secondBoundaryActsOnItsFourConsumers : Obligations.SecondBoundaryActsOnItsFourConsumers := by
  unfold Obligations.SecondBoundaryActsOnItsFourConsumers
  intro s hdue hn hgrade
  have hexec : exec .secondBoundary s = .next (raiseBoundary s) := congrArg Host.Outcome.next (if_pos hdue)
  obtain ⟨ha, hnow, hdisc, htrim, hu, hg⟩ :=
    grown_items s.growth (t := { s.tb with announced := some (secondOf s.tb.now) }) hgrade
  rw [← raiseBoundary_tb] at ha hnow hdisc htrim hu hg
  have hstill := still_raiseBoundary s
  have hkeeps : Keeps (secondOf s.tb.now) s (growHoldover (boundaryMet s)) :=
    (boundaryMet_keeps s).trans (growHoldover_keeps _)
  have hosc : (growHoldover (boundaryMet s)).osc = s.osc :=
    congrArg Still.osc ((still_growHoldover _).trans (still_boundaryMet s))
  have hmon := formReport_mon (growHoldover (boundaryMet s))
  rw [hkeeps.report, hosc, ← raiseBoundary_eq] at hmon
  obtain ⟨hseq, hlost, hlast⟩ := hmon
  have hmarks : marks (raiseBoundary s) = marks (growHoldover (boundaryMet s)) := marks_formReport _
  have hschedule : (raiseBoundary s).zone.schedule = if s.zone.schedule.isSome then s.zone.schedule
      else s.validConfig.map fun c => secondOf s.tb.now * 10000000 + c.site * (c.period * 6250) := by
    rw [← boundaryMet_schedule, ← schedule_growHoldover (boundaryMet s)]; rfl
  refine ⟨raiseBoundary s, hexec, ha, hnow, hdisc, htrim, hu, hg, fun e he hexp => ?_, fun e he hexp hflag => ?_,
    fun c hvalid hc hnone => ?_, fun due hsome => ?_, fun hinvalid => ?_, hseq, hlost, hlast, intake_of_still hstill,
    memory_of_still hstill⟩
  · have hswept := (swept_boundaryMet hn).keeps (growHoldover_keeps (second := secondOf s.tb.now) (boundaryMet s))
    exact hswept (markOf e) (hmarks ▸ List.mem_map.2 ⟨e, he, rfl⟩) hexp trivial
  · have hlive : markOf e ∈ (marks (growHoldover (boundaryMet s))).filter (live (secondOf s.tb.now)) := by
      rw [hkeeps.live hn]
      exact List.mem_filter.2 ⟨List.mem_map.2 ⟨e, he, rfl⟩, by simp [live, markOf, hexp, hflag]⟩
    obtain ⟨e', he', hmark⟩ := List.mem_map.1 (List.mem_filter.1 hlive).1
    exact ⟨e', he', congrArg Prod.fst hmark⟩
  · rw [hschedule, hnone, show s.validConfig = some c by unfold State.validConfig State.isValid; rw [hvalid, hc]; rfl]; rfl
  · rw [hschedule, hsome]; rfl
  · rw [hschedule, validConfig_invalid hinvalid]
    cases s.zone.schedule <;> rfl

end Sys2Proof.Proofs
end

section
/-! A VALID configuration record comes into use (R22, R60, R181, R184). -/

namespace Sys2Proof.Proofs

open Sys2Proof Sys2Proof.Machine Sys2Proof.Laws

/-! ### Emission and the break ids through the hand-offs -/

theorem em_of_outer {s t : State} (h : outer s = outer t) : s.em = t.em := congrArg Outer.em h

theorem tb_of_outer {s t : State} (h : outer s = outer t) : s.tb = t.tb := congrArg Outer.tb h

theorem em_regrade (s : State) : (regrade s).em = s.em := by
  unfold regrade; dsimp only; split <;> rfl

/-- A change that leaves U leaves the emission controller. -/
theorem settleTime_em {before : TimeBase} {s : State} (h : s.tb.u = before.u) : (settleTime before s).em = s.em := by
  have hlatch : ∀ t : State, t.tb.u = before.u → t.em = s.em →
      (if t.tb.grade = before.grade then t else refresh (urgent t)).em = s.em := fun t _ ht => by
    split
    · exact ht
    · rw [em_of_outer (outer_refresh _), em_of_outer (outer_urgent _), ht]
  have htb : (regrade (updateTime (fun t => t.changeTest before) s)).tb.u = before.u := by
    rw [regrade_tb]; exact (changeTest_u _ _).trans h
  unfold settleTime; dsimp only
  generalize hr : regrade (updateTime (fun t => t.changeTest before) s) = r at htb
  have hem : r.em = s.em := by rw [← hr, em_regrade]; rfl
  have hu : (if timeCause before r.tb then setLatch .time r else r).tb.u = before.u
      ∧ (if timeCause before r.tb then setLatch .time r else r).em = s.em := by
    split
    · exact ⟨by rw [tb_of_outer (outer_setLatch .time r)]; exact htb, by rw [em_of_outer (outer_setLatch _ _), hem]⟩
    · exact ⟨htb, hem⟩
  rw [if_pos hu.1]
  exact hlatch _ hu.1 hu.2

theorem breakIds_setLatch (l : Latch) (s : State) : (setLatch l s).breakIds = s.breakIds := by
  unfold setLatch putLatch; split <;> rfl

theorem breakIds_refresh (s : State) : (refresh s).breakIds = s.breakIds := breakIds_of_tabled (tabled_refresh s)

theorem breakIds_urgent (s : State) : (urgent s).breakIds = s.breakIds := breakIds_of_tabled (tabled_urgent s)

theorem breakIds_changeEmission (new : EmissionState) (s : State) : (changeEmission new s).breakIds = s.breakIds := by
  unfold changeEmission; dsimp only; rw [breakIds_urgent, breakIds_refresh]; rfl

theorem breakIds_passCurrent (s : State) : (passCurrent s).breakIds = s.breakIds := by
  unfold passCurrent; split <;> rfl

theorem breakIds_compareU (s : State) : (compareU s).breakIds = s.breakIds := by
  unfold compareU addCause removeCause enterMuted; dsimp only; (repeat' split)
  · rfl
  · rw [breakIds_setLatch, breakIds_changeEmission, breakIds_passCurrent]; rfl
  all_goals rfl

theorem breakIds_settleTime (before : TimeBase) (s : State) : (settleTime before s).breakIds = s.breakIds := by
  have hregrade : ∀ t : State, (regrade t).breakIds = t.breakIds := fun t => by
    unfold regrade; dsimp only; split <;> rfl
  have hlatch : ∀ t : State, (if timeCause before t.tb then setLatch .time t else t).breakIds = t.breakIds := fun t => by
    split
    · exact breakIds_setLatch _ _
    · rfl
  have hcompare : ∀ t : State, (if t.tb.u = before.u then t else compareU t).breakIds = t.breakIds := fun t => by
    split
    · rfl
    · exact breakIds_compareU t
  have hrefresh : ∀ t : State, (if t.tb.grade = before.grade then t else refresh (urgent t)).breakIds = t.breakIds :=
    fun t => by
      split
      · rfl
      · rw [breakIds_refresh, breakIds_urgent]
  unfold settleTime; dsimp only
  rw [hrefresh, hcompare, hlatch, hregrade]; rfl

/-- What a new selection leaves of the emission controller, the break ids and the zone line. -/
theorem reselect_blocks (s : State) : (reselect s).em = s.em ∧ (reselect s).breakIds = s.breakIds
    ∧ slotless (reselect s).zone = slotless s.zone := by
  have hanswer : ∀ (new : Option Ref) (t : State), (answerSelection new t).em = t.em
      ∧ (answerSelection new t).breakIds = t.breakIds ∧ (answerSelection new t).zone = t.zone := fun new t => by
    unfold answerSelection; (repeat' split) <;> exact ⟨rfl, rfl, rfl⟩
  by_cases h : s.tb.selection = s.tb.selected
  · rw [show reselect s = s from if_pos h]; exact ⟨rfl, rfl, rfl⟩
  · obtain ⟨hem, hids, hzone⟩ := hanswer s.tb.selection (raise (.refSwitch s.tb.selected s.tb.selection)
      (updateTime (fun t => { t with selected := s.tb.selection }) s))
    rw [reselect_eq h, breakIds_settleTime, settleTime_zone, settleTime_em, hem, hids, hzone]
    · exact ⟨rfl, rfl, rfl⟩
    · rw [answerSelection_tb, (answered_kept _ _).u]; rfl

/-! ### U against the emission limit, the occupancy against the thresholds -/

theorem compareU_queue (s : State) : (compareU s).em.queue = s.em.queue := by
  have hchange : ∀ (new : EmissionState) (t : State), (changeEmission new t).em.queue = t.em.queue := fun new t => by
    unfold changeEmission; dsimp only; rw [em_of_outer (outer_urgent _), em_of_outer (outer_refresh _)]; rfl
  have hpass : ∀ t : State, (passCurrent t).em.queue = t.em.queue := fun t => by unfold passCurrent; split <;> rfl
  unfold compareU addCause removeCause enterMuted; dsimp only; (repeat' split)
  · rfl
  · rw [em_of_outer (outer_setLatch _ _), hchange, hpass]; rfl
  all_goals rfl

theorem enterMuted_em (s : State) : (enterMuted s).em.causes = s.em.causes ∧ (enterMuted s).em.state = .muted := by
  have hpass : (passCurrent s).em.causes = s.em.causes := by unfold passCurrent; split <;> rfl
  unfold enterMuted changeEmission; dsimp only
  rw [em_of_outer (outer_setLatch _ _), em_of_outer (outer_urgent _), em_of_outer (outer_refresh _)]
  exact ⟨hpass, rfl⟩

/-- The TIME cause newly added outside FAULT (R57). -/
theorem addCause_time {s : State} (h : s.em.state ≠ .fault) (ht : s.em.causes.time = false) :
    (addCause .time s).em.causes = { s.em.causes with time := true }
      ∧ (addCause .time s).em.state = if s.em.state = .onAir then .muted else s.em.state := by
  have hadd : ¬(s.em.state = .fault ∨ s.em.causes.has .time = true) := by
    rintro (hf | hf)
    · exact h hf
    · exact Bool.false_ne_true (ht.symm.trans hf)
  unfold addCause; dsimp only; rw [if_neg hadd]
  generalize hu : raise (.muteCause .time true (s.em.causes.put .time true))
    { s with em := { s.em with causes := s.em.causes.put .time true } } = u
  have hem : u.em = { s.em with causes := { s.em.causes with time := true } } := by subst hu; rfl
  obtain ⟨hcauses, hstate⟩ := enterMuted_em u
  rw [show u.em.state = s.em.state by rw [hem]]
  split
  · exact ⟨by rw [hcauses, hem], hstate⟩
  · exact ⟨by rw [hem], by rw [hem]⟩

/-- The TIME cause removed outside FAULT (R58). -/
theorem removeCause_time {s : State} (h : s.em.state ≠ .fault) (ht : s.em.causes.time = true) :
    (removeCause .time s).em.causes = { s.em.causes with time := false }
      ∧ (removeCause .time s).em.state = s.em.state := by
  have hremove : ¬(s.em.state = .fault ∨ s.em.causes.has .time = false) := by
    rintro (hf | hf)
    · exact h hf
    · exact Bool.false_ne_true (hf.symm.trans ht)
  unfold removeCause; dsimp only; rw [if_neg hremove]
  exact ⟨rfl, rfl⟩

/-- Outside FAULT the TIME cause stands exactly where U exceeds the emission limit; one that is added mutes ON_AIR
(R57, R60). -/
theorem compareU_em {s : State} (h : s.em.state ≠ .fault) :
    (compareU s).em.causes = { s.em.causes with time := decide (s.emissionLimit < s.tb.u) }
      ∧ (compareU s).em.state = if s.em.state = .onAir ∧ s.emissionLimit < s.tb.u ∧ s.em.causes.time = false then .muted
        else s.em.state := by
  have hsame : ∀ b, s.em.causes.time = b → s.em.causes = { s.em.causes with time := b } := fun b hb => by rw [← hb]
  unfold compareU
  by_cases hu : s.emissionLimit < s.tb.u
  · rw [if_pos hu, decide_eq_true hu]
    by_cases ht : s.em.causes.time = true
    · rw [show addCause .time s = s from if_pos (.inr ht), if_neg (by simp [ht])]
      exact ⟨hsame true ht, rfl⟩
    · have ht : s.em.causes.time = false := by simpa using ht
      obtain ⟨hcauses, hstate⟩ := addCause_time h ht
      simp only [hu, ht, and_true]
      exact ⟨hcauses, hstate⟩
  · rw [if_neg hu, decide_eq_false hu, if_neg fun hc => hu hc.2.1]
    by_cases ht : s.em.causes.time = true
    · exact removeCause_time h ht
    · have ht : s.em.causes.time = false := by simpa using ht
      rw [show removeCause .time s = s from if_pos (.inr ht)]
      exact ⟨hsame false ht, rfl⟩

/-- The emission controller with a high flag. -/
def withHigh (b : Bool) (m : Emission) : Emission := { m with queue := { m.queue with high := b } }

theorem withHigh_same {m : Emission} {b : Bool} (h : b = m.queue.high) : withHigh b m = m := by subst h; rfl

/-- The high flag rises at the almost-full threshold (R47). -/
theorem checkHigh_em (s : State) : (checkHigh s).em = withHigh
    (s.em.queue.high || decide (s.setting SiteConfig.almostFull 57344 ≤ s.em.queue.occupancy)) s.em := by
  unfold checkHigh; dsimp only
  by_cases h : (!s.em.queue.high && decide (s.setting SiteConfig.almostFull 57344 ≤ s.em.queue.occupancy)) = true
  · rw [if_pos h, (Bool.and_eq_true_iff.1 h).2, Bool.or_true]; rfl
  · rw [if_neg h, withHigh_same]
    cases hq : s.em.queue.high with
    | true => rfl
    | false => rw [hq] at h; simpa using h

/-- The high flag falls at the almost-empty threshold (R47). -/
theorem checkLow_em (s : State) : (checkLow s).em = withHigh
    (s.em.queue.high && decide (s.setting SiteConfig.almostEmpty 4096 < s.em.queue.occupancy)) s.em := by
  unfold checkLow; dsimp only
  by_cases h : (s.em.queue.high && decide (s.em.queue.occupancy ≤ s.setting SiteConfig.almostEmpty 4096)) = true
  · obtain ⟨hhigh, hlow⟩ := Bool.and_eq_true_iff.1 h
    rw [if_pos h, decide_eq_false (not_lt.2 (of_decide_eq_true hlow)), Bool.and_false]; rfl
  · rw [if_neg h, withHigh_same]
    cases hq : s.em.queue.high with
    | false => rfl
    | true => rw [hq] at h; simpa using h

/-! ### The references of a new fitted set -/

/-- A reference that is no longer fitted is emptied, and only its record changes. -/
theorem unfitRef_parts (r : Ref) (was : Bool) (s : State) : ∃ m, unfitRef r was s = { s with
    tb := s.tb.updateRef r fun x => if was = true ∧ s.fitted r = false then x.unfit else x
    mon := m } := by
  by_cases h : was = true ∧ s.fitted r = false
  · simp only [if_pos h]
    unfold unfitRef; dsimp only; rw [if_pos h]
    split
    · exact ⟨_, rfl⟩
    · exact ⟨_, rfl⟩
  · refine ⟨s.mon, ?_⟩
    simp only [if_neg h]
    rw [show unfitRef r was s = s from if_neg h]
    cases r <;> rfl

/-- A reference newly fitted is emptied, and only its record changes. -/
theorem fitRef_parts (r : Ref) (was : Bool) (s : State) : fitRef r was s = { s with
    tb := s.tb.updateRef r fun x => if was = false ∧ s.fitted r = true then x.unfit.openWindows s.tb.now else x } := by
  by_cases h : was = false ∧ s.fitted r = true
  · simp only [if_pos h]; exact if_pos h
  · simp only [if_neg h]
    rw [show fitRef r was s = s from if_neg h]
    cases r <;> rfl

/-- A reference's record once a new fitted set has taken effect, `was` and `now` saying whether it was and is fitted. -/
def refitted (was fits : Bool) (time : Time) (x : RefRecord) : RefRecord :=
  if was = fits then x else if fits then x.unfit.openWindows time else x.unfit

/-- The state in which a new fitted set has taken effect but for the selection (R22). -/
def fitTaken (wasA wasB : Bool) (s : State) : State :=
  fitRef .b wasB (fitRef .a wasA (unfitRef .b wasB (unfitRef .a wasA s)))

theorem fitTaken_parts (wasA wasB : Bool) (s : State) : ∃ m, fitTaken wasA wasB s = { s with
    tb := (s.tb.updateRef .a (refitted wasA (s.fitted .a) s.tb.now)).updateRef .b
      (refitted wasB (s.fitted .b) s.tb.now)
    mon := m } := by
  obtain ⟨m, hm⟩ := unfitRef_parts .a wasA s
  obtain ⟨m', hm'⟩ := unfitRef_parts .b wasB (unfitRef .a wasA s)
  rw [hm] at hm'
  refine ⟨m', ?_⟩
  rw [fitTaken, hm, hm', fitRef_parts, fitRef_parts]
  have hfit : ∀ (t : TimeBase) (m : Monitor) (r : Ref), State.fitted { s with tb := t, mon := m } r = s.fitted r :=
    fun t m r => by cases r <;> rfl
  simp only [hfit, TimeBase.updateRef]
  cases wasA <;> cases s.fitted .a <;> cases wasB <;> cases s.fitted .b <;> rfl

end Sys2Proof.Proofs
end

section
/-! The load of a VALID record, assembled (R8, R22, R181, R184). -/

namespace Sys2Proof.Proofs

open Sys2Proof Sys2Proof.Machine Sys2Proof.Laws

/-! ### The state that the selection, the emission limit and the thresholds meet -/

/-- The time base with the references that a new record fits and no longer fits emptied (R22). -/
def refits (c : SiteConfig) (s : State) : TimeBase :=
  (s.tb.updateRef .a (refitted (s.fitted .a) c.fittedA s.tb.now)).updateRef .b
    (refitted (s.fitted .b) c.fittedB s.tb.now)

/-- Site control with a record in use (R181). -/
def loaded (c : SiteConfig) (k : SiteControl) : SiteControl :=
  { k with config := .valid, loader := .waiting, faultCause := none, inUse := some c, loads := bump k.loads }

/-- The state with a record in use, before the selection is recomputed. -/
def loadedState (c : SiteConfig) (m : Monitor) (s : State) : State := { s with
  tb := refits c s
  zone := { s.zone with receiver := .hunt, busySince := some s.tb.now, idleSince := none, line := .receiving }
  ros := { s.ros with
    roster := c.roster
    quorum := some c.quorum
    peers := (c.roster.filter fun n => n != c.site).map Peer.new }
  sc := loaded c s.sc
  mon := m }

theorem raiseAll_parts (l : List Event) (s : State) : ∃ m, raiseAll l s = { s with mon := m } := by
  unfold raiseAll
  induction l generalizing s with
  | nil => exact ⟨s.mon, rfl⟩
  | cons e l ih => exact ih (raise e s)

theorem judgeRecord_valid {record : List Byte} (hcheck : crc32 (record.take 74) = BitVec.ofNat 32 (numAt record 74 4))
    (hformat : numAt record 0 2 = 0x3C01)
    (htags : (clampRecord record).1.controlTag ≠ (clampRecord record).1.assetTag) :
    judgeRecord record = .valid (clampRecord record).1 (clampRecord record).2 := by
  unfold judgeRecord
  rw [if_neg (by simpa using hcheck), if_neg (by simpa using hformat)]
  exact if_neg htags

theorem exec_configReadComplete_valid {record : List Byte} {since : Nat} {s : State} (hlen : record.length = 78)
    (hreading : s.sc.loader = .reading since) {c : SiteConfig} {clamps : List Event}
    (hvalid : judgeRecord record = .valid c clamps) : ∃ m, exec (.configReadComplete record) s
      = .next (checkLow (checkHigh (compareU (reselect (loadedState c m s))))) := by
  obtain ⟨m, hm⟩ := raiseAll_parts clamps s
  obtain ⟨m', hm'⟩ := fitTaken_parts (s.fitted .a) (s.fitted .b) (takeRoster c (enableReceiver
    (raise (.configLoaded s.sc.loadCause c.check) (updateControl (loaded c) { s with mon := m }))))
  have hexec : exec (.configReadComplete record) s = .next (loadRecord record s) := by
    have hwell : (Instr.configReadComplete record).wellFormed = true := by simp [Instr.wellFormed, hlen]
    have hread : s.sc.loader.isReading = true := by rw [hreading]; rfl
    exact (if_pos hwell).trans (congrArg Host.Outcome.next (if_pos hread))
  refine ⟨m', hexec.trans (congrArg Host.Outcome.next ?_)⟩
  have hload : loadRecord record s = loadValid c { s with mon := m } := by
    unfold loadRecord; rw [hvalid]; dsimp only; rw [hm]
  rw [hload]
  show checkLow (checkHigh (compareU (reselect (fitTaken (s.fitted .a) (s.fitted .b) _)))) = _
  rw [show loadedState c m' s = _ from hm'.symm]
  rfl

/-! ### The references and the selection then -/

/-- The fitting that a record asks for. -/
def fitsOf (c : SiteConfig) : Ref → Bool
  | .a => c.fittedA
  | .b => c.fittedB

theorem refits_ref (c : SiteConfig) (s : State) (r : Ref) :
    (refits c s).ref r = refitted (s.fitted r) (fitsOf c r) s.tb.now (s.tb.ref r) := by cases r <;> rfl

theorem core_refits (c : SiteConfig) (s : State) : core (refits c s) = core s.tb := by
  rw [refits, core_updateRef, core_updateRef]

theorem refitted_same (b : Bool) (time : Time) (x : RefRecord) : refitted b b time x = x := if_pos rfl

/-- A record that asks for the fitting that stands leaves the time base (R22). -/
theorem refits_same {c : SiteConfig} {s : State} (h : ∀ r, s.fitted r = fitsOf c r) : refits c s = s.tb := by
  unfold refits
  rw [h .a, h .b, TimeBase.updateRef, TimeBase.updateRef]
  dsimp only
  rw [show c.fittedA = fitsOf c .a from rfl, show c.fittedB = fitsOf c .b from rfl, refitted_same, refitted_same]

theorem refitted_valid (was fits : Bool) (time : Time) (x : RefRecord) :
    (refitted was fits time x).valid = (was == fits && x.valid) := by
  cases was <;> cases fits <;> simp [refitted, RefRecord.unfit, RefRecord.openWindows]

/-- A reference's record with its runs, last mark and last label empty (R22). -/
structure Emptied (x : RefRecord) : Prop where
  goodRun : x.goodRun = 0
  badRun : x.badRun = 0
  lastMark : x.lastMark = none
  lastLabel : x.lastLabel = none

theorem emptied_refitted {was fits : Bool} (h : was ≠ fits) (time : Time) (x : RefRecord) :
    Emptied (refitted was fits time x) := by
  unfold refitted; rw [if_neg h]
  split <;> exact ⟨rfl, rfl, rfl, rfl⟩

theorem Emptied.changeTest {t : TimeBase} {r : Ref} (h : Emptied (t.ref r)) (before : TimeBase) :
    Emptied ((t.changeTest before).ref r) := by
  obtain ⟨hgood, hbad, hmark, hlabel⟩ := h
  rcases changeTest_cases t before with ⟨-, hc⟩ | ⟨-, hc⟩ | ⟨-, hc⟩ <;> rw [hc]
  · exact ⟨hgood, hbad, hmark, hlabel⟩
  · cases r <;> exact ⟨rfl, hbad, rfl, hlabel⟩
  · cases r <;> exact ⟨hgood, hbad, hmark, hlabel⟩

theorem Emptied.reselected {t : TimeBase} {r : Ref} (h : Emptied (t.ref r)) : Emptied ((reselected t).ref r) := by
  by_cases hsel : t.selection = t.selected
  · rw [show Proofs.reselected t = t from if_pos hsel]; exact h
  · rw [reselected_of_ne hsel, graded_ref]
    refine Emptied.changeTest ?_ _
    rw [(answered_kept _ _).ref, withSelected_ref]; exact h

/-- The discipline state once no selection is left (R12 to R14). -/
def withoutSelection (t : TimeBase) : Discipline :=
  match t.disc with
  | .track => .holdover
  | .acquire => if t.tracked = true then .holdover else .unset
  | .holdover => .holdover
  | .unset => .unset

theorem answered_none_disc (t : TimeBase) : (answered none t).disc = withoutSelection t := by
  unfold withoutSelection
  cases hd : t.disc with
  | unset => rw [answered_quiet (.inl hd), hd]
  | holdover => rw [answered_quiet (.inr hd), hd]
  | track => rw [answered_holdover (.inl hd)]; rfl
  | acquire =>
    cases ht : t.tracked with
    | true => rw [answered_holdover (.inr ⟨hd, ht⟩)]; rfl
    | false => rw [answered_unset hd ht]; rfl

/-- What a recomputed selection leaves of the time base, whether it changes or not (R8). -/
theorem reselected_items (t : TimeBase) : (reselected t).selected = t.selection ∧ (reselected t).now = t.now
    ∧ (reselected t).trim = t.trim ∧ (reselected t).u = t.u ∧ (∀ r, ((reselected t).ref r).valid = (t.ref r).valid)
    ∧ (reselected t).disc = if t.selection = none ∧ t.selected ≠ none then withoutSelection t else t.disc := by
  by_cases hsel : t.selection = t.selected
  · rw [show reselected t = t from if_pos hsel, if_neg (by rw [hsel]; exact fun h => h.2 h.1)]
    exact ⟨hsel.symm, rfl, rfl, rfl, fun _ => rfl, rfl⟩
  · have hkept := reselected_kept hsel
    refine ⟨hkept.selected, hkept.now, hkept.trim, hkept.u, hkept.valid, ?_⟩
    rw [reselected_disc hsel]
    cases hnew : t.selection with
    | none =>
      rw [if_pos ⟨rfl, fun h => hsel (hnew.trans h.symm)⟩, answered_none_disc]; rfl
    | some q => rw [if_neg (fun h => nomatch h.1), answered_some_disc]

/-! ### The blocks then -/

theorem breakIds_checks (s : State) : (checkLow (checkHigh s)).breakIds = s.breakIds := by
  have hhigh : ∀ t : State, (checkHigh t).breakIds = t.breakIds := fun t => by
    unfold checkHigh; dsimp only; split <;> rfl
  have hlow : ∀ t : State, (checkLow t).breakIds = t.breakIds := fun t => by
    unfold checkLow; dsimp only; split <;> rfl
  rw [hlow, hhigh]

theorem calm_takenUp (s : State) : calm (checkLow (checkHigh (compareU s))) = calm s := by
  rw [calm_checkLow, calm_checkHigh, calm_compareU]

theorem fitted_of_inUse {s : State} {c : SiteConfig} (h : s.sc.inUse = some c) (r : Ref) : s.fitted r = fitsOf c r := by
  cases r <;> simp only [State.fitted, State.setting, h, fitsOf]

theorem setting_of_inUse {α : Type} {s : State} {c : SiteConfig} (h : s.sc.inUse = some c) (f : SiteConfig → α) (x : α) :
    s.setting f x = f c := by simp only [State.setting, h]

/-- The emission controller once the limit and the thresholds of a new record have been compared (R47, R60). -/
theorem takenUp_em {s : State} {c : SiteConfig} (h : s.sc.inUse = some c) :
    (checkLow (checkHigh (compareU s))).em = withHigh
      ((s.em.queue.high || decide (c.almostFull ≤ s.em.queue.occupancy))
        && decide (c.almostEmpty < s.em.queue.occupancy)) (compareU s).em := by
  have hcompared : (compareU s).sc.inUse = some c := (inUse_of_still (still_of_calm (calm_compareU s))).trans h
  have hhigh : (checkHigh (compareU s)).sc.inUse = some c :=
    (inUse_of_still (still_of_calm (calm_checkHigh _))).trans hcompared
  have hqueue := compareU_queue s
  rw [checkLow_em, checkHigh_em, setting_of_inUse hcompared, setting_of_inUse hhigh, hqueue]
  simp only [withHigh, hqueue]

theorem item_of_latchless {α : Type} (p : SiteControl → α) (hp : ∀ k, p (latchless k) = p k) {k k' : SiteControl}
    (h : latchless k = latchless k') : p k = p k' := by rw [← hp k, ← hp k', h]

theorem item_of_slotless {α : Type} (p : ZoneLine → α) (hp : ∀ z, p (slotless z) = p z) {z z' : ZoneLine}
    (h : slotless z = slotless z') : p z = p z' := by rw [← hp z, ← hp z', h]

/-- The emission controller in force after a load, outside FAULT and at its queue (R47, R57, R60). -/
theorem takenUp_emission {s : State} {c : SiteConfig} (h : s.sc.inUse = some c) :
    (s.em.state ≠ .fault →
      (checkLow (checkHigh (compareU s))).em.causes = { s.em.causes with time := decide (c.emissionLimit < s.tb.u) }
      ∧ (checkLow (checkHigh (compareU s))).em.state
        = if s.em.state = .onAir ∧ c.emissionLimit < s.tb.u ∧ s.em.causes.time = false then .muted else s.em.state)
      ∧ (checkLow (checkHigh (compareU s))).em.queue = { s.em.queue with
        high := (s.em.queue.high || decide (c.almostFull ≤ s.em.queue.occupancy))
          && decide (c.almostEmpty < s.em.queue.occupancy) } := by
  have hlimit : s.emissionLimit = c.emissionLimit := setting_of_inUse h _ _
  rw [takenUp_em h]
  refine ⟨fun hfault => ?_, ?_⟩
  · rw [← hlimit]; exact compareU_em hfault
  · rw [← compareU_queue s]; rfl

/-- The selection that the validities of a new record's references give (R8). -/
theorem refits_selection (c : SiteConfig) (s : State) : (refits c s).selection
    = if (s.fitted .a == fitsOf c .a && (s.tb.ref .a).valid) = true then some .a
      else if (s.fitted .b == fitsOf c .b && (s.tb.ref .b).valid) = true then some .b else none := by
  rw [← refitted_valid (s.fitted .a) (fitsOf c .a) s.tb.now, ← refitted_valid (s.fitted .b) (fitsOf c .b) s.tb.now,
    ← refits_ref, ← refits_ref]
  rfl

/-- Settles O51: the record's own load, the references and the selection, the emission controller, the rest. -/
theorem validRecordComesIntoUse : Obligations.ValidRecordComesIntoUse := by
  unfold Obligations.ValidRecordComesIntoUse
  intro record since s hlen hreading hcheck hformat
  dsimp only
  intro htags
  obtain ⟨m, hexec⟩ := exec_configReadComplete_valid hlen hreading (judgeRecord_valid hcheck hformat htags)
  generalize (clampRecord record).1 = c at *
  obtain ⟨hem, hids, hzone⟩ := reselect_blocks (loadedState c m s)
  have hreselected : (reselect (loadedState c m s)).tb = reselected (refits c s) := reselect_tb _
  have hinUse : (reselect (loadedState c m s)).sc.inUse = some c := inUse_of_still (still_reselect _)
  have hystill : still (reselect (loadedState c m s)) = still (loadedState c m s) := still_reselect _
  generalize reselect (loadedState c m s) = y at *
  obtain ⟨hair, hqueue⟩ := takenUp_emission hinUse
  have hcalm := calm_takenUp y
  have htids : (checkLow (checkHigh (compareU y))).breakIds = s.breakIds :=
    ((breakIds_checks _).trans (breakIds_compareU y)).trans hids
  generalize checkLow (checkHigh (compareU y)) = t at *
  have htb : t.tb = reselected (refits c s) := (tb_of_calm hcalm).trans hreselected
  have hstill : still t = still (loadedState c m s) := (still_of_calm hcalm).trans hystill
  have htzone : slotless t.zone = slotless (loadedState c m s).zone := (zone_of_calm hcalm).trans hzone
  have htinUse : t.sc.inUse = some c := inUse_of_still hstill
  have hcontrol : latchless t.sc = latchless (loaded c s.sc) := congrArg Still.control hstill
  have hros : t.ros = (loadedState c m s).ros := congrArg Still.ros hstill
  obtain ⟨hselected, hnow, htrim, hu, hvalid, hdisc⟩ := reselected_items (refits c s)
  have i := sameItems_of_core (core_refits c s)
  have hyem : y.em = s.em := hem
  have hyu : y.tb.u = s.tb.u := by rw [hreselected, hu, i.u]
  rw [hyem, hyu] at hair
  rw [hyem] at hqueue
  rw [refits_selection] at hselected hdisc
  refine ⟨t, hexec, item_of_latchless (·.config) (fun _ => rfl) hcontrol, item_of_latchless (·.loader) (fun _ => rfl) hcontrol,
    item_of_latchless (·.faultCause) (fun _ => rfl) hcontrol, htinUse,
    item_of_latchless (·.loads) (fun _ => rfl) hcontrol, by rw [hros]; rfl, by rw [hros]; rfl, by rw [hros]; rfl,
    by rw [hros]; rfl, item_of_slotless (·.receiver) (fun _ => rfl) htzone,
    item_of_slotless (·.busySince) (fun _ => rfl) htzone, fun r => ⟨?_, ?_, fun hne => ?_⟩, setting_of_inUse htinUse _ _,
    by rw [htb]; exact hselected, ?_, fun hfit hsel => ?_, by rw [htb, hnow, i.now], by rw [htb, htrim, i.trim],
    by rw [htb, hu, i.u], hair, hqueue, (intake_of_still hstill).trans rfl, htids,
    (memory_of_still hstill).trans rfl⟩
  · rw [fitted_of_inUse htinUse]; cases r <;> rfl
  · rw [htb, hvalid, refits_ref, refitted_valid]; cases r <;> rfl
  · have hempty : Emptied ((refits c s).ref r) := by
      rw [refits_ref]
      exact emptied_refitted (fun he => hne (he.trans (by cases r <;> rfl))) _ _
    rw [htb]
    exact ⟨hempty.reselected.goodRun, hempty.reselected.badRun, hempty.reselected.lastMark, hempty.reselected.lastLabel⟩
  · rw [htb, hdisc, i.selected, i.disc, withoutSelection, i.disc, i.tracked]
    cases s.tb.disc <;> rfl
  · have hsame : refits c s = s.tb := refits_same fun r => (hfit r).trans (by cases r <;> rfl)
    have hselection := refits_selection c s
    rw [hsame] at htb hselection
    rw [htb]
    exact if_pos (hselection.trans hsel.symm)

end Sys2Proof.Proofs
end

section
/-! RESTART at the spot store (R84), the break table being empty then. -/

namespace Sys2Proof.Proofs

open Sys2Proof Sys2Proof.Machine Sys2Proof.Laws

/-! ### With no break in the table nothing is handed on -/

/-- The hand-off that does nothing. -/
def noHandOff (s : State) : State := s

theorem refresh_of_empty {s : State} (h : s.cues.table = []) : refresh s = s := by
  have hopen : refreshOpen s = s := by simp [refreshOpen, State.breakIds, h, forEach]
  simp [refresh, refreshBut, h, reconcileBut, hopen]

theorem makeMissing_of_empty {s : State} (h : s.cues.table = []) (id : Nat) (l : List Nat) :
    makeMissing refresh none id l s = makeMissing noHandOff none id l s := by
  unfold makeMissing; split
  · rfl
  · exact refresh_of_empty h

theorem applyPending_of_empty {s : State} (h : s.cues.table = []) (id : Nat) :
    applyPending refresh none id s = applyPending noHandOff none id s := by
  unfold applyPending; split
  · rfl
  · split
    · rfl
    · exact makeMissing_of_empty (s := updateEntry id _ s) h id _

theorem dropAssembly_cues (id : Nat) (s : State) : (dropAssembly id s).cues = s.cues := by
  unfold dropAssembly endSegment dropCapture; (repeat' split) <;> rfl

theorem removeEntry_of_empty {s : State} (h : s.cues.table = []) (id : Nat) :
    removeEntry refresh id s = removeEntry noHandOff id s := by
  cases he : s.store.entry? id with
  | none => rw [removeEntry_none he, removeEntry_none he]
  | some e =>
    rw [removeEntry_some he, removeEntry_some he]
    exact refresh_of_empty ((congrArg CueDecoder.table (dropAssembly_cues id s)).trans h)

theorem startCheck_of_empty {s : State} (h : s.cues.table = []) : startCheck refresh s = startCheck noHandOff s := by
  unfold startCheck; split
  · split
    · rfl
    · exact refresh_of_empty h
  · rfl

/-! ### What the steps leave alone -/

/-- The state but for the store's directory, pages, queue, assembler and counters. -/
def blocks (s : State) : State :=
  { s with store := ⟨s.store.memory, [], [], .idle, [], s.store.check, StoreCounters.zero⟩ }

theorem memory_of_blocks {s t : State} (h : blocks t = blocks s) : t.store.memory = s.store.memory :=
  have hm : (blocks t).store.memory = (blocks s).store.memory := by rw [h]
  hm

theorem cues_of_blocks {s t : State} (h : blocks t = blocks s) : t.cues = s.cues :=
  have hc : (blocks t).cues = (blocks s).cues := by rw [h]
  hc

theorem check_of_blocks {s t : State} (h : blocks t = blocks s) : t.store.check = s.store.check :=
  have hc : (blocks t).store.check = (blocks s).store.check := by rw [h]
  hc

/-- The pending failures of an entry, applied with no report and no hand-off (R77). -/
def failEntry (id : Nat) (e : Entry) (s : State) : State :=
  { s with store := { s.store with
    freePages := s.store.freePages ++ pagesOf e.segs e.pending
    directory := updateWhere (fun x => x.spot.id == id)
      (fun x => { x with pending := [], segs := missing x.segs e.pending, state := .filling }) s.store.directory
    checkQueue := s.store.checkQueue.filter fun q => q != id } }

@[simp] theorem blocks_dropCapture (s : State) : blocks (dropCapture s) = blocks s := by
  unfold dropCapture; split <;> rfl

@[simp] theorem blocks_endSegment (s : State) : blocks (endSegment s) = blocks s := blocks_dropCapture s

@[simp] theorem blocks_dropAssembly (id : Nat) (s : State) : blocks (dropAssembly id s) = blocks s := by
  unfold dropAssembly; (repeat' split) <;> simp

@[simp] theorem blocks_removeEntry (id : Nat) (s : State) : blocks (removeEntry noHandOff id s) = blocks s := by
  cases he : s.store.entry? id with
  | none => rw [removeEntry_none he]
  | some e => rw [removeEntry_some he]; exact blocks_dropAssembly id s

@[simp] theorem blocks_dropHolds (s : State) : blocks (dropHolds s) = blocks s := rfl

/-- Two loops whose bodies agree with the break table empty agree then. -/
theorem forEach_of_empty {f g : Nat → State → State} (hfg : ∀ a s, s.cues.table = [] → f a s = g a s)
    (hg : ∀ a s, blocks (g a s) = blocks s) (l : List Nat) {s : State} (h : s.cues.table = []) :
    forEach f l s = forEach g l s := by
  induction l generalizing s with
  | nil => rfl
  | cons a l ih =>
    rw [forEach, forEach, hfg a s h]
    exact ih (by rw [cues_of_blocks (hg a s)]; exact h)

/-- The store after the check and the assembly have ended and the holds have been dropped (R84 steps 1 to 3). -/
def ended (s : State) : State := dropHolds (abortCheck (endSegment s))

/-- The pending failures applied, and the entries that then fill (R84 step 4). -/
def failed (s : State) : State := forEach (applyPending noHandOff none) s.store.ids s

/-- The entries that satisfy a test removed (R84 steps 5 and 6). -/
def purged (p : Entry → Bool) (s : State) : State := forEach (removeEntry noHandOff) (s.store.idsWhere p) s

/-- The store once every step but the start of a check has been made. -/
def swept (s : State) : State :=
  purged Entry.expirePending (purged (fun e => e.state == .filling) (failed (ended s)))

/-- The counters at 0, as the check that starts then meets them (log entry 64). -/
def recounted (s : State) : State := { s with store := { s.store with counters := StoreCounters.zero } }

theorem find?_updateWhere {α : Type} {p : α → Bool} {f : α → α} (hf : ∀ x, p (f x) = p x) {l : List α} {x : α}
    (h : l.find? p = some x) : (updateWhere p f l).find? p = some (f x) := by
  induction l with
  | nil => cases h
  | cons y l ih =>
    rw [List.find?_cons] at h
    cases hy : p y with
    | true =>
      rw [hy] at h; obtain rfl := Option.some.inj h
      simp [updateWhere, hy, hf]
    | false =>
      rw [hy] at h
      have := ih h
      simpa [updateWhere, hy] using this

theorem updateWhere_updateWhere {α : Type} {p : α → Bool} {f g : α → α} (hf : ∀ x, p (f x) = p x) (l : List α) :
    updateWhere p g (updateWhere p f l) = updateWhere p (fun x => g (f x)) l := by
  simp only [updateWhere, List.map_map]
  refine List.map_congr_left fun x _ => ?_
  simp only [Function.comp]
  by_cases hp : p x = true
  · rw [if_pos hp, if_pos ((hf x).trans hp), if_pos hp]
  · rw [if_neg hp, if_neg hp, if_neg hp]

theorem entry?_updateEntry {s : State} {id : Nat} {e : Entry} {f : Entry → Entry} (he : s.store.entry? id = some e)
    (hf : ∀ x, (f x).spot = x.spot) : (updateEntry id f s).store.entry? id = some (f e) :=
  find?_updateWhere (fun x => by rw [hf]) he

/-- What the pending failures of an entry can do: nothing when there are none, and otherwise make its segments missing. -/
theorem applyPending_cases (id : Nat) (s : State) :
    applyPending noHandOff none id s = s ∧ (∀ e, s.store.entry? id = some e → e.pending = [])
      ∨ ∃ e, s.store.entry? id = some e ∧ e.pending ≠ [] ∧ applyPending noHandOff none id s = failEntry id e s := by
  cases he : s.store.entry? id with
  | none => exact .inl ⟨by unfold applyPending; rw [he], fun e h => nomatch h⟩
  | some e =>
    by_cases hp : e.pending.isEmpty = true
    · refine .inl ⟨by unfold applyPending; rw [he]; exact if_pos hp, fun e' h => ?_⟩
      rw [← Option.some.inj h]; exact List.isEmpty_iff.1 hp
    · refine .inr ⟨e, rfl, fun h => hp (by rw [h]; rfl), ?_⟩
      have hfound : (updateEntry id (fun y => { y with pending := [] }) s).store.entry? id
          = some { e with pending := [] } := entry?_updateEntry he (fun _ => rfl)
      unfold applyPending; rw [he]; dsimp only; rw [if_neg hp]
      unfold makeMissing; rw [hfound]
      simp only [noHandOff, failEntry, returnPages, updateEntry]
      rw [updateWhere_updateWhere (p := fun x : Entry => x.spot.id == id) (f := fun y => { y with pending := [] })
        (fun _ => rfl)]

theorem recounted_check (s : State) : (recounted s).store.check = s.store.check := rfl
theorem recounted_directory (s : State) : (recounted s).store.directory = s.store.directory := rfl
theorem recounted_checkQueue (s : State) : (recounted s).store.checkQueue = s.store.checkQueue := rfl
theorem recounted_freePages (s : State) : (recounted s).store.freePages = s.store.freePages := rfl
theorem recounted_assembler (s : State) : (recounted s).store.assembler = s.store.assembler := rfl
theorem recounted_memory (s : State) : (recounted s).store.memory = s.store.memory := rfl
theorem recounted_ids (s : State) : (recounted s).store.ids = s.store.ids := rfl
theorem recounted_cues (s : State) : (recounted s).cues = s.cues := rfl
theorem recounted_withStore (s : State) (x : SpotStore) : { recounted s with store := x } = { s with store := x } := rfl

@[simp] theorem blocks_applyPending (id : Nat) (s : State) : blocks (applyPending noHandOff none id s) = blocks s := by
  rcases applyPending_cases id s with ⟨h, -⟩ | ⟨e, -, -, h⟩ <;> rw [h]
  rfl

@[simp] theorem blocks_failed (s : State) : blocks (failed s) = blocks s :=
  forEach_keeps blocks _ blocks_applyPending _ _

@[simp] theorem blocks_purged (p : Entry → Bool) (s : State) : blocks (purged p s) = blocks s :=
  forEach_keeps blocks _ blocks_removeEntry _ _

/-! ### The check in flight (R84 step 2) -/

/-- The spot whose check a restart aborts. -/
def aborted (s : State) : Option Nat :=
  match s.store.check with
  | none => none
  | some c =>
    match s.store.entry? c.spotId with
    | none => none
    | some e => if e.state = .checking then some c.spotId else none

/-- An entry once the check of the spot given has been aborted. -/
def abortedEntry (spot : Option Nat) (e : Entry) : Entry :=
  if spot = some e.spot.id then { e with state := .complete } else e

theorem abortedEntry_none (l : List Entry) : l.map (abortedEntry none) = l :=
  (List.map_congr_left fun _ _ => if_neg (fun h => nomatch h)).trans (List.map_id' l)

theorem abortedEntry_some (id : Nat) (l : List Entry) : l.map (abortedEntry (some id))
    = updateWhere (fun e => e.spot.id == id) (fun e => { e with state := .complete }) l := by
  refine List.map_congr_left fun e _ => ?_
  simp only [abortedEntry, Option.some.injEq, beq_iff_eq, eq_comm (a := id)]

theorem abortCheck_eq (s : State) : abortCheck s = { s with store := { s.store with
    check := none
    checkQueue := s.store.checkQueue ++ (aborted s).toList
    directory := s.store.directory.map (abortedEntry (aborted s)) } } := by
  unfold abortCheck aborted
  cases hc : s.store.check with
  | none =>
    dsimp only; rw [abortedEntry_none, Option.toList_none, List.append_nil, ← hc]
  | some c =>
    dsimp only
    rw [show SpotStore.entry? { s.store with check := none } c.spotId = s.store.entry? c.spotId from rfl]
    cases he : s.store.entry? c.spotId with
    | none => dsimp only; rw [abortedEntry_none, Option.toList_none, List.append_nil]
    | some e =>
      dsimp only
      by_cases hs : e.state = .checking
      · rw [if_pos hs, if_pos hs, abortedEntry_some]; rfl
      · rw [if_neg hs, if_neg hs, abortedEntry_none, Option.toList_none, List.append_nil]

/-- The entry whose check is aborted was in its check. -/
theorem aborted_checking {s : State} {id : Nat} (h : aborted s = some id) :
    ∃ e, s.store.entry? id = some e ∧ e.state = .checking := by
  unfold aborted at h
  cases hc : s.store.check with
  | none => rw [hc] at h; cases h
  | some c =>
    rw [hc] at h; dsimp only at h
    cases he : s.store.entry? c.spotId with
    | none => rw [he] at h; cases h
    | some e =>
      rw [he] at h; dsimp only at h
      by_cases hs : e.state = .checking
      · rw [if_pos hs] at h; obtain rfl := Option.some.inj h; exact ⟨e, he, hs⟩
      · rw [if_neg hs] at h; cases h

theorem aborted_of_check {s : State} {id : Nat} {e : Entry} (hc : s.store.check.map CheckInFlight.spotId = some id)
    (he : s.store.entry? id = some e) (hs : e.state = .checking) : aborted s = some id := by
  obtain ⟨c, hfound, rfl⟩ := Option.map_eq_some_iff.1 hc
  unfold aborted; rw [hfound]; dsimp only; rw [he]; exact if_pos hs

theorem aborted_of_none {s : State} (h : s.store.check = none) : aborted s = none := by unfold aborted; rw [h]

theorem dropCapture_store (s : State) : (dropCapture s).store.freePages = s.store.freePages ++ s.store.capturePage
    ∧ (dropCapture s).store.directory = s.store.directory ∧ (dropCapture s).store.check = s.store.check
    ∧ (dropCapture s).store.checkQueue = s.store.checkQueue := by
  unfold dropCapture SpotStore.capturePage
  cases s.store.assembler <;> simp

theorem aborted_endSegment (s : State) : aborted (endSegment s) = aborted s := by
  obtain ⟨-, hdir, hcheck, -⟩ := dropCapture_store s
  unfold aborted
  rw [show (endSegment s).store.check = s.store.check from hcheck]
  simp only [SpotStore.entry?, show (endSegment s).store.directory = s.store.directory from hdir]

/-- An entry after the first three steps of a restart. -/
def endedEntry (spot : Option Nat) (e : Entry) : Entry := { abortedEntry spot e with prot := 0, freeze := 0 }

/-- The store after the first three steps (R84). -/
structure Ended (s t : State) : Prop where
  directory : t.store.directory = s.store.directory.map (endedEntry (aborted s))
  queue : t.store.checkQueue = s.store.checkQueue ++ (aborted s).toList
  check : t.store.check = none
  pages : t.store.freePages = s.store.freePages ++ s.store.capturePage
  assembler : t.store.assembler = .idle
  blocks : blocks t = blocks { s with store := { s.store with check := none } }

theorem ended_ended (s : State) : Ended s (ended s) := by
  obtain ⟨hpages, hdir, hcheck, hqueue⟩ := dropCapture_store s
  have hblocks : blocks { endSegment s with store := { (endSegment s).store with check := none } }
      = blocks { s with store := { s.store with check := none } } := by
    unfold endSegment dropCapture; split <;> rfl
  have heq := abortCheck_eq (endSegment s)
  rw [aborted_endSegment] at heq
  have hids : ∀ l : List Entry, (l.map (abortedEntry (aborted s))).map (fun e => { e with prot := 0, freeze := 0 })
      = l.map (endedEntry (aborted s)) := fun l => List.map_map
  unfold ended; rw [heq]
  exact {
    directory := (hids _).trans (by rw [show (endSegment s).store.directory = s.store.directory from hdir])
    queue := congrArg (· ++ (aborted s).toList) hqueue
    check := rfl
    pages := hpages
    assembler := rfl
    blocks := hblocks }

end Sys2Proof.Proofs
end

section
/-! The obligation about RESTART: the entries that stay, and the blocks (R84, R186). -/

namespace Sys2Proof.Proofs

open Sys2Proof Sys2Proof.Machine Sys2Proof.Laws

/-! ### Loops over the entries -/

theorem forEach_holds {α β : Type} {P : β → Prop} {f : α → β → β} {l : List α} (hf : ∀ a ∈ l, ∀ b, P b → P (f a b))
    {b : β} (h : P b) : P (forEach f l b) := by
  induction l generalizing b with
  | nil => exact h
  | cons x l ih => exact ih (fun a ha => hf a (List.mem_cons_of_mem _ ha)) (hf x (by simp) b h)

theorem forEach_idle {α β : Type} {f : α → β → β} {l : List α} {b : β} (hf : ∀ a, f a b = b) : forEach f l b = b :=
  forEach_holds (P := fun c => c = b) (fun a _ c hc => by rw [hc, hf a]) rfl

/-- What the later steps of a restart keep: the entries are without holds, no assembly is under way, and no spot enters
the check queue. -/
structure Unheld (queue : List Nat) (s : State) : Prop where
  holds : ∀ e ∈ s.store.directory, e.prot = 0 ∧ e.freeze = 0
  idle : s.store.assembler = .idle
  queued : ∀ id ∈ s.store.checkQueue, id ∈ queue

theorem dropAssembly_idle {s : State} (h : s.store.assembler = .idle) (id : Nat) : dropAssembly id s = s := by
  unfold dropAssembly; rw [h]

theorem removeEntry_idle {s : State} {id : Nat} {e : Entry} (h : s.store.assembler = .idle)
    (he : s.store.entry? id = some e) : removeEntry noHandOff id s
      = dropEntry id (returnPages (pagesOf e.segs (List.range e.segs.length)) s) := by
  rw [removeEntry_some he, dropAssembly_idle h]; rfl

theorem removeEntry_directory (id : Nat) (s : State) : (removeEntry noHandOff id s).store.directory
    = s.store.directory.filter fun x => x.spot.id != id := by
  cases he : s.store.entry? id with
  | none =>
    rw [removeEntry_none he, List.filter_eq_self.2 fun x hx => ?_]
    simpa using List.find?_eq_none.1 he x hx
  | some e =>
    rw [removeEntry_some he]
    show ((dropAssembly id s).store.directory.filter fun x => x.spot.id != id) = _
    rw [dropAssembly_directory]

theorem Unheld.applyPending {queue : List Nat} {s : State} (h : Unheld queue s) (id : Nat) :
    Unheld queue (applyPending noHandOff none id s) := by
  rcases applyPending_cases id s with ⟨heq, -⟩ | ⟨e, -, -, heq⟩ <;> rw [heq]
  · exact h
  · refine ⟨fun y hy => ?_, h.idle, fun i hi => h.queued i (List.mem_filter.1 hi).1⟩
    obtain ⟨x, hx, rfl⟩ := mem_updateWhere.1 hy
    split <;> exact h.holds x hx

theorem Unheld.removeEntry {queue : List Nat} {s : State} (h : Unheld queue s) (id : Nat) :
    Unheld queue (removeEntry noHandOff id s) := by
  cases he : s.store.entry? id with
  | none => rw [removeEntry_none he]; exact h
  | some e =>
    rw [removeEntry_idle h.idle he]
    exact ⟨fun x hx => h.holds x (List.mem_filter.1 hx).1, h.idle, fun i hi => h.queued i (List.mem_filter.1 hi).1⟩

theorem Unheld.failed {queue : List Nat} {s : State} (h : Unheld queue s) : Unheld queue (failed s) :=
  forEach_holds (fun id _ _ ht => ht.applyPending id) h

theorem Unheld.purged {queue : List Nat} {s : State} (h : Unheld queue s) (p : Entry → Bool) : Unheld queue (purged p s) :=
  forEach_holds (fun id _ _ ht => ht.removeEntry id) h

theorem forEach_removeEntry_directory (l : List Nat) (s : State) : (forEach (removeEntry noHandOff) l s).store.directory
    = s.store.directory.filter fun x => !l.contains x.spot.id := by
  induction l generalizing s with
  | nil => exact (List.filter_eq_self.2 fun x _ => rfl).symm
  | cons id l ih =>
    rw [forEach, ih, removeEntry_directory, List.filter_filter]
    refine List.filter_congr fun x _ => ?_
    rw [List.contains_cons, Bool.not_or, Bool.and_comm]; rfl

/-- The entries that a purge keeps: those whose spot id no entry that satisfies the test has. -/
theorem mem_purged {p : Entry → Bool} {s : State} {e : Entry} :
    e ∈ (purged p s).store.directory ↔ e ∈ s.store.directory ∧ e.spot.id ∉ s.store.idsWhere p := by
  unfold purged; rw [forEach_removeEntry_directory, List.mem_filter]; simp

theorem mem_idsWhere {p : Entry → Bool} {st : SpotStore} {id : Nat} :
    id ∈ st.idsWhere p ↔ ∃ e ∈ st.directory, p e = true ∧ e.spot.id = id := by
  simp only [SpotStore.idsWhere, List.mem_map, List.mem_filter, and_assoc]

/-- No entry that satisfies the test is left by a purge. -/
theorem purged_clean {p : Entry → Bool} {s : State} {e : Entry} (h : e ∈ (purged p s).store.directory) : p e = false := by
  obtain ⟨hmem, hid⟩ := mem_purged.1 h
  exact Bool.eq_false_iff.2 fun hp => hid (mem_idsWhere.2 ⟨e, hmem, hp, rfl⟩)

theorem ids_purged (p : Entry → Bool) (s : State) : (purged p s).store.ids.Sublist s.store.ids := by
  unfold purged SpotStore.ids; rw [forEach_removeEntry_directory]
  exact List.filter_sublist.map _

theorem ids_nodup_inj {st : SpotStore} (hn : st.ids.Nodup) {e e' : Entry} (he : e ∈ st.directory)
    (he' : e' ∈ st.directory) (h : e.spot.id = e'.spot.id) : e = e' := List.inj_on_of_nodup_map hn he he' h

/-! ### An entry that a restart keeps -/

/-- An entry stands in a directory whose spot ids are distinct. -/
def Stands (e : Entry) (s : State) : Prop := e ∈ s.store.directory ∧ s.store.ids.Nodup

theorem Stands.purged {e : Entry} {s : State} (h : Stands e s) {p : Entry → Bool} (hp : p e = false) :
    Stands e (purged p s) := by
  obtain ⟨hmem, hn⟩ := h
  refine ⟨mem_purged.2 ⟨hmem, fun hid => ?_⟩, hn.sublist (ids_purged p s)⟩
  obtain ⟨e', he', hp', hid'⟩ := mem_idsWhere.1 hid
  rw [ids_nodup_inj hn he' hmem hid', hp] at hp'; cases hp'

theorem ids_failEntry (id : Nat) (e : Entry) (s : State) : (failEntry id e s).store.ids = s.store.ids :=
  map_updateWhere (fun x : Entry => x.spot.id) (fun x => x.spot.id == id)
    (fun x => { x with pending := [], segs := missing x.segs e.pending, state := .filling }) (fun _ => rfl) _

theorem Stands.failed {e : Entry} {s : State} (h : Stands e s) (hp : e.pending = []) : Stands e (failed s) := by
  refine forEach_holds (P := Stands e) (fun id _ t ht => ?_) h
  obtain ⟨hmem, hn⟩ := ht
  rcases applyPending_cases id t with ⟨heq, -⟩ | ⟨x, hx, hxp, heq⟩ <;> rw [heq]
  · exact ⟨hmem, hn⟩
  · have hne : (e.spot.id == id) = false := by
      refine Bool.eq_false_iff.2 fun hid => hxp ?_
      rw [← entry?_unique hn hx hmem (beq_iff_eq.1 hid)]; exact hp
    exact ⟨mem_updateWhere.2 ⟨e, hmem, by rw [hne]; rfl⟩, by rw [ids_failEntry]; exact hn⟩

theorem Stands.swept {e : Entry} {s : State} (h : Stands e (ended s)) (hp : e.pending = []) (hs : e.state ≠ .filling)
    (hx : e.expirePending = false) : Stands e (swept s) :=
  ((h.failed hp).purged (by simpa using hs)).purged hx

/-! ### The check that starts -/

/-- The store with a check on an entry of the queue's front started (R79). -/
def checkStarted (id : Nat) (rest : List Nat) (e : Entry) (s : State) : State :=
  { s with store := { s.store with
    checkQueue := rest
    check := some ⟨id, s.tb.now + 10000 * e.segCount⟩
    counters := { s.store.counters with checksRun := bump s.store.counters.checksRun }
    directory := updateWhere (fun x => x.spot.id == id) (fun y => { y with state := .checking }) s.store.directory } }

/-- What the start of a check can do with none in flight (R79). -/
theorem startCheck_cases {s : State} (h : s.store.check = none) :
    s.store.checkQueue = [] ∧ startCheck noHandOff s = s
      ∨ ∃ id rest, s.store.checkQueue = id :: rest
        ∧ (s.store.entry? id = none
            ∧ startCheck noHandOff s = { s with store := { s.store with checkQueue := rest } }
          ∨ ∃ e, s.store.entry? id = some e ∧ startCheck noHandOff s = checkStarted id rest e s) := by
  unfold startCheck
  rw [h]
  cases hq : s.store.checkQueue with
  | nil => exact .inl ⟨rfl, rfl⟩
  | cons id rest =>
    refine .inr ⟨id, rest, rfl, ?_⟩
    dsimp only
    cases he : s.store.entry? id with
    | none => exact .inl ⟨rfl, rfl⟩
    | some e => exact .inr ⟨e, rfl, rfl⟩

/-- Every entry after the start of a check is one from before it, in CHECKING or as it was. -/
theorem mem_startCheck {s : State} (h : s.store.check = none) {y : Entry}
    (hy : y ∈ (startCheck noHandOff s).store.directory) :
    ∃ x ∈ s.store.directory, y = x ∨ y = { x with state := .checking } := by
  rcases startCheck_cases h with ⟨-, heq⟩ | ⟨id, rest, -, ⟨-, heq⟩ | ⟨e, -, heq⟩⟩ <;> rw [heq] at hy
  · exact ⟨y, hy, .inl rfl⟩
  · exact ⟨y, hy, .inl rfl⟩
  · obtain ⟨x, hx, rfl⟩ := mem_updateWhere.1 hy
    refine ⟨x, hx, ?_⟩
    split
    · exact .inr rfl
    · exact .inl rfl

/-- An entry stays at the start of a check, and stays as it is when its spot is not in the queue. -/
theorem startCheck_stays {s : State} (h : s.store.check = none) {x : Entry} (hx : x ∈ s.store.directory) :
    ∃ y ∈ (startCheck noHandOff s).store.directory, (y = x ∨ y = { x with state := .checking })
      ∧ (x.spot.id ∉ s.store.checkQueue → y = x) := by
  rcases startCheck_cases h with ⟨-, heq⟩ | ⟨id, rest, hq, ⟨-, heq⟩ | ⟨e, -, heq⟩⟩ <;> rw [heq]
  · exact ⟨x, hx, .inl rfl, fun _ => rfl⟩
  · exact ⟨x, hx, .inl rfl, fun _ => rfl⟩
  · by_cases hid : (x.spot.id == id) = true
    · refine ⟨{ x with state := .checking }, mem_updateWhere.2 ⟨x, hx, by rw [if_pos hid]⟩, .inr rfl, fun hout => ?_⟩
      exact absurd (by rw [hq, beq_iff_eq.1 hid]; exact List.mem_cons_self) hout
    · exact ⟨x, mem_updateWhere.2 ⟨x, hx, by rw [if_neg hid]⟩, .inl rfl, fun _ => rfl⟩

theorem startCheck_rest {s : State} : (startCheck noHandOff s).store.freePages = s.store.freePages
    ∧ (startCheck noHandOff s).store.assembler = s.store.assembler
    ∧ (startCheck noHandOff s).store.memory = s.store.memory
    ∧ { startCheck noHandOff s with store := s.store } = s := by
  unfold startCheck; (repeat' split) <;> exact ⟨rfl, rfl, rfl, rfl⟩

/-! ### The store's restart -/

theorem restartStore_eq {s : State} (h : s.cues.table = []) :
    restartStore s = startCheck noHandOff (recounted (swept s)) := by
  have hended : (ended s).cues.table = [] := by
    rw [cues_of_blocks (ended_ended s).blocks]; exact h
  have hfailed : forEach (applyPending refresh none) (ended s).store.ids (ended s) = failed (ended s) :=
    forEach_of_empty (fun id t ht => applyPending_of_empty ht id) blocks_applyPending _ hended
  have hpurge : ∀ (p : Entry → Bool) (t : State), t.cues.table = [] →
      forEach (removeEntry refresh) (t.store.idsWhere p) t = purged p t := fun p t ht =>
    forEach_of_empty (fun id u hu => removeEntry_of_empty hu id) blocks_removeEntry _ ht
  have hcues : ∀ t : State, blocks t = blocks (ended s) → t.cues.table = [] := fun t ht => by
    rw [cues_of_blocks ht]; exact hended
  have hfilled := hpurge (fun e => e.state == .filling) (failed (ended s)) (hcues _ (blocks_failed _))
  have hexpired : forEach (removeEntry refresh) ((purged (fun e => e.state == .filling) (failed (ended s))).store.idsWhere
      Entry.expirePending) (purged (fun e => e.state == .filling) (failed (ended s))) = swept s :=
    hpurge _ _ (hcues _ ((blocks_purged _ _).trans (blocks_failed _)))
  unfold restartStore; dsimp only
  rw [show dropHolds (abortCheck (endSegment s)) = ended s from rfl, hfailed, hfilled, hexpired]
  have hswept : blocks (swept s) = blocks (ended s) := by
    rw [swept, blocks_purged, blocks_purged, blocks_failed]
  have hlast : (recounted (swept s)).cues.table = [] := by rw [recounted_cues]; exact hcues _ hswept
  generalize swept s = t at hlast
  exact startCheck_of_empty hlast

end Sys2Proof.Proofs
end

section
/-! RESTART, assembled (R84, R186). -/

namespace Sys2Proof.Proofs

open Sys2Proof Sys2Proof.Machine Sys2Proof.Laws

/-! ### The entries that stay -/

theorem endedEntry_kept (spot : Option Nat) (e : Entry) : (endedEntry spot e).spot = e.spot
    ∧ (endedEntry spot e).segs = e.segs ∧ (endedEntry spot e).lastCells = e.lastCells
    ∧ (endedEntry spot e).expiry = e.expiry ∧ (endedEntry spot e).pending = e.pending
    ∧ (endedEntry spot e).expirePending = e.expirePending := by
  unfold endedEntry abortedEntry; split <;> exact ⟨rfl, rfl, rfl, rfl, rfl, rfl⟩

theorem endedEntry_state (spot : Option Nat) (e : Entry) :
    (endedEntry spot e).state = if spot = some e.spot.id then .complete else e.state := by
  unfold endedEntry abortedEntry; split <;> rfl

theorem ids_ended (s : State) : (ended s).store.ids = s.store.ids := by
  unfold SpotStore.ids; rw [(ended_ended s).directory, List.map_map]
  exact List.map_congr_left fun e _ => congrArg Spot.id (endedEntry_kept _ e).1

theorem unheld_ended (s : State) : Unheld (s.store.checkQueue ++ (aborted s).toList) (ended s) := by
  have h := ended_ended s
  refine ⟨fun e he => ?_, h.assembler, fun id hid => h.queue ▸ hid⟩
  rw [h.directory] at he
  obtain ⟨x, -, rfl⟩ := List.mem_map.1 he
  exact ⟨rfl, rfl⟩

theorem unheld_swept (s : State) : Unheld (s.store.checkQueue ++ (aborted s).toList) (swept s) :=
  ((unheld_ended s).failed.purged _).purged _

theorem swept_clean {s : State} {e : Entry} (h : e ∈ (swept s).store.directory) :
    e.state ≠ .filling ∧ e.expirePending = false := by
  have hfilling := purged_clean (p := fun e : Entry => e.state == .filling) (mem_purged.1 h).1
  exact ⟨by simpa using hfilling, purged_clean h⟩

theorem blocks_swept (s : State) : blocks (swept s) = blocks { s with store := { s.store with check := none } } := by
  rw [swept, blocks_purged, blocks_purged, blocks_failed, (ended_ended s).blocks]

theorem check_swept (s : State) : (recounted (swept s)).store.check = none := by
  rw [recounted_check, check_of_blocks (blocks_swept s)]

theorem entry?_of_mem {st : SpotStore} (hn : st.ids.Nodup) {e : Entry} (he : e ∈ st.directory) :
    st.entry? e.spot.id = some e := by
  cases hf : st.entry? e.spot.id with
  | none => exact absurd (beq_self_eq_true e.spot.id) (List.find?_eq_none.1 hf e he)
  | some x => rw [entry?_unique hn hf he rfl]

/-- A spot that a restart keeps, by the state of its entry (R84). -/
def Restartable (s : State) (e : Entry) : Prop :=
  e.state = .complete ∨ e.state = .verified ∨ e.state = .checking ∧ s.store.inCheck e.spot.id = true

/-- The state of an entry that a restart keeps, once the check has been aborted. -/
theorem endedEntry_restartable {s : State} (hn : s.store.ids.Nodup) {e : Entry} (he : e ∈ s.store.directory)
    (h : Restartable s e) : (e.state ≠ .verified → (endedEntry (aborted s) e).state = .complete)
      ∧ (e.state = .verified → (endedEntry (aborted s) e).state = .verified ∧ aborted s ≠ some e.spot.id) := by
  have hfound := entry?_of_mem hn he
  have hother : e.state ≠ .checking → aborted s ≠ some e.spot.id := fun hne hab => by
    obtain ⟨x, hx, hs⟩ := aborted_checking hab
    rw [hfound] at hx; obtain rfl := Option.some.inj hx
    exact hne hs
  rw [endedEntry_state]
  rcases h with h | h | ⟨h, hcheck⟩
  · exact ⟨fun _ => by rw [h]; exact ite_self _, fun hv => by rw [h] at hv; cases hv⟩
  · have hne := hother (by rw [h]; decide)
    exact ⟨fun hv => absurd h hv, fun _ => ⟨by rw [if_neg hne, h], hne⟩⟩
  · have hab : aborted s = some e.spot.id := aborted_of_check (beq_iff_eq.1 hcheck) hfound h
    exact ⟨fun _ => if_pos hab, fun hv => by rw [h] at hv; cases hv⟩

/-- An entry that a restart keeps stands until a check starts (R84). -/
theorem stands_swept {s : State} (hn : s.store.ids.Nodup) {e : Entry} (he : e ∈ s.store.directory)
    (hpending : e.pending = []) (hexpire : e.expirePending = false) (h : Restartable s e) :
    Stands (endedEntry (aborted s) e) (swept s) := by
  obtain ⟨-, -, -, -, hp, hx⟩ := endedEntry_kept (aborted s) e
  obtain ⟨hcomplete, hverified⟩ := endedEntry_restartable hn he h
  refine Stands.swept ⟨?_, by rw [ids_ended]; exact hn⟩ (hp.trans hpending) ?_ (hx.trans hexpire)
  · rw [(ended_ended s).directory]; exact List.mem_map.2 ⟨e, he, rfl⟩
  · by_cases hv : e.state = .verified
    · rw [(hverified hv).1]; decide
    · rw [hcomplete hv]; decide

/-- What becomes of an entry that a restart keeps (R84). -/
theorem restart_keeps_entry {s : State} (hn : s.store.ids.Nodup) {e : Entry} (he : e ∈ s.store.directory)
    (hpending : e.pending = []) (hexpire : e.expirePending = false) (h : Restartable s e) :
    ∃ e' ∈ (startCheck noHandOff (recounted (swept s))).store.directory, e'.spot = e.spot ∧ e'.segs = e.segs
      ∧ e'.lastCells = e.lastCells ∧ e'.expiry = e.expiry
      ∧ (e.state ≠ .verified → e'.state = .complete ∨ e'.state = .checking)
      ∧ (e.state = .verified → e.spot.id ∉ s.store.checkQueue → e'.state = .verified) := by
  obtain ⟨hspot, hsegs, hlast, hexpiry, -, -⟩ := endedEntry_kept (aborted s) e
  obtain ⟨hcomplete, hverified⟩ := endedEntry_restartable hn he h
  have hstands := stands_swept hn he hpending hexpire h
  obtain ⟨y, hy, hcase, hstays⟩ := startCheck_stays (s := recounted (swept s)) (check_swept s)
    (by rw [recounted_directory]; exact hstands.1)
  refine ⟨y, hy, ?_⟩
  have hkept : y.spot = e.spot ∧ y.segs = e.segs ∧ y.lastCells = e.lastCells ∧ y.expiry = e.expiry := by
    rcases hcase with rfl | rfl <;> exact ⟨hspot, hsegs, hlast, hexpiry⟩
  obtain ⟨h1, h2, h3, h4⟩ := hkept
  refine ⟨h1, h2, h3, h4, fun hv => ?_, fun hv hout => ?_⟩
  · rcases hcase with rfl | rfl
    · exact .inl (hcomplete hv)
    · exact .inr rfl
  · obtain ⟨hs, hab⟩ := hverified hv
    rw [hstays fun hid => ?_, hs]
    rw [hspot, recounted_checkQueue] at hid
    rcases List.mem_append.1 ((unheld_swept s).queued _ hid) with hq | hq
    · exact hout hq
    · exact hab (by simpa using hq)

/-! ### A store with nothing to remove -/

theorem purged_idle {p : Entry → Bool} {s : State} (h : ∀ e ∈ s.store.directory, p e = false) : purged p s = s := by
  have hnone : s.store.idsWhere p = [] := by
    rw [SpotStore.idsWhere, List.filter_eq_nil_iff.2 fun e he => by simp [h e he], List.map_nil]
  unfold purged; rw [hnone]; rfl

theorem failed_idle {s : State} (h : ∀ e ∈ s.store.directory, e.pending = []) : failed s = s :=
  forEach_idle fun id => by
    rcases applyPending_cases id s with ⟨heq, -⟩ | ⟨e, he, hp, -⟩
    · exact heq
    · exact absurd (h e (entry?_mem he).1) hp

/-- With no entry FILLING, expire-pending or with pending failures no entry leaves (R84). -/
theorem swept_of_sound {s : State}
    (h : ∀ e ∈ s.store.directory, e.state ≠ .filling ∧ e.pending = [] ∧ e.expirePending = false) : swept s = ended s := by
  have hended : ∀ e ∈ (ended s).store.directory, e.state ≠ .filling ∧ e.pending = [] ∧ e.expirePending = false := by
    intro e he
    rw [(ended_ended s).directory] at he
    obtain ⟨x, hx, rfl⟩ := List.mem_map.1 he
    obtain ⟨hf, hp, hx⟩ := h x hx
    obtain ⟨-, -, -, -, hp', hx'⟩ := endedEntry_kept (aborted s) x
    refine ⟨?_, hp'.trans hp, hx'.trans hx⟩
    rw [endedEntry_state]; split
    · decide
    · exact hf
  unfold swept
  rw [failed_idle fun e he => (hended e he).2.1,
    purged_idle (p := fun e => e.state == .filling) (s := ended s) fun e he => by simpa using (hended e he).1,
    purged_idle fun e he => (hended e he).2.2]

theorem entry?_isSome_iff {st : SpotStore} {id : Nat} : (∃ e, st.entry? id = some e) ↔ id ∈ st.ids := by
  simp only [SpotStore.entry?, ← Option.isSome_iff_exists, List.find?_isSome, beq_iff_eq, SpotStore.ids, List.mem_map]

/-- The check queue at a restart: the aborted check's spot at the back, and a check on the front (R79, R84). -/
theorem restart_queue {s : State}
    (hsound : ∀ e ∈ s.store.directory, e.state ≠ .filling ∧ e.pending = [] ∧ e.expirePending = false)
    (hcheck : ∀ x, s.store.check = some x → ∃ e, s.store.entry? x.spotId = some e ∧ e.state = .checking)
    (hqueue : ∀ id ∈ s.store.checkQueue ++ (s.store.check.map CheckInFlight.spotId).toList,
      ∃ e, s.store.entry? id = some e) :
    let t := startCheck noHandOff (recounted (swept s))
    t.store.checkQueue = (s.store.checkQueue ++ (s.store.check.map CheckInFlight.spotId).toList).tail
      ∧ t.store.check.map CheckInFlight.spotId
        = (s.store.checkQueue ++ (s.store.check.map CheckInFlight.spotId).toList).head?
      ∧ t.store.freePages = s.store.freePages ++ s.store.capturePage := by
  have hab : aborted s = s.store.check.map CheckInFlight.spotId := by
    cases hc : s.store.check with
    | none => exact aborted_of_none hc
    | some x =>
      obtain ⟨e, he, hs⟩ := hcheck x hc
      exact aborted_of_check (by rw [hc]; rfl) he hs
  have hended := ended_ended s
  have hq : (recounted (swept s)).store.checkQueue
      = s.store.checkQueue ++ (s.store.check.map CheckInFlight.spotId).toList := by
    rw [recounted_checkQueue, swept_of_sound hsound, ← hab]; exact hended.queue
  have hpages : (recounted (swept s)).store.freePages = s.store.freePages ++ s.store.capturePage := by
    rw [recounted_freePages, swept_of_sound hsound]; exact hended.pages
  have hids : (recounted (swept s)).store.ids = s.store.ids := by
    rw [recounted_ids, swept_of_sound hsound]; exact ids_ended s
  have hidle : (recounted (swept s)).store.check = none := check_swept s
  dsimp only
  generalize recounted (swept s) = r at *
  refine ⟨?_, ?_, startCheck_rest.1.trans hpages⟩ <;> rw [← hq] at hqueue ⊢ <;>
    rcases startCheck_cases hidle with ⟨hnil, heq⟩ | ⟨id, rest, hcons, ⟨hnone, heq⟩ | ⟨e, -, heq⟩⟩ <;> rw [heq]
  · rw [hnil]; rfl
  · rw [hcons]; rfl
  · rw [hcons]; rfl
  · rw [hnil, hidle]; rfl
  · obtain ⟨e, he⟩ := entry?_isSome_iff.2 (hids ▸ entry?_isSome_iff.1 (hqueue id (by rw [hcons]; exact List.mem_cons_self)))
    rw [hnone] at he; cases he
  · rw [hcons]; rfl

/-! ### The blocks -/

/-- Every block but the spot store and the monitor port at a restart (R186). -/
def blanked (s : State) : State := { s with
  intake := Intake.reset
  em := Emission.resetWith (restartCauses s)
  cues := CueDecoder.reset
  zone := ZoneLine.resetAt s.zone.rxLevel
  ros := PeerRoster.resetAt s.ros.duplicate
  agree := AgreementCounters.zero
  chans := Channels.reset
  sc := s.sc.restart s.ros.duplicate }

theorem restartBlocks_eq (s : State) : restartBlocks s
    = { restartStore (blanked s) with mon := (restartStore (blanked s)).mon.restart } := rfl

theorem withStore_of_blocks {s t : State} (h : blocks t = blocks s) (x : SpotStore) :
    { t with store := x } = { s with store := x } := congrArg (fun u : State => { u with store := x }) h

/-- The store's restart reaches the store alone (R84). -/
theorem restartStore_parts {s : State} (h : s.cues.table = []) : ∃ x, restartStore s = { s with store := x }
    ∧ x = (startCheck noHandOff (recounted (swept s))).store ∧ x.memory = s.store.memory ∧ x.assembler = .idle := by
  have hblocks := blocks_swept s
  have hmem : (swept s).store.memory = s.store.memory := (memory_of_blocks hblocks).trans rfl
  have hidle := (unheld_swept s).idle
  rw [restartStore_eq h]
  have hassembler := recounted_assembler (swept s)
  have hmemory := recounted_memory (swept s)
  have hwith : ∀ x, { recounted (swept s) with store := x } = { s with store := x } := fun x => by
    rw [recounted_withStore]; exact withStore_of_blocks hblocks x
  generalize recounted (swept s) = r at *
  obtain ⟨-, hstarted, hkept, hrest⟩ := startCheck_rest (s := r)
  generalize startCheck noHandOff r = t at *
  refine ⟨t.store, ?_, rfl, hkept.trans (hmemory.trans hmem), hstarted.trans (hassembler.trans hidle)⟩
  exact (congrArg (fun u : State => { u with store := t.store }) hrest).trans (hwith _)

/-- Settles O5: the blocks by the restart's definition, the entries by the steps of the store's restart. -/
theorem restartKeepsTimeSpotsAndDuplicateLatch : Obligations.RestartKeepsTimeSpotsAndDuplicateLatch := by
  unfold Obligations.RestartKeepsTimeSpotsAndDuplicateLatch
  intro s hline hsettled
  have hlevel : ¬(s.sc.restartLine = true ∨ lineSettled s.sc.restartSince s = false) := by
    rintro (h | h)
    · exact Bool.false_ne_true (hline.symm.trans h)
    · exact absurd (decide_eq_true hsettled) (by rw [show decide _ = false from h]; decide)
  refine ⟨fun hfirst => ?_, fun htaken => ?_⟩
  · have hexec : exec .restart s = .next _ := congrArg Host.Outcome.next (if_neg hlevel)
    rw [hexec, hfirst]; rfl
  · have hexec : exec .restart s = .next (restartBlocks (updateControl (fun c => { c with
        restartLine := true, restartTaken := true, restartSince := s.osc }) s)) :=
      (congrArg Host.Outcome.next (if_neg hlevel)).trans (congrArg Host.Outcome.next (if_neg (by rw [htaken]; decide)))
    generalize hu : updateControl (fun c => { c with
      restartLine := true, restartTaken := true, restartSince := s.osc }) s = u at hexec
    have hstore : (blanked u).store = s.store := by subst hu; rfl
    obtain ⟨x, hparts, hx, hmemory, hidle⟩ := restartStore_parts (s := blanked u) rfl
    rw [restartBlocks_eq, hparts] at hexec
    refine ⟨_, hexec, by subst hu; rfl, by subst hu; rfl, by subst hu; rfl, by subst hu; rfl, by subst hu; rfl,
      by subst hu; rfl, by subst hu; rfl, by subst hu; rfl, by subst hu; rfl, by subst hu; rfl,
      by subst hu; exact ⟨rfl, rfl, rfl, rfl, rfl, rfl, rfl⟩, by subst hu; exact ⟨rfl, rfl, rfl, rfl⟩,
      by rw [← hstore]; exact hmemory, hidle, fun e he => ?_, fun hn e he hpending hexpire hstate => ?_,
      fun _ hsound hcheck hqueue => ?_⟩
    · replace he : e ∈ x.directory := he
      rw [hx] at he
      obtain ⟨y, hy, hcase⟩ := mem_startCheck (check_swept (blanked u)) he
      rw [recounted_directory] at hy
      obtain ⟨hfilling, hexpire⟩ := swept_clean hy
      obtain ⟨hprot, hfreeze⟩ := (unheld_swept (blanked u)).holds y hy
      rcases hcase with rfl | rfl
      · exact ⟨hfilling, hexpire, hprot, hfreeze⟩
      · exact ⟨fun h => EntryState.noConfusion h, hexpire, hprot, hfreeze⟩
    · rw [← hstore] at hn he hstate ⊢
      have hkept := restart_keeps_entry (s := blanked u) hn he hpending hexpire hstate
      rw [← hx] at hkept
      exact hkept
    · rw [← hstore] at hsound hcheck hqueue ⊢
      have hfront := restart_queue (s := blanked u) hsound hcheck hqueue
      dsimp only at hfront
      rw [← hx] at hfront
      exact hfront

end Sys2Proof.Proofs
end

section
/-! Stamp resolution (R38). -/

namespace Sys2Proof.Proofs

open Sys2Proof Sys2Proof.Machine Sys2Proof.Laws

/-- The position of an instant in the wrap of a stamp, from its second and its fraction. -/
theorem position_in_wrap (t : Int) : t % 10240000000 = secondOf t % 1024 * 10000000 + fractionOf t := by
  unfold secondOf fractionOf Config.second
  omega

/-- The difference that the third step of R38 forms, brought within half a wrap by the fourth. -/
def nearestWrap (d0 : Int) : Int :=
  if d0 < -5120000000 then d0 + 10240000000 else if d0 ≥ 5120000000 then d0 - 10240000000 else d0

theorem nearestWrap_bounds {d0 : Int} (h : -10240000000 < d0) (h' : d0 < 10240000000) :
    -5120000000 ≤ nearestWrap d0 ∧ nearestWrap d0 < 5120000000 := by
  unfold nearestWrap; omega

/-- A whole wrap more or less leaves the position at the stamp. -/
theorem nearestWrap_position (arrival stamp : Int) (h : 0 ≤ stamp ∧ stamp < 10240000000) :
    (arrival + nearestWrap (stamp - arrival % 10240000000)) % 10240000000 = stamp := by
  unfold nearestWrap; (repeat' split) <;> omega

/-- Settles O12: the fourth step brings the difference within half a wrap, and a whole wrap does not change the
position. -/
theorem stampResolutionPicksTheNearestWrap : Obligations.StampResolutionPicksTheNearestWrap := by
  unfold Obligations.StampResolutionPicksTheNearestWrap
  intro arrival s f hs hf w d0 d
  have hstamp : 0 ≤ (s : Int) * 10000000 + f ∧ (s : Int) * 10000000 + f < 10240000000 := by omega
  have hw : 0 ≤ w ∧ w < 10240000000 := ⟨Int.emod_nonneg _ (by decide), Int.emod_lt_of_pos _ (by decide)⟩
  obtain ⟨hlow, hhigh⟩ : -5120000000 ≤ d ∧ d < 5120000000 :=
    nearestWrap_bounds (d0 := d0) (Int.lt_sub_right_of_add_lt (by omega)) (Int.sub_right_lt_of_lt_add (by omega))
  exact ⟨position_in_wrap arrival, hlow, hhigh, rfl, nearestWrap_position arrival _ hstamp⟩

end Sys2Proof.Proofs
end

section
/-! SUPPORT. What the operations of the spot store, the break table, the agreement unit and the channels may do to a state:
one relation between the state before and the state after, and a lemma for each operation that it keeps the relation. -/

namespace Sys2Proof.Proofs

open Sys2Proof Sys2Proof.Machine Sys2Proof.Laws

/-! ### The relation -/

/-- The counts of the cues and of the frame passes, and the C of the last pass and the last gap. -/
def tally (s : State) : CueCounters × Option Time × Option Time × Nat :=
  (s.cues.counters, s.chans.lastPass, s.chans.lastGap, s.chans.passCount)

/-- What an operation of these blocks may do: it leaves the other blocks and the store's slots, the channels stay as many,
and the event queue, the sequence numbers and the directory stay within their bounds (R69, R192, R193). -/
structure Moves (s t : State) : Prop where
  outer : outer t = outer s
  memory : t.store.memory = s.store.memory
  channels : t.chans.chan.length = s.chans.chan.length
  events : s.mon.queue.length ≤ 32 → t.mon.queue.length ≤ 32
  eventSeq : s.mon.eventSeq < 65536 → t.mon.eventSeq < 65536
  reportSeq : s.mon.reportSeq < 65536 → t.mon.reportSeq < 65536
  directory : s.store.directory.length ≤ 48 → t.store.directory.length ≤ 48

/-- An operation that counts no cue and no frame pass either. -/
structure Quiet (s t : State) : Prop extends Moves s t where
  tally : tally t = tally s

theorem Moves.refl {s : State} : Moves s s := ⟨rfl, rfl, rfl, id, id, id, id⟩

theorem Moves.trans {s t u : State} (h : Moves s t) (h' : Moves t u) : Moves s u where
  outer := h'.outer.trans h.outer
  memory := h'.memory.trans h.memory
  channels := h'.channels.trans h.channels
  events := h'.events ∘ h.events
  eventSeq := h'.eventSeq ∘ h.eventSeq
  reportSeq := h'.reportSeq ∘ h.reportSeq
  directory := h'.directory ∘ h.directory

theorem Quiet.refl {s : State} : Quiet s s := ⟨.refl, rfl⟩

theorem Quiet.trans {s t u : State} (h : Quiet s t) (h' : Quiet t u) : Quiet s u :=
  ⟨h.toMoves.trans h'.toMoves, h'.tally.trans h.tally⟩

theorem Moves.quiet {s t u : State} (h : Moves s t) (h' : Quiet t u) : Moves s u := h.trans h'.toMoves

theorem Quiet.forEach {α : Type} {f : α → State → State} (hf : ∀ a {s t : State}, Quiet s t → Quiet s (f a t))
    (l : List α) {s t : State} (h : Quiet s t) : Quiet s (forEach f l t) := by
  induction l generalizing t with
  | nil => exact h
  | cons x l ih => exact ih (hf x h)

theorem Moves.forEach {α : Type} {f : α → State → State} (hf : ∀ a {s t : State}, Moves s t → Moves s (f a t))
    (l : List α) {s t : State} (h : Moves s t) : Moves s (forEach f l t) := by
  induction l generalizing t with
  | nil => exact h
  | cons x l ih => exact ih (hf x h)

/-! ### Elementary updates -/

theorem startRecord_eventSeq (osc : Nat) (m : Monitor) : (startRecord osc m).eventSeq = m.eventSeq := by
  unfold startRecord; split <;> rfl

theorem queueEvent_eventSeq (e : Event) (now : Time) (m : Monitor) :
    (queueEvent e now m).eventSeq = (m.eventSeq + 1) % 65536 := by
  unfold queueEvent; dsimp only; split <;> rfl

variable {s t : State}

theorem Quiet.raise (e : Event) (h : Quiet s t) : Quiet s (raise e t) :=
  h.trans {
    outer := rfl, memory := rfl, channels := rfl, tally := rfl
    events := raise_queue_length e t
    eventSeq := fun _ => by
      rw [raise_mon, startRecord_eventSeq, queueEvent_eventSeq]; exact Nat.mod_lt _ (by decide)
    reportSeq := fun hr => by rw [raise_mon, startRecord_reportSeq, queueEvent_reportSeq]; exact hr
    directory := id }

/-- A change of the store that leaves its slots and lets the directory grow no longer. -/
theorem Quiet.store (x : SpotStore) (hm : x.memory = t.store.memory)
    (hd : x.directory.length ≤ t.store.directory.length) (h : Quiet s t) : Quiet s { t with store := x } :=
  h.trans ⟨⟨rfl, hm, rfl, id, id, id, hd.trans⟩, rfl⟩

/-- A change of the table of break records. -/
theorem Quiet.table (l : List BreakRecord) (h : Quiet s t) :
    Quiet s { t with cues := { t.cues with table := l } } := h.trans ⟨⟨rfl, rfl, rfl, id, id, id, id⟩, rfl⟩

/-- A change of site control, the zone line or the agreement unit's counters. -/
theorem Quiet.control (c : SiteControl) (h : Quiet s t) : Quiet s { t with sc := c } :=
  h.trans ⟨⟨rfl, rfl, rfl, id, id, id, id⟩, rfl⟩
theorem Quiet.zone (z : ZoneLine) (h : Quiet s t) : Quiet s { t with zone := z } :=
  h.trans ⟨⟨rfl, rfl, rfl, id, id, id, id⟩, rfl⟩
theorem Quiet.countAgree (f : AgreementCounters → AgreementCounters) (h : Quiet s t) : Quiet s (countAgree f t) :=
  h.trans ⟨⟨rfl, rfl, rfl, id, id, id, id⟩, rfl⟩

theorem Quiet.updateEntry (n : Nat) (f : Entry → Entry) (h : Quiet s t) : Quiet s (updateEntry n f t) :=
  h.store _ rfl (by rw [updateWhere_length])
theorem Quiet.updateStoreCounters (f : StoreCounters → StoreCounters) (h : Quiet s t) :
    Quiet s (updateStoreCounters f t) := h.store _ rfl le_rfl
theorem Quiet.returnPages (l : List Nat) (h : Quiet s t) : Quiet s (returnPages l t) := h.store _ rfl le_rfl
theorem Quiet.setAssembler (a : Assembler) (h : Quiet s t) : Quiet s (setAssembler a t) := h.store _ rfl le_rfl
theorem Quiet.dropEntry (n : Nat) (h : Quiet s t) : Quiet s (dropEntry n t) :=
  h.store _ rfl (List.length_filter_le _ _)
theorem Quiet.updateRecord (n : Nat) (f : BreakRecord → BreakRecord) (h : Quiet s t) : Quiet s (updateRecord n f t) :=
  h.table _
theorem Quiet.updateChan (k : Nat) (f : Channel → Channel) (h : Quiet s t) : Quiet s (updateChan k f t) :=
  h.trans ⟨⟨rfl, rfl, List.length_modify f _ k, id, id, id, id⟩, rfl⟩
theorem Quiet.countChan (k : Nat) (f : ChannelCounters → ChannelCounters) (h : Quiet s t) : Quiet s (countChan k f t) :=
  h.updateChan _ _
theorem Quiet.dropPlans (h : Quiet s t) : Quiet s (dropPlans t) :=
  h.trans ⟨⟨rfl, rfl, List.length_map _, id, id, id, id⟩, rfl⟩

/-! ### The latches and the waiting slot -/

theorem Quiet.putLatch (l : Latch) (v : Bool) (h : Quiet s t) : Quiet s (putLatch l v t) := by
  unfold Machine.putLatch; split
  · exact h
  · exact (h.control _).raise _
theorem Quiet.setLatch (l : Latch) (h : Quiet s t) : Quiet s (setLatch l t) := h.putLatch l true
theorem Quiet.joinSlot (k : AnnouncementKind) (h : Quiet s t) : Quiet s (joinSlot k t) := by
  unfold Machine.joinSlot; split <;> exact h.zone _
theorem Quiet.urgent (h : Quiet s t) : Quiet s (urgent t) := by
  unfold Machine.urgent; split
  · exact h.joinSlot _
  · exact h

/-! ### The spot store -/

theorem Quiet.dropCapture (h : Quiet s t) : Quiet s (dropCapture t) := by
  unfold Machine.dropCapture; split
  · exact (h.returnPages _).updateStoreCounters _
  · exact h
  · exact h
theorem Quiet.endSegment (h : Quiet s t) : Quiet s (endSegment t) := h.dropCapture.setAssembler _
theorem Quiet.dropAssembly (id : Nat) (h : Quiet s t) : Quiet s (dropAssembly id t) := by
  unfold Proofs.dropAssembly; split
  · split
    · exact h.endSegment
    · exact h
  · exact h
  · exact h
theorem Quiet.protectSpot (x : Spot) (h : Quiet s t) : Quiet s (protectSpot x t) := by
  unfold Machine.protectSpot; split
  · exact h
  · exact h.updateEntry _ _
theorem Quiet.freezeSpot (x : Spot) (h : Quiet s t) : Quiet s (freezeSpot x t) := by
  unfold Machine.freezeSpot; split
  · exact h
  · exact h.updateEntry _ _

section Notify

variable {notify : State → State} (hn : ∀ {s t : State}, Quiet s t → Quiet s (notify t))
include hn

theorem Quiet.makeMissing (src : Option DamageSource) (id : Nat) (l : List Nat) (h : Quiet s t) :
    Quiet s (makeMissing notify src id l t) := by
  unfold Machine.makeMissing; split
  · exact h
  · have hemptied := fun pages f q => ((h.returnPages pages).updateEntry id f).store { (Machine.updateEntry id f
      (Machine.returnPages pages t)).store with checkQueue := q } rfl le_rfl
    cases src with
    | none => exact hn (hemptied _ _ _)
    | some src => exact hn ((hemptied _ _ _).raise _)
theorem Quiet.removeEntry (id : Nat) (h : Quiet s t) : Quiet s (removeEntry notify id t) := by
  cases he : t.store.entry? id with
  | none => rw [removeEntry_none he]; exact h
  | some e => rw [removeEntry_some he]; exact hn (((h.dropAssembly id).returnPages _).dropEntry id)
theorem Quiet.tryExpire (id : Nat) (h : Quiet s t) : Quiet s (tryExpire notify id t) := by
  unfold Machine.tryExpire; split
  · exact h
  · split
    · exact (Quiet.removeEntry hn id h).raise _
    · exact h
theorem Quiet.releaseSpot (x : Spot) (h : Quiet s t) : Quiet s (releaseSpot notify x t) := by
  unfold Machine.releaseSpot; split
  · exact h
  · exact Quiet.tryExpire hn _ (h.updateEntry _ _)
theorem Quiet.applyPending (src : Option DamageSource) (id : Nat) (h : Quiet s t) :
    Quiet s (applyPending notify src id t) := by
  unfold Machine.applyPending; split
  · exact h
  · split
    · exact h
    · exact Quiet.makeMissing hn _ _ _ (h.updateEntry _ _)
theorem Quiet.unfreezeSpot (x : Spot) (h : Quiet s t) : Quiet s (unfreezeSpot notify x t) := by
  unfold Machine.unfreezeSpot; split
  · exact h
  · dsimp only; split
    · exact Quiet.tryExpire hn _ (Quiet.applyPending hn _ _ (h.updateEntry _ _))
    · exact h.updateEntry _ _
theorem Quiet.startCheck (h : Quiet s t) : Quiet s (startCheck notify t) := by
  unfold Machine.startCheck; split
  · have hstarted := fun q c => h.store { t.store with checkQueue := q, check := c } rfl le_rfl
    split
    · exact hstarted _ _
    · exact hn (((hstarted _ _).updateStoreCounters _).updateEntry _ _)
  · exact h
theorem Quiet.storeFailure (id k : Nat) (h : Quiet s t) : Quiet s (storeFailure notify id k t) := by
  unfold Machine.storeFailure; split
  · exact h
  · split
    · split
      · exact h
      · exact h.updateEntry _ _
    · exact Quiet.makeMissing hn _ _ _ h
theorem Quiet.unbindChannel (k : Nat) (h : Quiet s t) : Quiet s (unbindChannel notify k t) := by
  unfold Machine.unbindChannel; split
  · exact h
  · have hstart := fun f n g => hn ((h.updateChan k f).updateRecord n g)
    dsimp only; split
    · exact (Quiet.forEach (fun x _ _ => Quiet.releaseSpot hn x) _
        (Quiet.forEach (fun x _ _ => Quiet.unfreezeSpot hn x) _ (hstart _ _ _))).raise _
    · exact (Quiet.forEach (fun x _ _ => Quiet.releaseSpot hn x) _ (hstart _ _ _)).raise _

end Notify

/-! ### The agreement unit -/

theorem Quiet.reportStance (id : Nat) (o : Option Stance) (n : Stance) (h : Quiet s t) :
    Quiet s (reportStance id o n t) := (h.raise _).countAgree _
theorem Quiet.setStance (id : Nat) (n : Stance) (h : Quiet s t) : Quiet s (setStance id n t) := by
  unfold Machine.setStance; split
  · exact h
  · split
    · exact h
    · exact (h.updateRecord _ _).urgent.reportStance _ _ _
theorem Quiet.refreshRecord (id : Nat) (h : Quiet s t) : Quiet s (refreshRecord id t) := by
  unfold Machine.refreshRecord; split
  · exact h
  · split
    · exact h.setStance _ _
    · exact h
theorem Quiet.refreshOpen (h : Quiet s t) : Quiet s (refreshOpen t) :=
  .forEach (fun id _ _ => Quiet.refreshRecord id) _ h
theorem Quiet.moveState (id : Nat) (n : BreakState) (h : Quiet s t) : Quiet s (moveState id n t) := by
  unfold Machine.moveState; split
  · exact h
  · exact (h.updateRecord _ _).raise _
theorem Quiet.holdRecord (id : Nat) (r : HoldReason) (h : Quiet s t) : Quiet s (holdRecord id r t) := by
  unfold Machine.holdRecord; split
  · exact h
  · have hmoved := fun f => (h.moveState id .decidedHold).updateRecord id f
    dsimp only
    refine Quiet.refreshOpen ?_
    split <;> refine Quiet.countAgree _ (Quiet.urgent (Quiet.reportStance _ _ _ ?_)) <;> split
    · exact Quiet.unbindChannel Quiet.refreshOpen _ (hmoved _)
    · exact hmoved _
    · exact Quiet.unbindChannel Quiet.refreshOpen _ (hmoved _)
    · exact hmoved _
theorem Quiet.reconcileBut (x n : Nat) (h : Quiet s t) : Quiet s (reconcileBut x n t) := by
  induction n generalizing t with
  | zero => exact h.refreshOpen
  | succ n ih =>
    unfold Machine.reconcileBut; split
    · exact ih (h.holdRecord _ _)
    · exact h.refreshOpen
theorem Quiet.refreshBut (x : Nat) (h : Quiet s t) : Quiet s (refreshBut x t) := h.reconcileBut _ _
theorem Quiet.refresh (h : Quiet s t) : Quiet s (refresh t) := h.refreshBut _
theorem Quiet.unbind (k : Nat) (h : Quiet s t) : Quiet s (unbind k t) := Quiet.unbindChannel Quiet.refresh k h
theorem Quiet.comparePeer (id : Nat) (p : Peer) (h : Quiet s t) : Quiet s (comparePeer id p t) := by
  unfold Machine.comparePeer; split
  · exact h
  · dsimp only; split
    · exact (((h.raise _).updateRecord _ _).setLatch _).countAgree _
    · exact h
theorem Quiet.compareAll (id : Nat) (h : Quiet s t) : Quiet s (compareAll id t) :=
  .forEach (fun p _ _ => Quiet.comparePeer id p) _ h
theorem Quiet.channelMove (id : Nat) (n : BreakState) (c : Option AbandonCause) (h : Quiet s t) :
    Quiet s (channelMove id n c t) := by
  unfold Machine.channelMove; split
  · exact h
  · split
    · dsimp only; split
      · exact ((h.moveState _ _).setStance _ _).compareAll _
      · exact (((h.moveState _ _).updateRecord _ _).setStance _ _).compareAll _
    · exact h
theorem Quiet.removeRecord (id : Nat) (h : Quiet s t) : Quiet s (removeRecord id t) := by
  unfold Machine.removeRecord; split
  · exact h
  · have hleft := fun u (hu : Quiet s u) l => ((Quiet.forEach (fun x _ _ => Quiet.releaseSpot
      (Quiet.refreshBut id) x) l hu).table ((Machine.forEach (Machine.releaseSpot (Machine.refreshBut id)) l u).cues.table.filter
        fun x => x.id != id)).urgent.refresh
    dsimp only; split
    · exact (hleft _ (Quiet.unbindChannel (Quiet.refreshBut id) _ h) _).raise _
    · exact (hleft _ h _).raise _
theorem Quiet.settleRemoval (id : Nat) (h : Quiet s t) : Quiet s (settleRemoval id t) := by
  unfold Machine.settleRemoval; split
  · exact h
  · split
    · exact h.removeRecord _
    · exact h

/-! ### The insertion channels -/

theorem Quiet.bindChannel (k : Nat) (r : BreakRecord) (h : Quiet s t) : Quiet s (bindChannel k r t) := by
  unfold Machine.bindChannel
  exact (((Quiet.forEach (fun x _ _ => Quiet.protectSpot x) _ (h.updateChan _ _)).updateRecord _ _).raise _).countChan _ _
theorem Quiet.giveUp (c : AbandonCause) (k : Nat) (h : Quiet s t) : Quiet s (giveUp c k t) := by
  unfold Machine.giveUp; split
  · exact h
  · have hleft := fun f id n d e l => (((((h.updateChan k f).channelMove id n d).unbind k).raise e).setLatch l)
    cases c with
    | lostStep => exact ((hleft _ _ _ _ _ _).countChan _ _).settleRemoval _
    | override => exact ((hleft _ _ _ _ _ _).countChan _ _).settleRemoval _
theorem Quiet.endPlay (k : Nat) (h : Quiet s t) : Quiet s (endPlay k t) := by
  unfold Machine.endPlay; split
  · exact h
  · exact (((h.channelMove _ _ _).unbind k).countChan _ _).settleRemoval _
theorem Quiet.armChannel (k : Nat) (h : Quiet s t) : Quiet s (armChannel k t) := by
  unfold Machine.armChannel; split
  · exact h
  · split
    · exact h
    · have hfrozen := fun f e l g => (Quiet.forEach (fun x _ _ => Quiet.freezeSpot x) l
        ((h.updateChan k f).raise e)).updateChan k g
      dsimp only; split
      · exact hfrozen _ _ _ _
      · split
        · exact (hfrozen _ _ _ _).giveUp _ _
        · exact hfrozen _ _ _ _
theorem Quiet.setChannelState (k : Nat) (n : ChannelState) (position : Nat) (h : Quiet s t) :
    Quiet s (setChannelState k n position t) := by
  unfold Machine.setChannelState; split
  · exact h
  · exact (h.updateChan _ _).raise _
theorem Quiet.padReached (k : Nat) (h : Quiet s t) : Quiet s (padReached k t) := by
  unfold Machine.padReached; split
  · exact h
  · split
    · exact h.setChannelState _ _ _
    · exact h
theorem Quiet.planFrame (p : FramePass) (k : Nat) (h : Quiet s t) : Quiet s (planFrame p k t) := by
  unfold Machine.planFrame; split
  · exact h
  · exact ((h.updateChan _ _).countChan _ _).padReached _
theorem Quiet.playPass (p : FramePass) (k : Nat) (b : BoundBreak) (h : Quiet s t) : Quiet s (playPass p k b t) := by
  unfold Machine.playPass; split
  · exact h.endPlay _
  · split
    · exact h.giveUp _ _
    · split
      · exact h
      · exact h.planFrame _ _
theorem Quiet.armedPass (p : FramePass) (k : Nat) (b : BoundBreak) (h : Quiet s t) : Quiet s (armedPass p k b t) := by
  unfold Machine.armedPass; split
  · exact h.endPlay _
  · split
    · exact h
    · split
      · exact h.giveUp _ _
      · exact ((h.setChannelState _ _ _).channelMove _ _ _).planFrame _ _
theorem Quiet.channelPass (p : FramePass) (k : Nat) (h : Quiet s t) : Quiet s (channelPass p k t) := by
  unfold Machine.channelPass; split
  · exact h
  · split
    · exact h
    · split
      · exact h
      · exact h
      · exact h.armedPass _ _ _
      · exact h.playPass _ _ _
      · exact h.playPass _ _ _
theorem Quiet.channelGap (c : Time) (k : Nat) (h : Quiet s t) : Quiet s (channelGap c k t) := by
  unfold Machine.channelGap; split
  · exact h
  · split
    · exact h
    · exact h
    · split
      · split
        · exact h.giveUp _ _
        · exact h
      · exact h
    · exact h.giveUp _ _
    · exact h.giveUp _ _
theorem Quiet.overrideChannels (h : Quiet s t) : Quiet s (overrideChannels t) := by
  refine .forEach (fun k s t h => ?_) _ h
  unfold channelOverride; split
  · exact h
  · split
    · exact h.giveUp _ _
    · exact h
theorem Quiet.readFailed (k : Nat) (p : FramePlan) (id g : Nat) (h : Quiet s t) :
    Quiet s (readFailed k p id g t) := by
  have hfailed := fun f e => Quiet.storeFailure Quiet.refresh id g ((h.updateStoreCounters f).countChan k e)
  unfold Machine.readFailed; dsimp only; split
  · exact hfailed _ _
  · split
    · exact hfailed _ _
    · exact ((hfailed _ _).updateChan _ _).raise _
theorem Quiet.substitutedCell (k : Nat) (p : FramePlan) (c : Cell) (h : Quiet s t) :
    Quiet s (substitutedCell k p c t).2 := by
  unfold Machine.substitutedCell; split
  · dsimp only
    exact h.countChan _ _
  · have hpadded : ∀ (b : Prop) [Decidable b] f, Quiet s (if b then Machine.countChan k f t else t) := fun b _ f => by
      split
      · exact h.countChan _ _
      · exact h
    dsimp only; split
    · exact hpadded _ _
    · exact (hpadded _ _).readFailed _ _ _ _
theorem Quiet.passChannels (n : Nat) (c : Cell) (h : Quiet s t) : Quiet s (passChannels n c t).2 := by
  unfold Machine.passChannels; split
  · exact h
  · dsimp only
    exact ((h.substitutedCell _ _ _).updateChan _ _).countChan _ _

end Sys2Proof.Proofs
end

section
/-! SUPPORT. What the commands' own operations over the spot store, the break table and the channels may do. -/

namespace Sys2Proof.Proofs

open Sys2Proof Sys2Proof.Machine Sys2Proof.Laws

variable {s t : State}

/-! ### Segments (R64 to R72) -/

theorem Quiet.skipHead (x : SegmentHead) (h : Quiet s t) : Quiet s (skipHead x t) := h.setAssembler _
theorem Quiet.captureHead (x : SegmentHead) (h : Quiet s t) : Quiet s (captureHead x t) := by
  unfold Machine.captureHead; split
  · exact (h.skipHead x).raise _
  · next page rest _ => exact (h.store { t.store with freePages := rest } rfl le_rfl).setAssembler _
theorem Quiet.takeHead (x : SegmentHead) (h : Quiet s t) : Quiet s (takeHead x t) := by
  unfold Machine.takeHead; split
  · exact h
  · split
    · exact (h.skipHead x).raise _
    · have hlast : ∀ (b : Prop) [Decidable b] n f, Quiet s (if b then Machine.updateEntry n f t else t) := fun b _ n f => by
        split
        · exact h.updateEntry _ _
        · exact h
      dsimp only; split
      · exact ((hlast _ _ _).skipHead x).updateStoreCounters _
      · exact (hlast _ _ _).captureHead x

@[simp] theorem insertEntry_length (e : Entry) (l : List Entry) : (insertEntry e l).length = l.length + 1 := by
  induction l with
  | nil => rfl
  | cons x l ih => unfold insertEntry; split <;> simp [ih]

theorem Quiet.createEntry (x : SegmentHead) (h : Quiet s t) : Quiet s (createEntry x t) := by
  unfold Machine.createEntry; split
  · next hroom =>
    have hfresh : Quiet t { t with store := { t.store with
        directory := insertEntry (freshEntry x t) t.store.directory } } :=
      ⟨⟨rfl, rfl, rfl, id, id, id, fun _ => by rw [insertEntry_length]; exact hroom⟩, rfl⟩
    exact (h.trans hfresh).refresh.takeHead x
  · exact (h.skipHead x).raise _
theorem Quiet.newVersion (x : SegmentHead) (e : Entry) (h : Quiet s t) : Quiet s (newVersion x e t) := by
  unfold Machine.newVersion; split
  · exact ((Quiet.removeEntry Quiet.refresh _ h).raise _).createEntry x
  · exact (h.skipHead x).raise _
theorem Quiet.directoryHead (x : SegmentHead) (h : Quiet s t) : Quiet s (directoryHead x t) := by
  unfold Machine.directoryHead; split
  · exact h.createEntry x
  · split
    · exact h.takeHead x
    · exact h.newVersion x _
theorem Quiet.segmentHead (c : SiteConfig) (b : List Byte) (h : Quiet s t) : Quiet s (segmentHead c b t) := by
  unfold Machine.segmentHead; dsimp only; split
  · exact h.endSegment.updateStoreCounters _
  · split
    · exact (h.endSegment.updateStoreCounters _).skipHead _
    · split
      · exact (h.endSegment.updateStoreCounters _).skipHead _
      · exact h.endSegment.directoryHead _
theorem Quiet.holdSegment (g : SegmentInFlight) (page : Nat) (h : Quiet s t) : Quiet s (holdSegment g page t) := by
  have hheld := fun f => h.updateEntry g.spot.id f
  unfold Machine.holdSegment; dsimp only; split
  · exact hheld _
  · split
    · have hqueued := fun {u : State} (hu : Quiet s u) q => hu.store { u.store with checkQueue := q } rfl le_rfl
      exact Quiet.startCheck Quiet.refresh (hqueued ((hheld _).updateEntry _ _) _).refresh
    · exact hheld _
theorem Quiet.completeSegment (g : SegmentInFlight) (page : Nat) (running check : Word32) (h : Quiet s t) :
    Quiet s (completeSegment g page running check t) := by
  unfold Machine.completeSegment; dsimp only; split
  · exact (h.setAssembler _).holdSegment g page
  · exact ((h.setAssembler _).returnPages _).updateStoreCounters _

/-! ### Checks, expiry and the RESTART line (R79 to R84) -/

theorem Quiet.judgeCheck (e : Entry) (h : Quiet s t) : Quiet s (judgeCheck e t) := by
  unfold Machine.judgeCheck; dsimp only; split
  · split
    · exact ((h.updateEntry _ _).raise _).refresh
    · exact h
  · exact Quiet.makeMissing Quiet.refresh _ _ _ (h.updateStoreCounters _)
theorem Quiet.finishCheck (c : CheckInFlight) (h : Quiet s t) : Quiet s (finishCheck c t) := by
  have hdone := h.store { t.store with check := none } rfl le_rfl
  unfold Machine.finishCheck; dsimp only; split
  · exact Quiet.startCheck Quiet.refresh hdone
  · exact Quiet.startCheck Quiet.refresh (Quiet.tryExpire Quiet.refresh _ (hdone.judgeCheck _))
theorem Quiet.expireEntry (second : Int) (id : Nat) (h : Quiet s t) : Quiet s (expireEntry second id t) := by
  unfold Machine.expireEntry; split
  · exact h
  · split
    · exact h
    · split
      · exact (Quiet.removeEntry Quiet.refresh _ h).raise _
      · exact h.updateEntry _ _
theorem Quiet.expireAll (second : Int) (h : Quiet s t) : Quiet s (expireAll second t) :=
  .forEach (fun id _ _ => Quiet.expireEntry second id) _ h
theorem Quiet.abortCheck (h : Quiet s t) : Quiet s (abortCheck t) := by
  rw [abortCheck_eq]; exact h.store _ rfl (by simp)
theorem Quiet.dropHolds (h : Quiet s t) : Quiet s (dropHolds t) := h.store _ rfl (by simp)
theorem Quiet.restartStore (h : Quiet s t) : Quiet s (restartStore t) := by
  have hpurged := fun {u : State} (hu : Quiet s u) l => Quiet.forEach (fun id _ _ => Quiet.removeEntry Quiet.refresh id) l hu
  have hcounted := fun {u : State} (hu : Quiet s u) k => hu.store { u.store with counters := k } rfl le_rfl
  have happlied := Quiet.forEach (fun id _ _ => Quiet.applyPending Quiet.refresh none id)
    (Machine.dropHolds (Machine.abortCheck (Machine.endSegment t))).store.ids h.endSegment.abortCheck.dropHolds
  unfold Machine.restartStore; dsimp only
  exact Quiet.startCheck Quiet.refresh (hcounted (hpurged (hpurged happlied _) _) _)

/-! ### Cues and the instants of a break (R85 to R96, R143 to R154) -/

theorem Moves.countCues (f : CueCounters → CueCounters) (h : Moves s t) : Moves s (countCues f t) :=
  h.trans ⟨rfl, rfl, rfl, id, id, id, id⟩
theorem Moves.refuseCue (id version : Nat) (c : RefusalCause) (h : Moves s t) : Moves s (refuseCue id version c t) :=
  (h.quiet (.raise _ .refl)).countCues _
theorem Moves.acceptBreak (c : SiteConfig) (b : BreakCue) (cOut cIn : Time) (h : Moves s t) :
    Moves s (acceptBreak c b cOut cIn t) := by
  have hin := fun l spots => Quiet.forEach (fun x _ _ => Quiet.protectSpot x) spots ((Quiet.refl (s := t)).table l)
  unfold Machine.acceptBreak
  exact (h.quiet (((hin _ _).urgent.reportStance _ _ _).raise _)).countCues _
theorem Moves.updateBreak (c : SiteConfig) (b : BreakCue) (cOut cIn : Time) (old : BreakRecord) (h : Moves s t) :
    Moves s (updateBreak c b cOut cIn old t) := by
  have hchanged := fun f => (Quiet.refl (s := t)).updateRecord b.id f
  have hspots := fun f new => Quiet.forEach (fun x _ _ => Quiet.releaseSpot Quiet.refresh x) old.spotsNamed
    (Quiet.forEach (fun x _ _ => Quiet.protectSpot x) new (hchanged f))
  unfold Machine.updateBreak
  exact (h.quiet (((hspots _ _).refreshRecord _).raise _)).countCues _
theorem Moves.judgeCandidate (c : SiteConfig) (b : BreakCue) (a : Time) (h : Moves s t) :
    Moves s (judgeCandidate c b a t) := by
  unfold Machine.judgeCandidate; split
  · exact h.refuseCue _ _ _
  · dsimp only; split
    · exact h.refuseCue _ _ _
    · split
      · exact h.updateBreak _ _ _ _ _
      · exact h.acceptBreak _ _ _ _
theorem Moves.takeBreak (c : SiteConfig) (b : BreakCue) (a : Time) (h : Moves s t) : Moves s (takeBreak c b a t) := by
  unfold Machine.takeBreak; split
  · exact h.judgeCandidate _ _ _
  · split
    · exact h.countCues _
    · split
      · exact h.judgeCandidate _ _ _
      · exact h.refuseCue _ _ _
theorem Moves.takeCancel (id : Nat) (h : Moves s t) : Moves s (takeCancel id t) := by
  unfold Machine.takeCancel; split
  · exact h.countCues _
  · split
    · exact (h.quiet ((Quiet.refl.removeRecord _).raise _)).countCues _
    · exact h.refuseCue _ _ _
theorem Moves.takeAction (c : SiteConfig) (x : CueAction) (a : Time) (h : Moves s t) : Moves s (takeAction c x a t) := by
  unfold Machine.takeAction; dsimp only; split
  · split
    · exact h.countCues _
    · exact h.takeBreak _ _ _
  · split
    · exact h.countCues _
    · exact h.takeCancel _
theorem Moves.cueTaken (c : SiteConfig) (b : List Byte) (a : Time) (h : Moves s t) : Moves s (cueTaken c b a t) := by
  unfold Machine.cueTaken; split
  · exact h.countCues _
  · dsimp only; split
    · exact (h.countCues _).takeAction _ _ _
    · exact (h.countCues _).countCues _

theorem Quiet.decideHold (r : BreakRecord) (reason : HoldReason) (p : Option Nat) (h : Quiet s t) :
    Quiet s (decideHold r reason p t) := by
  have hcount : ∀ {u}, Quiet s u → Quiet s (countHold reason u) := fun hu => by
    cases reason with
    | heardHold => exact hu
    | pending | quorum | peer | self => unfold countHold; exact hu.countAgree _
  have hdecided := fun f => ((h.moveState r.id .decidedHold).updateRecord r.id f).reportStance r.id (some r.stance)
    (.hold reason)
  exact hcount (((hdecided _).updateRecord _ _).raise _).urgent
theorem Quiet.decideGo (r : BreakRecord) (k : Nat) (h : Quiet s t) : Quiet s (decideGo r k t) := by
  have hdecided := fun f => ((h.moveState r.id .decidedGo).updateRecord r.id f).reportStance r.id (some r.stance) .go
  exact (((((hdecided _).bindChannel k r).updateRecord _ _).raise _).urgent.countAgree _).refresh
theorem Quiet.decideRecord (r : BreakRecord) (h : Quiet s t) : Quiet s (decideRecord r t) := by
  unfold Machine.decideRecord; split
  · exact h.decideHold _ _ _
  · exact (h.countAgree _).decideHold _ _ _
  · exact h.decideGo _ _
theorem Quiet.lockGo (r : BreakRecord) (h : Quiet s t) : Quiet s (lockGo r t) := by
  have hlocked := fun f => ((h.moveState r.id .lockedGo).updateRecord r.id f).compareAll r.id
  unfold Machine.lockGo; dsimp only; split
  · exact (hlocked _).armChannel _
  · exact hlocked _
theorem Quiet.lockHold (r : BreakRecord) (h : Quiet s t) : Quiet s (lockHold r t) :=
  ((h.moveState _ _).updateRecord _ _).compareAll _

/-! ### Frame passes, gaps and reports (R163, R170, R193) -/

/-- The channels' part of a pass, before its C is kept and it is counted. -/
def passedChannels (p : FramePass) (s : State) : State :=
  forEach (channelPass p) channelNumbers (if p.released then dropPlans s else s)

theorem framePass_eq (p : FramePass) (s : State) : framePass p s = { passedChannels p s with
    chans := { (passedChannels p s).chans with
      lastPass := some p.c, passCount := bump (passedChannels p s).chans.passCount } } := rfl

theorem quiet_passedChannels (p : FramePass) (s : State) : Quiet s (passedChannels p s) := by
  unfold passedChannels
  refine Quiet.forEach (fun k _ _ => Quiet.channelPass p k) _ ?_
  split
  · exact Quiet.refl.dropPlans
  · exact .refl

theorem Moves.framePass (p : FramePass) (h : Moves s t) : Moves s (framePass p t) := by
  have hpassed := h.quiet (quiet_passedChannels p t)
  rw [framePass_eq]
  generalize passedChannels p t = u at hpassed ⊢
  exact hpassed.trans ⟨rfl, rfl, rfl, id, id, id, id⟩

/-- What a pass leaves of the tally, and what it makes of the rest (R163). -/
theorem tally_framePass (p : FramePass) (s : State) : tally (framePass p s)
    = (s.cues.counters, some p.c, s.chans.lastGap, bump s.chans.passCount) := by
  have h := (quiet_passedChannels p s).tally
  simp only [tally, Prod.mk.injEq] at h
  obtain ⟨hcues, -, hgap, hcount⟩ := h
  rw [framePass_eq]; simp only [tally, hcues, hgap, hcount]

theorem quiet_gap (c : Time) (s : State) :
    Quiet { s with chans := { s.chans with lastGap := some c } } (frameGapToChannels c s) :=
  .forEach (fun k _ _ => Quiet.channelGap c k) _ .refl

theorem Moves.frameGapToChannels (c : Time) (h : Moves s t) : Moves s (frameGapToChannels c t) :=
  (h.trans (u := { t with chans := { t.chans with lastGap := some c } }) ⟨rfl, rfl, rfl, id, id, id, id⟩).quiet
    (quiet_gap c t)

/-- What a gap leaves of the tally, and what it makes of the rest (R170). -/
theorem tally_frameGapToChannels (c : Time) (s : State) : tally (frameGapToChannels c s)
    = (s.cues.counters, s.chans.lastPass, some c, s.chans.passCount) := (quiet_gap c s).tally
theorem Quiet.formReport (h : Quiet s t) : Quiet s (formReport t) :=
  h.trans {
    outer := rfl, memory := rfl, channels := rfl, tally := rfl, directory := id
    events := fun he => Nat.le_trans (startRecord_queue_length _ _) he
    eventSeq := fun he => by unfold Machine.formReport; dsimp only; rw [startRecord_eventSeq]; exact he
    reportSeq := fun _ => by rw [(formReport_mon t).1]; exact Nat.mod_lt _ (by decide) }

end Sys2Proof.Proofs
end

section
/-! SUPPORT. What the operations of the emission controller may do: the slots of both memories stay, and the tables, the
queues and the positions stay within their bounds. -/

namespace Sys2Proof.Proofs

open Sys2Proof Sys2Proof.Machine Sys2Proof.Laws

/-! ### The relation -/

/-- The bounds at the emission controller (R42, R46, R48). -/
structure Ring (m : Emission) : Prop where
  frames : m.table.length ≤ 64
  occupancy : m.queue.occupancy ≤ 65536
  nextFree : m.queue.nextFree < 65536
  oldest : m.queue.oldest < 65536
  firstSlots : ∀ r ∈ m.table, ∀ f, r.firstSlot = some f → f < 65536

/-- What every operation may do that writes no slot and takes no cue. -/
structure Held (s t : State) : Prop where
  memory : t.store.memory = s.store.memory
  slots : t.em.queue.slots = s.em.queue.slots
  cueCounts : t.cues.counters = s.cues.counters
  capacity : CapacityLaw s → CapacityLaw t

theorem ring_of_capacity {s : State} (h : CapacityLaw s) : Ring s.em :=
  ⟨h.frames, h.occupancy, h.nextFree, h.oldest, h.firstSlots⟩

theorem capacity_withEm {s : State} (h : CapacityLaw s) {x : Emission} (hx : Ring x) :
    CapacityLaw { s with em := x } :=
  { h with frames := hx.frames, occupancy := hx.occupancy, nextFree := hx.nextFree, oldest := hx.oldest
           firstSlots := hx.firstSlots }

theorem Moves.capacity {s t : State} (m : Moves s t) (h : CapacityLaw s) : CapacityLaw t := by
  have hem : t.em = s.em := congrArg Outer.em m.outer
  have hintake : t.intake = s.intake := congrArg Outer.intake m.outer
  obtain ⟨hevents, heventSeq, hreportSeq, hframes, hoccupancy, hnext, holdest, hfirst, hdirectory, hcontinuity,
    hchannels⟩ := h
  exact ⟨m.events hevents, m.eventSeq heventSeq, m.reportSeq hreportSeq, hem ▸ hframes, hem ▸ hoccupancy, hem ▸ hnext,
    hem ▸ holdest, hem ▸ hfirst, m.directory hdirectory, hintake ▸ hcontinuity, m.channels.trans hchannels⟩

theorem Held.refl {s : State} : Held s s := ⟨rfl, rfl, rfl, id⟩

theorem Held.trans {s t u : State} (h : Held s t) (h' : Held t u) : Held s u :=
  ⟨h'.memory.trans h.memory, h'.slots.trans h.slots, h'.cueCounts.trans h.cueCounts,
    h'.capacity ∘ h.capacity⟩

theorem Moves.slots {s t : State} (m : Moves s t) : t.em.queue.slots = s.em.queue.slots :=
  congrArg (fun o => o.em.queue.slots) m.outer

theorem Quiet.held {s t : State} (q : Quiet s t) : Held s t :=
  ⟨q.memory, q.slots, congrArg Prod.fst q.tally, q.capacity⟩

theorem Held.quiet {s t u : State} (h : Held s t) (q : Quiet t u) : Held s u := h.trans q.held

theorem Held.forEach {α : Type} {f : α → State → State} (hf : ∀ a {s t : State}, Held s t → Held s (f a t))
    (l : List α) {s t : State} (h : Held s t) : Held s (forEach f l t) := by
  induction l generalizing t with
  | nil => exact h
  | cons x l ih => exact ih (hf x h)

theorem Held.iter {f : State → State} (hf : ∀ {s t : State}, Held s t → Held s (f t)) (n : Nat) {s t : State}
    (h : Held s t) : Held s (iter f n t) := by
  induction n generalizing t with
  | zero => exact h
  | succ n ih => exact ih (hf h)

variable {s t : State}

/-! ### Updates of the emission controller -/

theorem Held.em (x : Emission) (hslots : x.queue.slots = t.em.queue.slots) (hring : Ring t.em → Ring x) (h : Held s t) :
    Held s { t with em := x } := h.trans ⟨rfl, hslots, rfl, fun hc => capacity_withEm hc (hring (ring_of_capacity hc))⟩

/-- A change of the controller beside its queue and its table. -/
theorem Held.controls (x : Emission) (h : Held s t) (hq : x.queue = t.em.queue := by rfl)
    (ht : x.table = t.em.table := by rfl) : Held s { t with em := x } :=
  h.em x (congrArg CellQueue.slots hq) fun ⟨hframes, hoccupancy, hnext, holdest, hfirst⟩ =>
    ⟨ht ▸ hframes, hq ▸ hoccupancy, hq ▸ hnext, hq ▸ holdest, ht ▸ hfirst⟩

theorem Held.high (b : Bool) (h : Held s t) :
    Held s { t with em := { t.em with queue := { t.em.queue with high := b } } } :=
  h.em _ rfl fun r => ⟨r.frames, r.occupancy, r.nextFree, r.oldest, r.firstSlots⟩

/-- A change of a record that takes no first-cell position up. -/
theorem Held.updateFrame (n : Nat) (f : FrameRecord → FrameRecord)
    (h : Held s t) (hf : ∀ r k, (f r).firstSlot = some k → r.firstSlot = some k := by exact fun _ _ hk => hk) :
    Held s (updateFrame n f t) := by
  refine h.em _ rfl fun r => ⟨?_, r.occupancy, r.nextFree, r.oldest, fun y hy k hk => ?_⟩
  · rw [updateWhere_length]; exact r.frames
  · obtain ⟨x, hx, rfl⟩ := mem_updateWhere.1 hy
    split at hk
    · exact r.firstSlots x hx k (hf x k hk)
    · exact r.firstSlots x hx k hk

theorem Held.leaveTable (n : Nat) (h : Held s t) : Held s (leaveTable n t) :=
  h.em _ rfl fun r => ⟨(List.length_filter_le _ _).trans r.frames, r.occupancy, r.nextFree, r.oldest,
    fun x hx => r.firstSlots x (List.mem_filter.1 hx).1⟩

theorem Held.countEm (f : EmissionCounters → EmissionCounters) (h : Held s t) : Held s (countEm f t) :=
  h.controls _
theorem Held.startTransfer (c : Cell) (b : Bool) (h : Held s t) : Held s (startTransfer c b t) := h.controls _
theorem Held.advanceInstant (x : Time) (h : Held s t) : Held s (advanceInstant x t) := h.controls _
theorem Held.makeCurrent (r : FrameRecord) (h : Held s t) : Held s (makeCurrent r t) := h.controls _

theorem Held.raise (e : Event) (h : Held s t) : Held s (raise e t) := h.quiet (.raise e .refl)
theorem Held.urgent (h : Held s t) : Held s (urgent t) := h.quiet (.urgent .refl)
theorem Held.refresh (h : Held s t) : Held s (refresh t) := h.quiet (.refresh .refl)
theorem Held.setLatch (l : Latch) (h : Held s t) : Held s (setLatch l t) := h.quiet (.setLatch l .refl)

/-! ### The queue -/

theorem Held.checkHigh (h : Held s t) : Held s (checkHigh t) := by
  unfold Machine.checkHigh; dsimp only; split
  · exact (h.high true).raise _
  · exact h
theorem Held.checkLow (h : Held s t) : Held s (checkLow t) := by
  unfold Machine.checkLow; dsimp only; split
  · exact (h.high false).raise _
  · exact h
theorem Held.freeSlot (h : Held s t) : Held s (freeSlot t) := by
  refine Held.checkLow (h.em _ rfl fun r => ⟨r.frames, (Nat.sub_le _ _).trans r.occupancy, r.nextFree, ?_, r.firstSlots⟩)
  exact Nat.mod_lt _ (by decide)
theorem Held.freeSlots (n : Nat) (h : Held s t) : Held s (freeSlots n t) := .iter Held.freeSlot n h

theorem frame?_mem {n : Nat} {r : FrameRecord} (h : s.frame? n = some r) : r ∈ s.em.table ∧ r.number = n :=
  ⟨List.mem_of_find?_eq_some h, by simpa using List.find?_some h⟩

theorem Held.giveBack (n : Nat) (h : Held s t) : Held s (giveBack n t) := by
  unfold Machine.giveBack; split
  · exact h
  · next r hr =>
    split
    · exact h
    · next first hfirst =>
      refine Held.checkLow (Held.updateFrame n _ (h.em _ rfl fun hring => ?_) fun _ _ hk => nomatch hk)
      exact ⟨hring.frames, (Nat.sub_le _ _).trans hring.occupancy, hring.firstSlots r (frame?_mem hr).1 first hfirst,
        hring.oldest, hring.firstSlots⟩

/-! ### The emission state and the mute causes -/

theorem Held.changeEmission (new : EmissionState) (h : Held s t) : Held s (changeEmission new t) := by
  unfold Machine.changeEmission
  exact ((h.controls _).raise _).refresh.urgent
theorem Held.passCurrent (h : Held s t) : Held s (passCurrent t) := by
  unfold Machine.passCurrent; split
  · exact h
  · exact h.updateFrame _ _ fun r k hk => by split at hk <;> exact hk
theorem Held.enterMuted (h : Held s t) : Held s (enterMuted t) := (h.passCurrent.changeEmission _).setLatch _
theorem Held.addCause (c : MuteCause) (h : Held s t) : Held s (addCause c t) := by
  unfold Machine.addCause; split
  · exact h
  · have hadded := (h.controls { t.em with causes := t.em.causes.put c true }).raise
      (.muteCause c true (t.em.causes.put c true))
    dsimp only; split
    · exact hadded.enterMuted
    · exact hadded
theorem Held.removeCause (c : MuteCause) (h : Held s t) : Held s (removeCause c t) := by
  unfold Machine.removeCause; split
  · exact h
  · exact (h.controls _).raise _
theorem Held.compareU (h : Held s t) : Held s (compareU t) := by
  unfold Machine.compareU; split
  · exact h.addCause _
  · exact h.removeCause _
theorem Held.discardPassed (h : Held s t) : Held s (discardPassed t) := by
  unfold Machine.discardPassed; split
  · have hcounted := fun n k => h.controls { t.em with discardRun := n, releaseRun := k }
    dsimp only; split
    · exact (hcounted _ _).addCause _
    · exact hcounted _ _
  · exact h
theorem Held.releaseCauses (h : Held s t) : Held s (releaseCauses t) := by
  have hreset := (h.removeCause .starve).controls { (Machine.removeCause .starve t).em with discardRun := 0 }
  have hcounted := fun n => (h.removeCause .starve).controls { (Machine.removeCause .starve t).em with
    discardRun := 0, releaseRun := n }
  unfold Machine.releaseCauses; dsimp only; split
  · split
    · exact (hcounted _).removeCause _
    · exact hcounted _
  · exact hreset
theorem Held.decideEmission (h : Held s t) : Held s (decideEmission t) := by
  unfold Machine.decideEmission; split
  · split
    · exact h.changeEmission _
    · exact h
  · split
    · exact h.changeEmission _
    · exact h
  · exact h
  · exact h

/-! ### The frame pass -/

theorem Held.framePass (p : FramePass) (h : Held s t) : Held s (framePass p t) := by
  have m := Moves.framePass p (.refl (s := t))
  exact h.trans ⟨m.memory, m.slots, congrArg Prod.fst (tally_framePass p t), m.capacity⟩
theorem Held.frameGapToChannels (c : Time) (h : Held s t) : Held s (frameGapToChannels c t) := by
  have m := Moves.frameGapToChannels c (.refl (s := t))
  exact h.trans ⟨m.memory, m.slots, congrArg Prod.fst (tally_frameGapToChannels c t), m.capacity⟩
theorem Held.handPass (r : FrameRecord) (d : Disposition) (h : Held s t) : Held s (handPass r d t) :=
  (h.framePass _).countEm _
theorem Held.passDiscarded (r : FrameRecord) (c : DiscardCause) (h : Held s t) : Held s (passDiscarded r c t) :=
  ((h.handPass _ _).leaveTable _).discardPassed
theorem Held.runPasses (n : Nat) (h : Held s t) : Held s (runPasses n t) := by
  induction n generalizing t with
  | zero => exact h
  | succ n ih =>
    unfold Machine.runPasses; split
    · split
      · split
        · exact h
        · exact ih (h.passDiscarded _ _)
      · exact h
    · exact h
theorem Held.judgePassPoint (h : Held s t) : Held s (judgePassPoint t) := h.runPasses _

/-! ### Pacing and output -/

theorem Held.endEmission (n : Nat) (h : Held s t) : Held s (endEmission n t) := (h.leaveTable n).controls _
theorem Held.endIfDone (h : Held s t) : Held s (endIfDone t) := by
  unfold Machine.endIfDone; split
  · split
    · exact h.endEmission _
    · exact h
  · exact h
theorem Held.cutCells (n : Nat) (r : FrameRecord) (h : Held s t) : Held s (cutCells n r t) := by
  unfold Machine.cutCells
  exact ((h.freeSlots n).updateFrame _ _).countEm _
theorem Held.cutHeld (h : Held s t) : Held s (cutHeld t) := by
  have hcleared := h.controls { t.em with heldBack := false }
  unfold Machine.cutHeld; split
  · split
    · exact (hcleared.cutCells _ _).endIfDone
    · exact hcleared
  · exact h
theorem Held.cutCurrent (h : Held s t) : Held s (cutCurrent t) := by
  unfold Machine.cutCurrent; split
  · exact h
  · split
    · exact h.endEmission _
    · exact (((h.cutCells _ _).countEm _).raise _).endEmission _
theorem Held.passOver (x : Time) (h : Held s t) : Held s (passOver x t) := by
  unfold Machine.passOver; split
  · exact h
  · dsimp only; split
    · exact h
    · have hpassed := fun n => h.controls { t.em with heldBack := false, nextCell := n }
      split
      · exact ((hpassed _).cutCells _ _).endIfDone
      · exact hpassed _
theorem Held.stepPacing (old new : Time) (h : Held s t) : Held s (stepPacing old new t) := by
  unfold Machine.stepPacing; split
  · exact (h.controls _).passOver _
  · exact h.controls _
theorem Held.outputFiller (h : Held s t) : Held s (outputFiller t) := by
  unfold Machine.outputFiller; split
  · exact (h.startTransfer _ _).countEm _
  · exact (h.startTransfer _ _).countEm _
  · exact h
  · exact h
theorem Held.emitCell (r : FrameRecord) (h : Held s t) : Held s (emitCell r t) := by
  unfold Machine.emitCell
  exact ((h.quiet (.passChannels _ _ .refl)).startTransfer _ _).freeSlot.updateFrame _ _
theorem Held.consumeCell (r : FrameRecord) (h : Held s t) : Held s (consumeCell r t) :=
  h.freeSlot.outputFiller.updateFrame _ _

/-! ### Releases and instants -/

theorem Held.loadStarve (q : Time) (h : Held s t) : Held s (loadStarve q t) := by
  unfold Machine.loadStarve; split
  · exact h.controls _
  · exact h
theorem Held.markReleased (n : Nat) (h : Held s t) : Held s (markReleased n t) := by
  unfold Machine.markReleased; split
  · exact (h.updateFrame _ _).countEm _
  · exact (h.updateFrame _ _).countEm _
theorem Held.passReleased (n : Nat) (h : Held s t) : Held s (passReleased n t) := by
  unfold Machine.passReleased; split
  · exact h.handPass _ _
  · exact h
theorem Held.paceReleased (r : FrameRecord) (h : Held s t) : Held s (paceReleased r t) := by
  unfold Machine.paceReleased; split
  · split
    · exact h.passOver _
    · exact h
  · exact h
theorem Held.releaseFrame (r : FrameRecord) (h : Held s t) : Held s (releaseFrame r t) := by
  have hdecided := h.cutCurrent.releaseCauses.decideEmission
  have hmarked := (hdecided.loadStarve r.q).judgePassPoint.markReleased r.number
  have hcurrent := (hmarked.passReleased r.number).makeCurrent r
  exact hcurrent.judgePassPoint.paceReleased r
theorem Held.paceCell (x : Time) (r : FrameRecord) (h : Held s t) : Held s (paceCell x r t) := by
  unfold Machine.paceCell; split
  · exact h.controls _
  · split
    · exact (h.emitCell _).endIfDone
    · exact (h.consumeCell _).endIfDone

end Sys2Proof.Proofs
end

section
/-! SUPPORT. What the operations of the emission controller make of the frame table and of the queue: the record of a frame
number, the pass point, a cell that was held back, slots given back. -/

namespace Sys2Proof.Proofs

open Sys2Proof Sys2Proof.Machine Sys2Proof.Laws

/-! ### The first item of a list that meets a test -/

/-- An update that leaves the test of each item it changes finds the same item, updated if it is one of them. -/
theorem find?_updated {α : Type} {p q : α → Bool} {f : α → α} {l : List α} {r : α} (h : l.find? p = some r)
    (hf : ∀ x ∈ l, q x = true → p (f x) = p x) : (updateWhere q f l).find? p = some (if q r then f r else r) := by
  induction l with
  | nil => cases h
  | cons x l ih =>
    have ih := fun h => ih h fun y hy => hf y (List.mem_cons_of_mem _ hy)
    have hx : p (if q x then f x else x) = p x := by
      split
      · next hq => exact hf x (List.mem_cons_self ..) hq
      · rfl
    simp only [updateWhere, List.map_cons, List.find?_cons, hx] at h ih ⊢
    cases hp : p x with
    | true => rw [hp] at h; cases h; rfl
    | false => rw [hp] at h; exact ih h

/-- Dropping other items finds the same item. -/
theorem find?_filtered {α : Type} {p q : α → Bool} {l : List α} {r : α} (h : l.find? p = some r) (hq : q r = true) :
    (l.filter q).find? p = some r := by
  induction l with
  | nil => cases h
  | cons x l ih =>
    simp only [List.find?_cons] at h
    cases hp : p x with
    | true =>
      rw [hp] at h; cases h
      simp [hq, hp]
    | false =>
      rw [hp] at h
      simp only [List.filter_cons]; split
      · simp [hp, ih h]
      · exact ih h

/-- In a table of distinct numbers a record is the only one of its number. -/
theorem numbered_eq {l : List FrameRecord} (hn : (l.map FrameRecord.number).Nodup) {x y : FrameRecord} (hx : x ∈ l)
    (hy : y ∈ l) (h : x.number = y.number) : x = y := List.inj_on_of_nodup_map hn hx hy h

/-! ### The record of a frame number -/

variable {s : State} {n : Nat} {r : FrameRecord}

theorem frame?_updateFrame (h : s.frame? n = some r) (m : Nat) {f : FrameRecord → FrameRecord}
    (hf : ∀ x, (f x).number = x.number) : (updateFrame m f s).frame? n = some (if n = m then f r else r) := by
  have hn := (frame?_mem h).2
  have := find?_updated (q := fun x => x.number == m) (f := f) h fun x _ _ => by rw [hf]
  simp only [hn, beq_iff_eq] at this
  exact this

theorem frame?_leaveTable (h : s.frame? n = some r) {m : Nat} (hm : m ≠ n) : (leaveTable m s).frame? n = some r :=
  find?_filtered h (by rw [(frame?_mem h).2]; simpa using Ne.symm hm)

theorem frame?_left (n : Nat) (s : State) : (leaveTable n s).frame? n = none := by
  refine List.find?_eq_none.2 fun x hx => ?_
  simpa using (List.mem_filter.1 hx).2

theorem frame?_none_iff : s.frame? n = none ↔ n ∉ s.em.table.map FrameRecord.number := by
  simp [State.frame?]

theorem frame?_of_table {s t : State} (h : t.em.table = s.em.table) (n : Nat) : t.frame? n = s.frame? n := by
  unfold State.frame?; rw [h]

/-- The numbers of the table stay under an update that keeps each record's number. -/
theorem numbers_updateFrame (m : Nat) {f : FrameRecord → FrameRecord} (hf : ∀ x, (f x).number = x.number) (s : State) :
    (updateFrame m f s).em.table.map FrameRecord.number = s.em.table.map FrameRecord.number :=
  map_updateWhere FrameRecord.number _ f hf _

/-! ### Muting -/

/-- The controller but for its state, its causes, the carrier and the two runs. -/
def carried (m : Emission) : Emission := { m with
  state := .standby, causes := ⟨false, false, false, false⟩, carrier := false, discardRun := 0, releaseRun := 0 }

theorem queue_of_carried {m m' : Emission} (h : carried m = carried m') : m.queue = m'.queue :=
  show (carried m).queue = (carried m').queue by rw [h]

theorem table_of_carried {m m' : Emission} (h : carried m = carried m') : m.table = m'.table :=
  show (carried m).table = (carried m').table by rw [h]

theorem carried_changeEmission (new : EmissionState) (s : State) :
    carried (changeEmission new s).em = carried s.em := by
  unfold changeEmission; dsimp only; rw [em_of_outer (outer_urgent _), em_of_outer (outer_refresh _)]; rfl

theorem carried_enterMuted (s : State) : carried (enterMuted s).em = carried (passCurrent s).em := by
  unfold enterMuted; rw [em_of_outer (outer_setLatch _ _), carried_changeEmission]

/-- A cause that is added changes more than the state only where it mutes ON_AIR: the current frame is then PASSED. -/
theorem carried_addCause (c : MuteCause) (s : State) :
    carried (addCause c s).em = carried s.em ∨ carried (addCause c s).em = carried (passCurrent s).em := by
  have hadded : ∀ x, carried (passCurrent (raise x { s with em := { s.em with causes := s.em.causes.put c true } })).em
      = carried (passCurrent s).em := fun x => by
    unfold passCurrent; dsimp only [raise_em]; split <;> rfl
  unfold addCause; dsimp only; split
  · exact .inl rfl
  · split
    · exact .inr ((carried_enterMuted _).trans (hadded _))
    · exact .inl rfl

theorem carried_discardPassed (s : State) :
    carried (discardPassed s).em = carried s.em ∨ carried (discardPassed s).em = carried (passCurrent s).em := by
  have hcounted : ∀ d k, carried (passCurrent { s with em := { s.em with discardRun := d, releaseRun := k } }).em
      = carried (passCurrent s).em := fun d k => by unfold passCurrent; dsimp only; split <;> rfl
  unfold discardPassed; dsimp only; split
  · split
    · rw [← hcounted]; exact carried_addCause _ _
    · exact .inl rfl
  · exact .inl rfl

/-- A discarded pass: the record is gone, the current frame may be PASSED by the muting, and the queue stays. -/
theorem passDiscarded_em (x : FrameRecord) (c : DiscardCause) (s : State) :
    (passDiscarded x c s).em.queue = s.em.queue
      ∧ ((passDiscarded x c s).em.table = (leaveTable x.number s).em.table
        ∨ (passDiscarded x c s).em.table = (passCurrent (leaveTable x.number s)).em.table) := by
  have hpass : (handPass x (.discarded c) s).em.queue = s.em.queue
      ∧ (handPass x (.discarded c) s).em.table = s.em.table
      ∧ (handPass x (.discarded c) s).em.current = s.em.current := by
    unfold handPass; dsimp only [countEm]; rw [em_of_outer (outer_framePass _ _)]; exact ⟨rfl, rfl, rfl⟩
  obtain ⟨hqueue, htable, hcurrent⟩ := hpass
  have hcut : ∀ t : State, (passCurrent t).em.queue = t.em.queue := fun t => by unfold passCurrent; split <;> rfl
  unfold passDiscarded
  generalize handPass x (.discarded c) s = u at hqueue htable hcurrent ⊢
  have hleft : (leaveTable x.number u).em.table = (leaveTable x.number s).em.table := by simp only [leaveTable, htable]
  have hmuted : (passCurrent (leaveTable x.number u)).em.table = (passCurrent (leaveTable x.number s)).em.table := by
    unfold passCurrent; dsimp only [leaveTable]; rw [hcurrent, htable]; split <;> rfl
  rcases carried_discardPassed (leaveTable x.number u) with h | h
  · exact ⟨(queue_of_carried h).trans hqueue, .inl ((table_of_carried h).trans hleft)⟩
  · exact ⟨(queue_of_carried h).trans ((hcut _).trans hqueue), .inr ((table_of_carried h).trans hmuted)⟩

/-! ### The pass point -/

theorem runPasses_queue (k : Nat) (s : State) : (runPasses k s).em.queue = s.em.queue := by
  induction k generalizing s with
  | zero => rfl
  | succ k ih =>
    unfold runPasses; split
    · split
      · split
        · rfl
        · rw [ih, (passDiscarded_em _ _ s).1]
      · rfl
    · rfl

@[simp] theorem judgePassPoint_queue (s : State) : (judgePassPoint s).em.queue = s.em.queue := runPasses_queue _ s

theorem numbers_passDiscarded (x : FrameRecord) (c : DiscardCause) (s : State) :
    (passDiscarded x c s).em.table.map FrameRecord.number = (leaveTable x.number s).em.table.map FrameRecord.number := by
  rcases (passDiscarded_em x c s).2 with h | h
  · rw [h]
  · rw [h]; unfold passCurrent; split
    · rfl
    · exact numbers_updateFrame _ (fun y => by split <;> rfl) _

/-- A number that is not in the table does not come into it at the pass point. -/
theorem runPasses_none (k : Nat) {s : State} (h : s.frame? n = none) : (runPasses k s).frame? n = none := by
  induction k generalizing s with
  | zero => exact h
  | succ k ih =>
    have hpassed : ∀ x c, (passDiscarded x c s).frame? n = none := fun x c => by
      rw [frame?_none_iff] at h ⊢
      rw [numbers_passDiscarded]
      exact fun hn => h ((List.filter_sublist.map _).subset hn)
    unfold runPasses; split
    · split
      · split
        · exact h
        · exact ih (hpassed _ _)
      · exact h
    · exact h

/-- A record of the table that the muting leaves as it is stands after another one has passed. -/
theorem frame?_passDiscarded (h : s.frame? n = some r) (he : r.state ≠ .emitting) {x : FrameRecord} (hx : x.number ≠ n)
    (c : DiscardCause) : (passDiscarded x c s).frame? n = some r := by
  have hleft := frame?_leaveTable h hx
  rcases (passDiscarded_em x c s).2 with ht | ht
  · exact (frame?_of_table ht n).trans hleft
  · refine (frame?_of_table ht n).trans ?_
    unfold passCurrent; split
    · exact hleft
    · refine (frame?_updateFrame hleft _ fun y => ?_).trans ?_
      · split <;> rfl
      · rw [if_neg he, ite_self]

/-- At the pass point a record that is not EMITTING stays as it is or passes. -/
theorem runPasses_frame? (k : Nat) {s : State} (h : s.frame? n = some r) (he : r.state ≠ .emitting) :
    (runPasses k s).frame? n = some r ∨ (runPasses k s).frame? n = none := by
  induction k generalizing s with
  | zero => exact .inl h
  | succ k ih =>
    unfold runPasses; split
    · next x _ =>
      split
      · split
        · exact .inl h
        · by_cases hx : x.number = n
          · refine .inr (runPasses_none k ?_)
            rw [frame?_none_iff, numbers_passDiscarded, hx]
            exact frame?_none_iff.1 (frame?_left n s)
          · exact ih (frame?_passDiscarded h he hx _)
      · exact .inl h
    · exact .inl h

/-- A record passes at the pass point only once it is DISCARDED and complete or SHORT (R54). -/
def FrameRecord.passable (r : FrameRecord) : Prop := (∃ c, r.state = .discarded c) ∧ r.status ≠ .pending

/-- One that does not, in a table of distinct numbers, stays. -/
theorem runPasses_stays (k : Nat) {s : State} (hn : (s.em.table.map FrameRecord.number).Nodup) (h : s.frame? n = some r)
    (he : r.state ≠ .emitting) (hp : ¬FrameRecord.passable r) : (runPasses k s).frame? n = some r := by
  induction k generalizing s with
  | zero => exact h
  | succ k ih =>
    unfold runPasses; split
    · next x hfind =>
      split
      · next cause hcause =>
        split
        · exact h
        · next hstatus =>
          have hx : x.number ≠ n := fun hx => hp <| by
            obtain rfl := numbered_eq hn (List.mem_of_find?_eq_some hfind) (frame?_mem h).1 (hx.trans (frame?_mem h).2.symm)
            exact ⟨⟨cause, hcause⟩, hstatus⟩
          refine ih ?_ (frame?_passDiscarded h he hx _)
          rw [numbers_passDiscarded]
          exact hn.sublist (List.filter_sublist.map _)
      · exact h
    · exact h

/-- The record at the pass point passes once it may (R54). -/
theorem judgePassPoint_front (h : s.em.table.find? FrameRecord.unpassed = some r) (hp : FrameRecord.passable r) :
    (judgePassPoint s).frame? r.number = none := by
  obtain ⟨⟨cause, hcause⟩, hstatus⟩ := hp
  have hpos : s.em.table.length ≠ 0 := fun h0 => by rw [List.length_eq_zero_iff.1 h0] at h; cases h
  obtain ⟨k, hk⟩ := Nat.exists_eq_succ_of_ne_zero hpos
  have hpassed : (passDiscarded r cause s).frame? r.number = none := by
    rw [frame?_none_iff, numbers_passDiscarded]; exact frame?_none_iff.1 (frame?_left _ s)
  rw [judgePassPoint, hk, runPasses, h]
  dsimp only
  rw [hcause]
  dsimp only
  rw [if_neg hstatus]
  exact runPasses_none k hpassed

/-! ### A cell that was held back -/

theorem freeSlot_em (s : State) : ∃ q, (freeSlot s).em = { s.em with queue := q } := by
  unfold freeSlot; dsimp only; rw [checkLow_em]; exact ⟨_, rfl⟩

theorem freeSlots_table (k : Nat) (s : State) : (freeSlots k s).em.table = s.em.table :=
  iter_keeps (fun t : State => t.em.table) freeSlot (fun t => by obtain ⟨q, h⟩ := freeSlot_em t; rw [h]) k s

theorem freeSlots_current (k : Nat) (s : State) : (freeSlots k s).em.current = s.em.current :=
  iter_keeps (fun t : State => t.em.current) freeSlot (fun t => by obtain ⟨q, h⟩ := freeSlot_em t; rw [h]) k s

theorem cutCells_current (k : Nat) (x : FrameRecord) (s : State) : (cutCells k x s).em.current = s.em.current :=
  freeSlots_current k s

theorem cutCells_table (k : Nat) (x : FrameRecord) (s : State) : (cutCells k x s).em.table
    = updateWhere (fun y => y.number == x.number) (fun y => { y with cut := y.cut + k, slotsHeld := y.slotsHeld - k })
      s.em.table :=
  congrArg (updateWhere _ _) (freeSlots_table k s)

theorem nextFree_freeSlots (k : Nat) (s : State) : (freeSlots k s).em.queue.nextFree = s.em.queue.nextFree :=
  iter_keeps (fun t : State => t.em.queue.nextFree) freeSlot
    (fun t => by unfold freeSlot; dsimp only; rw [checkLow_em]; rfl) k s

theorem nextFree_endIfDone (s : State) : (endIfDone s).em.queue.nextFree = s.em.queue.nextFree := by
  unfold endIfDone; split
  · split <;> rfl
  · rfl

theorem currentFrame_number (h : s.currentFrame = some r) : s.em.current = some r.number := by
  unfold State.currentFrame at h; split at h
  · next n hn => rw [hn, (frame?_mem h).2]
  · cases h

theorem cutHeld_same (h : s.em.heldBack = false) : cutHeld s = s := by
  unfold cutHeld; rw [h]; rfl

@[simp] theorem cutHeld_nextFree (s : State) : (cutHeld s).em.queue.nextFree = s.em.queue.nextFree := by
  unfold cutHeld; split
  · split
    · rw [nextFree_endIfDone]; unfold cutCells; exact nextFree_freeSlots 1 _
    · rfl
  · rfl

/-- A test that does not look at the cells cut or the slots held finds the record it found, unless that is the current
frame's. -/
theorem cutHeld_find? {p : FrameRecord → Bool}
    (hp : ∀ (x : FrameRecord) (c k : Nat), p { x with cut := c, slotsHeld := k } = p x)
    (h : s.em.table.find? p = some r) (hr : s.em.current ≠ some r.number) : (cutHeld s).em.table.find? p = some r := by
  unfold cutHeld; split
  · split
    · next x hx =>
      have hcurrent := currentFrame_number hx
      have hother : ∀ m, s.em.current = some m → r.number ≠ m := fun m hm e => hr (e ▸ hm)
      generalize hu : cutCells 1 x { s with em := { s.em with heldBack := false } } = u
      have hcut : u.em.current = s.em.current ∧ u.em.table.find? p = some r := by
        subst hu
        rw [cutCells_current, cutCells_table]
        refine ⟨rfl, (find?_updated h fun y _ _ => hp y _ _).trans ?_⟩
        rw [if_neg (by simpa using hother _ hcurrent)]
      unfold endIfDone; split
      · next y hy =>
        split
        · have hy' := hcut.1.symm.trans (currentFrame_number hy)
          exact find?_filtered hcut.2 (by simpa using hother _ hy')
        · exact hcut.2
      · exact hcut.2
    · exact h
  · exact h

theorem cutHeld_frame? (h : s.frame? n = some r) (hr : s.em.current ≠ some n) : (cutHeld s).frame? n = some r :=
  cutHeld_find? (fun _ _ _ => rfl) h ((frame?_mem h).2 ▸ hr)

/-! ### Slots given back -/

/-- A record that holds no slots. -/
def FrameRecord.emptied (r : FrameRecord) : FrameRecord := { r with slotsHeld := 0, firstSlot := none }

theorem giveBack_none (h : s.frame? n = some r) (hf : r.firstSlot = none) : giveBack n s = s := by
  unfold giveBack; rw [h]; dsimp only; rw [hf]

/-- Slots given back: the next free slot, the occupancy and the high flag (R42, R46, R47). -/
theorem giveBack_em (h : s.frame? n = some r) {f : Nat} (hf : r.firstSlot = some f) : (giveBack n s).em = { s.em with
    table := updateWhere (fun x => x.number == n) FrameRecord.emptied s.em.table
    queue := { s.em.queue with
      nextFree := f
      occupancy := s.em.queue.occupancy - r.slotsHeld
      high := s.em.queue.high
        && decide (s.setting SiteConfig.almostEmpty 4096 < s.em.queue.occupancy - r.slotsHeld) } } := by
  unfold giveBack; rw [h]; dsimp only; rw [hf]; dsimp only; rw [checkLow_em]; rfl

/-- The next free slot after the slots of a number have been given back. -/
theorem giveBack_nextFree (h : s.frame? n = some r) :
    (giveBack n s).em.queue.nextFree = r.firstSlot.getD s.em.queue.nextFree := by
  cases hf : r.firstSlot with
  | none => rw [giveBack_none h hf]; rfl
  | some f => rw [giveBack_em h hf]; rfl

end Sys2Proof.Proofs
end

section
/-! SUPPORT. What the operations of feed intake leave alone, and the slots that they may write. -/

namespace Sys2Proof.Proofs

open Sys2Proof Sys2Proof.Machine Sys2Proof.Laws

variable {s t : State}

/-! ### The blocks beside -/

/-- The state without feed intake, the emission controller and the monitor port. -/
def aside (s : State) : State :=
  { s with intake := State.reset.intake, em := State.reset.em, mon := State.reset.mon }

@[simp] theorem aside_checkHigh (s : State) : aside (checkHigh s) = aside s := by
  unfold checkHigh; dsimp only; split <;> rfl
@[simp] theorem aside_checkLow (s : State) : aside (checkLow s) = aside s := by
  unfold checkLow; dsimp only; split <;> rfl
@[simp] theorem aside_freeSlot (s : State) : aside (freeSlot s) = aside s := by
  unfold freeSlot; dsimp only; rw [aside_checkLow]; rfl
@[simp] theorem aside_storeCell (c : Cell) (s : State) : aside (storeCell c s) = aside s := by
  unfold storeCell; dsimp only; rw [aside_checkHigh]; rfl
@[simp] theorem aside_updateFrame (n : Nat) (f : FrameRecord → FrameRecord) (s : State) :
    aside (updateFrame n f s) = aside s := rfl
@[simp] theorem aside_em (x : Emission) (s : State) : aside { s with em := x } = aside s := rfl
@[simp] theorem aside_reportDiscard (n : Nat) (c : DiscardCause) (s : State) : aside (reportDiscard n c s) = aside s := rfl
@[simp] theorem aside_setAssembly (a : Option Assembly) (s : State) : aside (setAssembly a s) = aside s := rfl
@[simp] theorem aside_giveBack (n : Nat) (s : State) : aside (giveBack n s) = aside s := by
  unfold giveBack; split
  · rfl
  · split
    · rfl
    · simp
@[simp] theorem aside_cutCells (n : Nat) (r : FrameRecord) (s : State) : aside (cutCells n r s) = aside s :=
  iter_keeps aside freeSlot aside_freeSlot n s
@[simp] theorem aside_endIfDone (s : State) : aside (endIfDone s) = aside s := by
  unfold endIfDone; split
  · split <;> rfl
  · rfl
@[simp] theorem aside_cutHeld (s : State) : aside (cutHeld s) = aside s := by
  unfold cutHeld; split
  · split
    · simp
    · rfl
  · rfl
@[simp] theorem aside_discardAssembling (n : Nat) (c : DiscardCause) (s : State) :
    aside (discardAssembling n c s) = aside s := by simp [discardAssembling]
@[simp] theorem aside_storeFrameCell (n : Nat) (c : Cell) (s : State) : aside (storeFrameCell n c s) = aside s := by
  unfold storeFrameCell; (repeat' split) <;> simp

/-! ### Feed intake's own items -/

theorem intake_of_calm {s t : State} (h : calm s = calm t) : s.intake = t.intake := intake_of_still (still_of_calm h)

@[simp] theorem intake_giveBack (n : Nat) (s : State) : (giveBack n s).intake = s.intake :=
  intake_of_calm (calm_giveBack n s)
@[simp] theorem intake_cutHeld (s : State) : (cutHeld s).intake = s.intake := intake_of_calm (calm_cutHeld s)
@[simp] theorem intake_storeCell (c : Cell) (s : State) : (storeCell c s).intake = s.intake :=
  intake_of_calm (calm_storeCell c s)
@[simp] theorem intake_judgePassPoint (s : State) : (judgePassPoint s).intake = s.intake :=
  intake_of_calm (calm_judgePassPoint s)
@[simp] theorem intake_frameGapToChannels (c : Time) (s : State) : (frameGapToChannels c s).intake = s.intake :=
  congrArg Outer.intake (outer_frameGapToChannels c s)
theorem intake_discardAssembling (n : Nat) (c : DiscardCause) (s : State) :
    (discardAssembling n c s).intake = (countDiscard c s).intake := by
  unfold discardAssembling reportDiscard countDiscard
  cases c <;> simp

/-- Feed intake without the frame in assembly, the two marks of the frames before it, and the counters. -/
def feedPart (i : Intake) : Intake :=
  { i with assembly := none, lastComplete := none, lastAccepted := none, counters := Intake.reset.counters }

@[simp] theorem feedPart_countDiscard (c : DiscardCause) (s : State) :
    feedPart (countDiscard c s).intake = feedPart s.intake := rfl
@[simp] theorem feedPart_discardAssembling (n : Nat) (c : DiscardCause) (s : State) :
    feedPart (discardAssembling n c s).intake = feedPart s.intake := by rw [intake_discardAssembling]; rfl
@[simp] theorem feedPart_storeFrameCell (n : Nat) (c : Cell) (s : State) :
    feedPart (storeFrameCell n c s).intake = feedPart s.intake := by
  unfold storeFrameCell; (repeat' split) <;> simp
@[simp] theorem feedPart_checkNumbering (r : FrameRecord) (s : State) :
    feedPart (checkNumbering r s).intake = feedPart s.intake := by
  have hgap : ∀ t : State, feedPart (frameGapToChannels r.c t).intake = feedPart t.intake := fun t => by simp
  unfold checkNumbering; dsimp only; split
  · rfl
  · split
    · rfl
    · exact hgap _
@[simp] theorem feedPart_handCompletion (n : Nat) (s : State) :
    feedPart (handCompletion n s).intake = feedPart s.intake := by
  unfold handCompletion; (repeat' split) <;> simp
@[simp] theorem feedPart_completeFrame (n : Option Nat) (s : State) :
    feedPart (completeFrame n s).intake = feedPart s.intake := by
  unfold completeFrame; dsimp only; split
  · rfl
  · split
    · rfl
    · simp only [intake_judgePassPoint, feedPart_handCompletion, feedPart_checkNumbering]; rfl
@[simp] theorem feedPart_placeCell (k : CellSort) (c : Cell) (a : Assembly) (s : State) :
    feedPart (placeCell k c a s).intake = feedPart s.intake := by
  have hplaced : feedPart (match a.record with
      | none => s
      | some n => storeFrameCell n (standsAs k c) (updateFrame n (countCell k c) s)).intake = feedPart s.intake := by
    split <;> simp
  unfold placeCell; dsimp only; split
  · rw [feedPart_completeFrame]; exact hplaced
  · exact hplaced

/-- Feed intake without the frame in assembly and the count of frames that ended SHORT. -/
def shortless (i : Intake) : Intake := { i with assembly := none, counters := { i.counters with short := 0 } }

theorem feedPart_of_shortless {i j : Intake} (h : shortless i = shortless j) : feedPart i = feedPart j :=
  show feedPart (shortless i) = feedPart (shortless j) by rw [h]

theorem shortless_shortRecord (n : Nat) (s : State) : shortless (shortRecord n s).intake = shortless s.intake := by
  have hback : ∀ r : FrameRecord, (if r.state = .assembling then giveBack n s else s).intake = s.intake := fun r => by
    split <;> simp
  unfold shortRecord; split
  · rfl
  · next r _ =>
    rw [intake_cutHeld, ← hback r]
    rfl

/-- The end of a frame as SHORT leaves the rest of feed intake (R34). -/
theorem shortless_endShort (s : State) : shortless (endShort s).intake = shortless s.intake := by
  unfold endShort; split
  · rfl
  · rw [intake_judgePassPoint]
    split
    · rfl
    · exact shortless_shortRecord _ s

theorem feedPart_endShort (s : State) : feedPart (endShort s).intake = feedPart s.intake :=
  feedPart_of_shortless (shortless_endShort s)

theorem endShort_assembly (s : State) : (endShort s).intake.assembly = none := by
  unfold endShort; split
  · next h => exact h
  · rw [intake_judgePassPoint]; rfl

theorem endShort_idle (h : s.intake.assembly = none) : endShort s = s := by
  unfold endShort; rw [h]

@[simp] theorem feedPart_takeFrameHead (c : SiteConfig) (h : FrameHead) (cell : Cell) (s : State) :
    feedPart (takeFrameHead c h cell s).intake = feedPart s.intake := by
  unfold takeFrameHead; dsimp only; split
  · exact feedPart_endShort s
  · exact feedPart_endShort s
  · exact (feedPart_storeFrameCell _ _ _).trans (feedPart_endShort s)
@[simp] theorem feedPart_malformedHead (s : State) : feedPart (malformedHead s).intake = feedPart s.intake :=
  feedPart_endShort _

/-! ### Operations that write no slot -/

/-- A change of feed intake that keeps as many continuity entries. -/
theorem Held.intake (x : Intake) (h : Held s t) (hl : x.continuity.length = t.intake.continuity.length := by rfl) :
    Held s { t with intake := x } :=
  h.trans ⟨rfl, rfl, rfl, fun hc => { hc with continuity := hl.trans hc.continuity }⟩

theorem Held.countIntake (f : IntakeCounters → IntakeCounters) (h : Held s t) : Held s (countIntake f t) := h.intake _
theorem Held.setAssembly (a : Option Assembly) (h : Held s t) : Held s (setAssembly a t) := h.intake _
theorem Held.setReception (n : Option Nat) (h : Held s t) : Held s (setReception n t) := h.intake _
theorem Held.loadLossTimer (c : SiteConfig) (h : Held s t) : Held s (loadLossTimer c t) := h.intake _
theorem Held.outsideCell (h : Held s t) : Held s (outsideCell t) := h.countIntake _
theorem Held.trackContinuity (c : Cell) (h : Held s t) : Held s (trackContinuity c t) :=
  h.intake _ (List.length_modify _ _ _)
theorem Held.dropExpectations (h : Held s t) : Held s (dropExpectations t) := h.intake _ (List.length_map _)
theorem Held.reportDiscard (n : Nat) (c : DiscardCause) (h : Held s t) : Held s (reportDiscard n c t) :=
  (h.raise _).intake _
theorem Held.discardAssembling (n : Nat) (c : DiscardCause) (h : Held s t) : Held s (discardAssembling n c t) :=
  (((h.updateFrame _ _).giveBack n).reportDiscard n c).cutHeld
theorem Held.shortRecord (n : Nat) (h : Held s t) : Held s (shortRecord n t) := by
  have hback : ∀ r : FrameRecord, Held s (if r.state = .assembling then Machine.giveBack n t else t) := fun r => by
    split
    · exact h.giveBack n
    · exact h
  unfold Machine.shortRecord; split
  · exact h
  · exact (((hback _).updateFrame _ _).reportDiscard _ _).cutHeld
theorem Held.endShort (h : Held s t) : Held s (endShort t) := by
  unfold Machine.endShort; split
  · exact h
  · dsimp only; split
    · exact ((Held.intake _ h).setAssembly _).judgePassPoint
    · exact ((h.shortRecord _).setAssembly _).judgePassPoint
theorem Held.handCompletion (n : Nat) (h : Held s t) : Held s (handCompletion n t) := by
  unfold Machine.handCompletion; split
  · exact h
  · split
    · exact h
    · split
      · exact h.discardAssembling _ _
      · exact h.updateFrame _ _
theorem Held.checkNumbering (r : FrameRecord) (h : Held s t) : Held s (checkNumbering r t) := by
  have hnumbered := fun {u : State} (hu : Held s u) x => hu.intake { u.intake with lastComplete := x }
  unfold Machine.checkNumbering; dsimp only; split
  · exact hnumbered h _
  · split
    · exact hnumbered h _
    · exact hnumbered (((h.raise _).countIntake _).frameGapToChannels _) _
theorem Held.completeFrame (n : Option Nat) (h : Held s t) : Held s (completeFrame n t) := by
  unfold Machine.completeFrame; dsimp only; split
  · exact h.setAssembly none
  · split
    · exact (h.setAssembly none).updateFrame _ _
    · exact ((((h.setAssembly none).updateFrame _ _).checkNumbering _).handCompletion _).judgePassPoint
theorem Held.malformedHead (h : Held s t) : Held s (malformedHead t) := (h.countIntake _).endShort
theorem Held.loseFeed (h : Held s t) : Held s (loseFeed t) := by
  unfold Machine.loseFeed
  exact (((h.intake _).endShort.dropExpectations.quiet (.endSegment .refl)).raise _).countIntake _

/-! ### The next free slot at the end of a frame -/

/-- The next free slot once the frame in assembly has ended SHORT: its first cell's, if it holds slots (R34, R42). -/
def slotAfterShort (a : Option Assembly) (m : Emission) : Nat :=
  match a.bind Assembly.record with
  | none => m.queue.nextFree
  | some n =>
    match m.table.find? fun r => r.number == n with
    | none => m.queue.nextFree
    | some r => if r.state = .assembling then r.firstSlot.getD m.queue.nextFree else m.queue.nextFree

theorem endShort_nextFree (s : State) :
    (endShort s).em.queue.nextFree = slotAfterShort s.intake.assembly s.em := by
  unfold endShort slotAfterShort
  cases ha : s.intake.assembly with
  | none => rfl
  | some a =>
    dsimp only [Option.bind]; rw [judgePassPoint_queue]
    cases hn : a.record with
    | none => rfl
    | some n =>
      dsimp only [setAssembly]
      unfold shortRecord
      cases hr : s.frame? n with
      | none => rw [show s.em.table.find? (fun r => r.number == n) = none from hr]
      | some r =>
        rw [show s.em.table.find? (fun r => r.number == n) = some r from hr]
        dsimp only
        rw [cutHeld_nextFree]
        refine Eq.trans (b := (if r.state = .assembling then giveBack n s else s).em.queue.nextFree) rfl ?_
        split
        · exact giveBack_nextFree hr
        · rfl

/-! ### Slots that are written -/

/-- What an operation may do that writes at most one slot of the store, at `p`, and one of the queue, at `q`. -/
structure Writes (p : Option Nat) (q : Nat) (s t : State) : Prop where
  memory : ∀ a, p ≠ some a → memRead t.store.memory a = memRead s.store.memory a
  slots : ∀ a, q ≠ a → memRead t.em.queue.slots a = memRead s.em.queue.slots a
  canonical : MemoryLaw s → MemoryLaw t
  capacity : CapacityLaw s → CapacityLaw t

variable {p : Option Nat} {q : Nat}

theorem Writes.of_eq (hm : t.store.memory = s.store.memory) (hs : t.em.queue.slots = s.em.queue.slots)
    (hc : CapacityLaw s → CapacityLaw t) : Writes p q s t where
  memory _ _ := by rw [hm]
  slots _ _ := by rw [hs]
  canonical h := ⟨by rw [hs]; exact h.1, by rw [hm]; exact h.2⟩
  capacity := hc

theorem Held.writes (h : Held s t) : Writes p q s t := .of_eq h.memory h.slots h.capacity

theorem Moves.writes (h : Moves s t) : Writes p q s t := .of_eq h.memory h.slots h.capacity

theorem Writes.trans {u : State} (h : Writes p q s t) (h' : Writes p q t u) : Writes p q s u where
  memory a ha := (h'.memory a ha).trans (h.memory a ha)
  slots a ha := (h'.slots a ha).trans (h.slots a ha)
  canonical := h'.canonical ∘ h.canonical
  capacity := h'.capacity ∘ h.capacity

theorem Writes.held {u : State} (h : Writes p q s t) (h' : Held t u) : Writes p q s u := h.trans h'.writes

/-- The one operation that writes a slot of the queue, with room in it (R46). -/
theorem storeCell_writes (c : Cell) (h : s.em.queue.occupancy < 65536) :
    Writes p s.em.queue.nextFree s (storeCell c s) := by
  have hstored : Writes p s.em.queue.nextFree s { s with em := { s.em with queue := { s.em.queue with
      slots := memWrite s.em.queue.slots s.em.queue.nextFree c
      nextFree := (s.em.queue.nextFree + 1) % 65536
      occupancy := s.em.queue.occupancy + 1 } } } :=
    ⟨fun _ _ => rfl, fun a ha => memRead_memWrite_other _ _ _ _ (Ne.symm ha),
      fun hm => ⟨memWf_memWrite _ _ _ hm.1, hm.2⟩,
      fun hc => capacity_withEm hc ⟨hc.frames, h, Nat.mod_lt _ (by decide), hc.oldest, hc.firstSlots⟩⟩
  exact hstored.held (.checkHigh .refl)

/-- The one operation that writes a slot of the store (R70). -/
theorem writeSlot_writes (a : Nat) (b : List Byte) (s : State) : Writes (some a) q s (writeSlot a b s) where
  memory _ hx := memRead_memWrite_other _ _ _ _ fun e => hx (congrArg some e.symm)
  slots _ _ := rfl
  canonical h := memoryLaw_writeSlot a b s h
  capacity h := { h with }

/-- The record of a stored cell takes up the slot as its first, if it holds none (R42). -/
theorem takeUpSlot_writes {n slot : Nat} (hslot : CapacityLaw s → slot < 65536) : Writes p q s
    (updateFrame n (fun x => { x with slotsHeld := x.slotsHeld + 1, firstSlot := some (x.firstSlot.getD slot) }) s) := by
  refine .of_eq rfl rfl fun h => capacity_withEm h ⟨?_, h.occupancy, h.nextFree, h.oldest, fun y hy k hk => ?_⟩
  · rw [updateWhere_length]; exact h.frames
  · obtain ⟨x, hx, rfl⟩ := mem_updateWhere.1 hy
    split at hk
    · obtain rfl := Option.some.inj hk
      cases hfirst : x.firstSlot with
      | none => exact hslot h
      | some f => exact h.firstSlots x hx f hfirst
    · exact h.firstSlots x hx k hk

theorem storeFrameCell_writes (n : Nat) (c : Cell) (hq : s.em.queue.nextFree = q) :
    Writes p q s (storeFrameCell n c s) := by
  subst hq
  unfold storeFrameCell; split
  · exact Held.refl.writes
  · split
    · exact Held.refl.writes
    · split
      · next hroom =>
        -- the slot is the next free one as it was before the cell took it
        have hstored := storeCell_writes (p := p) c hroom
        refine ⟨hstored.memory, hstored.slots, hstored.canonical, fun hc => ?_⟩
        exact (takeUpSlot_writes (p := p) (q := 0) fun _ => hc.nextFree).capacity (hstored.capacity hc)
      · exact (Held.discardAssembling n _ .refl).writes

theorem placeCell_writes (k : CellSort) (c : Cell) (a : Assembly) (s : State) :
    Writes p s.em.queue.nextFree s (placeCell k c a s) := by
  have hplaced : Writes p s.em.queue.nextFree s (match a.record with
      | none => s
      | some n => storeFrameCell n (standsAs k c) (updateFrame n (countCell k c) s)) := by
    split
    · exact Held.refl.writes
    · exact (Held.refl.updateFrame _ _).writes.trans (storeFrameCell_writes _ _ rfl)
  unfold placeCell; dsimp only; split
  · exact hplaced.held (.completeFrame _ .refl)
  · exact hplaced.held (.setAssembly _ .refl)

/-! ### Frame heads -/

/-- A head that is not refused a record for want of room finds the table with room (R40 check 2). -/
theorem judgeHead_room {c : SiteConfig} {h : FrameHead} {times : FrameTimes}
    (hj : ∀ cause, judgeHead c h times s ≠ .noRecord cause) : s.em.table.length < 64 := by
  by_contra hfull
  unfold judgeHead at hj
  split at hj
  · exact hj _ rfl
  · exact hj .tableFull (if_pos (Nat.not_lt.1 hfull))

theorem joinTable_writes {r : FrameRecord} (hroom : s.em.table.length < 64) (hr : r.firstSlot = none) :
    Writes p q s (joinTable r s) := by
  refine .of_eq rfl rfl fun h => capacity_withEm h ⟨?_, h.occupancy, h.nextFree, h.oldest, fun y hy k hk => ?_⟩
  · rw [List.length_append]; exact hroom
  · rcases List.mem_append.1 hy with hy | hy
    · exact h.firstSlots y hy k hk
    · obtain rfl := List.mem_singleton.1 hy
      rw [hr] at hk; cases hk

theorem takeFrameHead_writes (c : SiteConfig) (h : FrameHead) (cell : Cell) (s : State) :
    Writes p (endShort s).em.queue.nextFree s (takeFrameHead c h cell s) := by
  have hended := (Held.endShort (.refl (s := s))).writes (p := p) (q := (endShort s).em.queue.nextFree)
  unfold takeFrameHead
  generalize endShort s = u at hended ⊢
  dsimp only; split
  · exact (hended.held (.reportDiscard _ _ .refl)).held (.setAssembly _ .refl)
  · next cause hj =>
    have hroom := judgeHead_room (fun cause' => by rw [hj]; exact fun e => nomatch e)
    exact ((hended.held (.reportDiscard _ _ .refl)).trans (joinTable_writes hroom rfl)).held (.setAssembly _ .refl)
  · next hj =>
    have hroom := judgeHead_room (fun cause' => by rw [hj]; exact fun e => nomatch e)
    have haccepted := fun x => hended.held (Held.refl.intake { u.intake with lastAccepted := some x })
    exact (((haccepted _).trans (joinTable_writes hroom rfl)).trans
      (storeFrameCell_writes _ _ rfl)).held (.setAssembly _ .refl)

/-! ### Bodies -/

theorem segmentBody_writes (b : List Byte) (continuous : Bool) (s : State) :
    Writes (spotSlot s) q s (segmentBody b continuous s) := by
  unfold segmentBody; split
  · exact (Quiet.held (.updateStoreCounters _ .refl)).writes
  · dsimp only; split <;> exact (Quiet.held (.setAssembler _ .refl)).writes
  · next g page running check ha =>
    have hslot : spotSlot s = some (slotAddress page g.received) := by unfold spotSlot; rw [ha]
    rw [hslot]
    split
    · have hwritten := writeSlot_writes (q := q) (slotAddress page g.received) b s
      dsimp only; split
      · exact hwritten.held (Quiet.held (.completeSegment _ _ _ _ .refl))
      · exact hwritten.held (Quiet.held (.setAssembler _ .refl))
    · exact (Quiet.held (.endSegment .refl)).writes

end Sys2Proof.Proofs
end

section
/-! SUPPORT. What the commands of every block may do: none but CELL_TAKEN writes a slot, and the bounds are kept. -/

namespace Sys2Proof.Proofs

open Sys2Proof Sys2Proof.Machine Sys2Proof.Laws

variable {s t : State}

/-! ### Operations beside the memories, the tables and the event queue -/

theorem Held.updateTime (f : TimeBase → TimeBase) (h : Held s t) : Held s (updateTime f t) :=
  h.trans ⟨rfl, rfl, rfl, fun hc => { hc with }⟩
theorem Held.updateRef (r : Ref) (f : RefRecord → RefRecord) (h : Held s t) : Held s (updateRef r f t) := h.updateTime _
theorem Held.updateControl (f : SiteControl → SiteControl) (h : Held s t) : Held s (updateControl f t) :=
  h.trans ⟨rfl, rfl, rfl, fun hc => { hc with }⟩
theorem Held.updateZone (f : ZoneLine → ZoneLine) (h : Held s t) : Held s (updateZone f t) :=
  h.trans ⟨rfl, rfl, rfl, fun hc => { hc with }⟩
theorem Held.countZone (f : LineCounters → LineCounters) (h : Held s t) : Held s (countZone f t) := h.updateZone _
theorem Held.updateRoster (f : PeerRoster → PeerRoster) (h : Held s t) : Held s (updateRoster f t) :=
  h.trans ⟨rfl, rfl, rfl, fun hc => { hc with }⟩
theorem Held.updatePeer (n : Nat) (f : Peer → Peer) (h : Held s t) : Held s (updatePeer n f t) := h.updateRoster _

theorem Held.raiseAll (l : List Event) (h : Held s t) : Held s (raiseAll l t) := .forEach (fun e _ _ => Held.raise e) l h

/-- Site time moved by wraps of S: no slot, no length and no position changes. -/
theorem Held.shift (k : Int) (h : Held s t) : Held s (t.shift k) := by
  refine h.trans ⟨rfl, rfl, rfl, fun hc => { hc with frames := ?_, firstSlots := ?_, channels := ?_ }⟩
  · exact (List.length_map _).trans_le hc.frames
  · intro r hr f hf
    obtain ⟨x, hx, rfl⟩ := List.mem_map.1 hr
    exact hc.firstSlots x hx f hf
  · exact (List.length_map _).trans hc.channels
theorem Held.wrapTime (h : Held s t) : Held s t.wrapTime := by
  unfold State.wrapTime; split
  · exact h.shift _
  · split
    · exact h.shift _
    · exact h
theorem Held.tick (h : Held s t) : Held s (tick t) := by
  have hcounted : Held t { t with osc := t.osc + 1, tb := t.tb.tick } := ⟨rfl, rfl, rfl, fun hc => { hc with }⟩
  exact (h.trans hcounted).wrapTime

/-! ### The time base -/

theorem Held.regrade (h : Held s t) : Held s (regrade t) := by
  unfold Machine.regrade; dsimp only; split
  · exact h
  · exact (h.updateTime _).raise _
theorem Held.settleTime (before : TimeBase) (h : Held s t) : Held s (settleTime before t) := by
  have hlatch : ∀ {u}, Held s u → Held s (if timeCause before u.tb then Machine.setLatch .time u else u) := fun hu => by
    split
    · exact hu.setLatch _
    · exact hu
  have hcompare : ∀ {u}, Held s u → Held s (if u.tb.u = before.u then u else Machine.compareU u) := fun hu => by
    split
    · exact hu
    · exact hu.compareU
  have hrefresh : ∀ {u}, Held s u →
      Held s (if u.tb.grade = before.grade then u else Machine.refresh (Machine.urgent u)) := fun hu => by
    split
    · exact hu
    · exact hu.urgent.refresh
  exact hrefresh (hcompare (hlatch (h.updateTime _).regrade))
theorem Held.growHoldover (h : Held s t) : Held s (growHoldover t) := by
  unfold Machine.growHoldover; split
  · exact (h.updateTime _).settleTime _
  · exact h
theorem Held.startSchedule (second : Int) (h : Held s t) : Held s (startSchedule second t) := by
  unfold Machine.startSchedule; split
  · exact h.updateZone _
  · exact h
theorem Held.boundary (h : Held s t) : Held s (boundary t) := by
  unfold Machine.boundary; split
  · exact ((((h.updateTime _).quiet (.expireAll _ .refl)).startSchedule _).growHoldover).quiet (.formReport .refl)
  · exact h
theorem Held.moveDiscipline (new : Discipline) (h : Held s t) : Held s (moveDiscipline new t) :=
  (h.updateTime _).raise _
theorem Held.replaceTime (new : Time) (h : Held s t) : Held s (replaceTime new t) :=
  ((h.updateTime _).stepPacing _ _).wrapTime
theorem Held.stepTime (label : Nat) (h : Held s t) : Held s (stepTime label t) :=
  ((h.replaceTime _).updateTime _).raise _
theorem Held.enterHoldover (h : Held s t) : Held s (enterHoldover t) := (h.updateTime _).moveDiscipline _
theorem Held.enterUnset (h : Held s t) : Held s (enterUnset t) := (h.updateTime _).moveDiscipline _
theorem Held.enterAcquire (label : Nat) (h : Held s t) : Held s (enterAcquire label t) :=
  ((h.stepTime label).updateTime _).moveDiscipline _
theorem Held.acquireMark (label : Nat) (e : Int) (h : Held s t) : Held s (acquireMark label e t) := by
  by_cases he : 10 < e.natAbs
  · rw [acquireMark_step he]; exact (h.stepTime label).updateTime _
  · by_cases hrun : t.tb.acquireRun = 7
    · rw [acquireMark_track (Nat.not_lt.1 he) label hrun]; exact (h.updateTime _).moveDiscipline _
    · rw [acquireMark_run (Nat.not_lt.1 he) label hrun]; exact h.updateTime _
theorem Held.trackStateMark (label : Nat) (e : Int) (h : Held s t) : Held s (trackStateMark label e t) := by
  by_cases he : 100 < e.natAbs
  · by_cases hrun : t.tb.excessRun = 2
    · rw [trackStateMark_third he label hrun]; exact h.enterAcquire label
    · rw [trackStateMark_excess he label hrun]; exact h.updateTime _
  · rw [trackStateMark_small (Nat.not_lt.1 he)]; exact h.updateTime _
theorem Held.holdoverMark (label : Nat) (e : Int) (h : Held s t) : Held s (holdoverMark label e t) := by
  unfold Machine.holdoverMark; split
  · exact (h.updateTime _).moveDiscipline _
  · exact h.enterAcquire label
theorem Held.disciplineMark (label : Nat) (h : Held s t) : Held s (disciplineMark label t) := by
  unfold Machine.disciplineMark; dsimp only; split
  · exact ((h.replaceTime _).updateTime _).moveDiscipline _
  · exact h.acquireMark _ _
  · exact h.trackStateMark _ _
  · exact h.holdoverMark _ _
theorem Held.takeMark (r : Ref) (label : Nat) (h : Held s t) : Held s (takeMark r label t) := by
  have hsettled := fun f b => ((h.disciplineMark label).updateTime f).settleTime b
  unfold Machine.takeMark; dsimp only; split
  · split
    · exact ((hsettled _ _).updateRef _ _).boundary
    · exact (hsettled _ _).boundary
  · exact h
theorem Held.answerSelection (new : Option Ref) (h : Held s t) : Held s (answerSelection new t) := by
  unfold Machine.answerSelection; split
  · split
    · exact h.enterHoldover
    · exact h.enterUnset
  · exact h.updateTime _
  · exact h.enterHoldover
  · exact h
  · exact h
  · exact h
theorem Held.reselect (h : Held s t) : Held s (reselect t) := by
  unfold Machine.reselect; dsimp only; split
  · exact h
  · exact (((h.updateTime _).raise _).answerSelection _).settleTime _
theorem Held.giveMarkVerdict (r : Ref) (v : Verdict) (h : Held s t) : Held s (giveMarkVerdict r v t) := by
  unfold Machine.giveMarkVerdict validityChanged; dsimp only; split
  · exact h.updateRef _ _
  · exact ((h.updateRef _ _).raise _).reselect
theorem Held.markArrives (r : Ref) (h : Held s t) : Held s (markArrives r t) := by
  have hjudged := fun v => (h.updateRef r (marked t.tb)).giveMarkVerdict r v
  unfold Machine.markArrives; dsimp only; rw [recordMark_eq]; split
  · exact (hjudged _).takeMark _ _
  · exact hjudged _
theorem Held.unfitRef (r : Ref) (was : Bool) (h : Held s t) : Held s (unfitRef r was t) := by
  unfold Machine.unfitRef; dsimp only; split
  · split
    · exact (h.updateRef _ _).raise _
    · exact h.updateRef _ _
  · exact h
theorem Held.fitRef (r : Ref) (was : Bool) (h : Held s t) : Held s (fitRef r was t) := by
  unfold Machine.fitRef; split
  · exact h.updateRef _ _
  · exact h

/-! ### Site control -/

theorem Held.takeUp (c : SiteConfig) (a b : Bool) (h : Held s t) : Held s (takeUp c a b t) :=
  (((((h.updateZone _).updateRoster _).unfitRef _ _).unfitRef _ _).fitRef _ _).fitRef _ _
    |>.reselect.compareU.checkHigh.checkLow
theorem Held.loadFault (cause : LoadFault) (h : Held s t) : Held s (loadFault cause t) :=
  ((((h.updateControl _).raise _).setLatch _).changeEmission _).setLatch _
theorem Held.loadRecord (record : List Byte) (h : Held s t) : Held s (loadRecord record t) := by
  unfold Machine.loadRecord; split
  · exact (((h.raiseAll _).updateControl _).raise _).takeUp _ _ _
  · exact (h.raiseAll _).loadFault _
theorem Held.judgeLatch (l : Latch) (h : Held s t) : Held s (judgeLatch l t) := by
  unfold Machine.judgeLatch; split
  · exact h.quiet (.putLatch _ _ .refl)
  · exact h

/-! ### The zone line and the roster -/

theorem Held.joinSlot (k : AnnouncementKind) (h : Held s t) : Held s (joinSlot k t) := h.quiet (.joinSlot k .refl)
theorem Held.lineTransition (level : Bool) (h : Held s t) : Held s (lineTransition level t) := by
  have hdeferred : ∀ {u}, Held s u → Held s (deferAttempt u) := fun hu => by
    unfold deferAttempt; split
    · exact hu
    · dsimp only; split
      · exact ((hu.countZone _).updateZone _).joinSlot _
      · exact (hu.countZone _).updateZone _
  unfold Machine.lineTransition; split
  · exact h.updateZone _
  · dsimp only; split
    · exact hdeferred (h.updateZone _)
    · exact h.updateZone _
theorem Held.giveVerdict (d : Bool) (h : Held s t) : Held s (giveVerdict d t) := h.updateZone _
theorem Held.breakMessage (h : Held s t) : Held s (breakMessage t) := by
  unfold Machine.breakMessage; split
  · dsimp only; split
    · exact ((h.countZone _).updateZone _).giveVerdict _
    · exact (h.countZone _).updateZone _
  · exact h
  · exact h
theorem Held.discardMessage (echo : Bool) (h : Held s t) : Held s (discardMessage echo t) := by
  unfold Machine.discardMessage; split
  · exact h.giveVerdict _
  · exact h
theorem Held.beginAttempt (c : SiteConfig) (k : AnnouncementKind) (a : Attempt) (h : Held s t) :
    Held s (beginAttempt c k a t) := by
  unfold Machine.beginAttempt; exact (h.updateZone _).countZone _
theorem Held.retryKind (f : InFlight) (h : Held s t) : Held s (retryKind f t).2 := by
  unfold Machine.retryKind; split
  · dsimp only; exact h.countZone _
  · exact h
theorem Held.hearPeer (p : Peer) (a : Announcement) (id : Nat) (h : Held s t) : Held s (hearPeer p a id t) := by
  have hrefused : Quiet t (hearRefusal p.site a id t) := by
    unfold hearRefusal; split
    · exact .refl
    · split
      · exact .refl
      · split
        · exact (Quiet.refl.holdRecord _ _).refresh
        · unfold lateHold; split
          · exact .refl
          · exact ((Quiet.refl.raise _).updateRecord _ _).countAgree _
        · exact .refl
  exact h.quiet (hrefused.comparePeer _ _)
theorem Held.peerMessage (c : SiteConfig) (a : Announcement) (x : Time) (h : Held s t) : Held s (peerMessage c a x t) := by
  unfold Machine.peerMessage; split
  · exact h
  · refine Held.forEach (fun id _ _ => Held.hearPeer _ a id) _ (Held.updatePeer _ _ ?_)
    split
    · exact h.updatePeer _ _
    · exact (h.updatePeer _ _).raise _
theorem Held.duplicateHeard (x : Time) (h : Held s t) : Held s (duplicateHeard x t) := by
  unfold Machine.duplicateHeard; dsimp only; split
  · exact h.updateRoster _
  · exact ((((h.updateRoster _).updateRoster _).raise _).setLatch _).urgent.refresh
theorem Held.takeMessage (c : SiteConfig) (b : List Byte) (x : Time) (echo : Bool) (h : Held s t) :
    Held s (takeMessage c b x echo t) := by
  unfold Machine.takeMessage sortMessage; split
  · split
    · exact h.updateRoster _
    · split
      · split
        · exact h.updateRoster _
        · exact h.duplicateHeard _
      · split
        · exact h.peerMessage _ _ _
        · exact h.updateRoster _
  · exact h.updateRoster _
theorem Held.endMessage (c : SiteConfig) (b : List Byte) (x : Time) (echo : Bool) (h : Held s t) :
    Held s (endMessage c b x echo t) := by
  have hhunt := h.updateZone fun z => { z with receiver := .hunt }
  unfold Machine.endMessage; dsimp only; split
  · exact (hhunt.countZone _).discardMessage _
  · split
    · exact (hhunt.countZone _).discardMessage _
    · refine Held.takeMessage _ _ _ _ ?_
      split
      · exact (hhunt.countZone _).giveVerdict _
      · exact hhunt.countZone _

end Sys2Proof.Proofs
end

section
/-! The memories, the tables and the positions: what CELL_TAKEN may write, that no other command writes a slot, and that
every step keeps the bounds. -/

namespace Sys2Proof.Proofs

open Sys2Proof Sys2Proof.Machine Sys2Proof.Laws

variable {s t : State}

/-! ### Good cells -/

theorem handCell_writes (c : SiteConfig) (k : CellSort) (cell : Cell) (continuous : Bool) (s : State) {q : Nat} :
    Writes (spotSlot s) q s (handCell c k cell continuous s) := by
  cases k with
  | filler | programme => exact Held.refl.writes
  | cue => exact (Moves.cueTaken _ _ _ .refl).writes
  | segmentHead => exact (Quiet.segmentHead _ _ .refl).held.writes
  | segmentBody => exact segmentBody_writes _ _ _
  | misfit => unfold handCell; exact (Held.refl.countIntake _).writes

theorem outer_segmentBody (b : List Byte) (continuous : Bool) (s : State) :
    outer (segmentBody b continuous s) = outer s := by
  unfold segmentBody; split
  · rfl
  · dsimp only; split <;> rfl
  · split
    · dsimp only; split
      · exact (Quiet.completeSegment _ _ _ _ .refl).outer
      · rfl
    · exact (Quiet.endSegment .refl).outer

/-- A sorted cell reaches neither the emission controller nor feed intake, but for the count of misfits. -/
theorem handCell_outer (c : SiteConfig) (k : CellSort) (cell : Cell) (continuous : Bool) (s : State) :
    (handCell c k cell continuous s).em = s.em ∧ (handCell c k cell continuous s).intake
      = { s.intake with counters := { s.intake.counters with
          misfits := (handCell c k cell continuous s).intake.counters.misfits } } := by
  have houter : ∀ {u : State}, outer u = outer s → u.em = s.em ∧ u.intake = { s.intake with
      counters := { s.intake.counters with misfits := u.intake.counters.misfits } } := fun {u} hu => by
    have hi : u.intake = s.intake := congrArg Outer.intake hu
    rw [hi]; exact ⟨congrArg Outer.em hu, rfl⟩
  cases k with
  | filler | programme => exact ⟨rfl, rfl⟩
  | cue => exact houter (Moves.cueTaken c (cellBody cell) s.tb.now .refl).outer
  | segmentHead => exact houter (Quiet.segmentHead c (cellBody cell) .refl).outer
  | segmentBody => exact houter (outer_segmentBody _ _ _)
  | misfit => exact ⟨rfl, rfl⟩

theorem bodyCell_writes (c : SiteConfig) (cell : Cell) (continuous : Bool) (s : State) :
    Writes (spotSlot s) s.em.queue.nextFree s (bodyCell c cell continuous s) := by
  unfold bodyCell; split
  · exact (Held.refl.countIntake _).writes
  · next a _ =>
    have hplaced := placeCell_writes (p := spotSlot s) (sortCell c cell) cell a
      (handCell c (sortCell c cell) cell continuous s)
    rw [(handCell_outer c _ cell continuous s).1] at hplaced
    exact (handCell_writes c _ cell continuous s).trans hplaced

theorem frameSlot_of_parts (cell : Cell) (ha : t.intake.assembly = s.intake.assembly) (hm : t.em = s.em) :
    frameSlot cell t = frameSlot cell s := by
  unfold frameSlot; rw [endShort_nextFree, endShort_nextFree, ha, hm]

theorem runningCell_writes (c : SiteConfig) (cell : Cell) (continuous : Bool) (s : State) :
    Writes (spotSlot s) (frameSlot cell s) s (runningCell c cell continuous s) := by
  have hloaded : Writes (spotSlot s) (frameSlot cell s) s (loadLossTimer c s) := (Held.refl.loadLossTimer c).writes
  have hslot := frameSlot_of_parts (s := s) (t := loadLossTimer c s) cell rfl rfl
  refine hloaded.trans ?_
  rw [← hslot]
  unfold runningCell frameSlot; dsimp only; split
  · split
    · exact takeFrameHead_writes _ _ _ _
    · exact Held.refl.malformedHead.writes
  · exact bodyCell_writes c cell continuous (loadLossTimer c s)

theorem lostCell_writes (c : SiteConfig) (cell : Cell) (s : State) :
    Writes (spotSlot s) (frameSlot cell s) s (lostCell c cell s) := by
  unfold lostCell; dsimp only; split
  · next hhead =>
    split
    · unfold resumeFeed; dsimp only
      have hresumed : Held s { s with intake := { s.intake with feed := .running } } := .intake _ .refl
      have hloaded := fun n => (hresumed.loadLossTimer c).raise (.feedResume n)
      have hslot : frameSlot cell s = (endShort (raise (.feedResume (frameHeadOf (cellBody cell)).number)
          (loadLossTimer c { s with intake := { s.intake with feed := .running } }))).em.queue.nextFree := by
        unfold frameSlot
        rw [if_pos hhead, endShort_nextFree, endShort_nextFree]; rfl
      rw [hslot]
      exact (hloaded _).writes.trans (takeFrameHead_writes _ _ _ _)
    · exact Held.refl.malformedHead.outsideCell.writes
  · exact Held.refl.outsideCell.writes

theorem goodCell_writes (cell : Cell) (s : State) :
    Writes (spotSlot s) (frameSlot cell s) s (goodCell cell s) := by
  unfold goodCell; split
  · exact Held.refl.outsideCell.writes
  · have htracked : Writes (spotSlot s) (frameSlot cell s) s (trackContinuity cell s) :=
      (Held.refl.trackContinuity cell).writes
    have hslot := frameSlot_of_parts (s := s) (t := trackContinuity cell s) cell rfl rfl
    refine htracked.trans ?_
    rw [← hslot, show spotSlot s = spotSlot (trackContinuity cell s) from rfl]
    dsimp only; split
    · exact runningCell_writes _ _ _ _
    · exact lostCell_writes _ _ _

/-- CELL_TAKEN writes at most the next slot of the page in CAPTURE and the next free slot of the queue. -/
theorem cellTaken_writes {cell : Cell} (h : exec (.cellTaken cell) s = .next t) :
    Writes (spotSlot s) (frameSlot cell s) s t := by
  simp only [exec, execCellTaken] at h
  split at h
  · rw [next_inj h]
    have hreceived : Writes (spotSlot s) (frameSlot cell s) s (setReception none s) :=
      (Held.refl.setReception none).writes
    have hslot := frameSlot_of_parts (s := s) (t := setReception none s) cell rfl rfl
    split
    · refine hreceived.trans ?_
      rw [← hslot]; exact goodCell_writes cell (setReception none s)
    · exact ((Held.refl.setReception none).countIntake _).writes
  · cases h

/-! ### The other commands -/

/-- The commands that may write a slot or empty a memory. -/
def writesSlots : Instr → Bool
  | .powerOnReset | .restart | .cellTaken _ => true
  | _ => false

/-- No other command writes a slot, and each keeps the bounds. -/
theorem exec_held {c : Instr} (hc : writesSlots c = false) (h : exec c s = .next t) : Held s t := by
  cases c with
  | powerOnReset | restart | cellTaken cell => cases hc
  | loadStart =>
    rw [next_inj h]; split
    · exact .refl
    · unfold startRead; split
      · exact (Held.refl.updateControl _).updateControl _
      · exact Held.refl.updateControl _
  | configReadComplete record =>
    simp only [exec, execConfigReadComplete] at h
    split at h
    · rw [next_inj h]; split
      · exact Held.refl.loadRecord record
      · exact .refl
    · cases h
  | noRecord firstByte =>
    rw [next_inj h]; split
    · exact Held.refl.loadFault _
    · exact .refl
  | inhibitChange active =>
    have hraised := fun f => (Held.refl (s := s).updateControl f).raise (.siteLine .inhibit active)
    rw [next_inj h]; split
    · exact .refl
    · dsimp only; split
      · exact (hraised _).addCause _
      · exact (hraised _).removeCause _
  | overrideChange active =>
    have hraised := fun f => ((Held.refl (s := s).updateControl f).raise (.siteLine .override active)).refresh.urgent
    rw [next_inj h]; split
    · exact .refl
    · dsimp only; split
      · exact (hraised _).quiet (.overrideChannels .refl)
      · exact hraised _
  | latchClear =>
    rw [next_inj h]; split
    · exact .refl
    · exact .forEach (fun l _ _ => Held.judgeLatch l) _ (Held.refl.updateControl _)
  | latchClearRelease =>
    rw [next_inj h]; split
    · exact Held.refl.updateControl _
    · exact .refl
  | labelRecord r record =>
    simp only [exec, execLabelRecord] at h
    split at h
    · rw [next_inj h]; split
      · exact Held.refl.updateRef _ _
      · exact .refl
    · cases h
  | markArrival r =>
    rw [next_inj h]; split
    · exact Held.refl.markArrives r
    · exact .refl
  | missingVerdict r =>
    rw [next_inj h]; split
    · exact (Held.refl.updateRef _ _).giveMarkVerdict _ _
    · exact .refl
  | secondBoundary => rw [next_inj h]; exact Held.refl.boundary
  | reportSpanExpiry =>
    rw [next_inj h]; split
    · exact Held.refl.quiet (.formReport .refl)
    · exact .refl
  | runtCell => rw [next_inj h]; exact (Held.refl.countIntake _).setReception _
  | feedLoss =>
    rw [next_inj h]; split
    · exact Held.refl.loseFeed
    · exact .refl
  | assemblingLate =>
    rw [next_inj h]; split
    · exact (Held.refl.discardAssembling _ _).judgePassPoint
    · exact .refl
  | frameRelease =>
    rw [next_inj h]; split
    · exact Held.refl.releaseFrame _
    · exact .refl
  | cellInstant =>
    rw [next_inj h]; split
    · exact (Held.refl.paceCell _ _).advanceInstant _
    · exact .refl
  | fillerInstant =>
    rw [next_inj h]; split
    · refine Held.advanceInstant _ ?_
      split
      · exact .refl
      · exact Held.refl.outputFiller
    · exact .refl
  | starveExpiry =>
    rw [next_inj h]; split
    · exact ((Held.controls _ .refl).countEm _).addCause _
    · exact .refl
  | checkComplete =>
    rw [next_inj h]; split
    · exact Held.refl.quiet (.finishCheck _ .refl)
    · exact .refl
  | decisionInstant =>
    rw [next_inj h]; split
    · exact Held.refl.quiet (.decideRecord _ .refl)
    · exact .refl
  | lockInstant id =>
    rw [next_inj h]; split
    · split
      · exact Held.refl.quiet (.lockGo _ .refl)
      · exact Held.refl.quiet (.lockHold _ .refl)
    · exact .refl
  | endInstant id =>
    rw [next_inj h]; split
    · split
      · exact Held.refl.quiet (.endPlay _ .refl)
      · exact Held.refl.quiet ((Quiet.refl.channelMove _ _ _).settleRemoval _)
    · exact .refl
  | removalInstant id =>
    rw [next_inj h]; split
    · exact Held.refl.quiet (.removeRecord _ .refl)
    · exact .refl
  | watchOpen id =>
    rw [next_inj h]; split
    · split
      · exact Held.refl.quiet (.updateRecord _ _ .refl)
      · exact Held.refl.quiet ((Quiet.refl.updateRecord _ _).compareAll _)
    · exact .refl
  | watchClose id =>
    rw [next_inj h]; split
    · exact Held.refl.quiet (.updateRecord _ _ .refl)
    · exact .refl
  | attemptStart =>
    rw [next_inj h]; split
    · exact Held.refl.beginAttempt _ _ _
    · exact .refl
  | deferral level =>
    rw [next_inj h]; split
    · exact Held.refl.lineTransition _
    · exact .refl
  | echoWindowOpen =>
    rw [next_inj h]; split
    · exact Held.refl.updateZone _
    · exact .refl
  | echoWindowClose =>
    rw [next_inj h]; split
    · dsimp only; split
      · exact Held.refl.updateZone _
      · exact (Held.refl.updateZone _).giveVerdict _
    · exact .refl
  | attemptEnd =>
    rw [next_inj h]; split
    · exact (Held.refl.updateZone _).countZone _
    · split
      · exact (Held.refl.updateZone _).countZone _
      · exact ((Held.refl.updateZone _).countZone _).raise _
    · exact .refl
  | retryStart =>
    rw [next_inj h]; split
    · exact ((Held.refl.retryKind _).countZone _).beginAttempt _ _ _
    · exact .refl
  | lineIdle =>
    rw [next_inj h]; split
    · exact (Held.refl.updateZone _).breakMessage
    · exact .refl
  | periodicDue =>
    rw [next_inj h]; split
    · exact (Held.refl.joinSlot _).updateZone _
    · exact .refl
  | zoneMessage bytes =>
    simp only [exec, execZoneMessage] at h
    split at h
    · rw [next_inj h]; split
      · exact Held.refl.endMessage _ _ _ _
      · exact .refl
    · cases h
  | messageBroken => rw [next_inj h]; exact Held.refl.breakMessage
  | silenceTimerExpiry site =>
    rw [next_inj h]; split
    · exact (Held.refl.updatePeer _ _).raise _
    · exact .refl
  | monitorRecordEnd =>
    rw [next_inj h]; split
    · have hsent := startRecord_queue_length s.osc { s.mon with sending := none }
      exact ⟨rfl, rfl, rfl, fun hc => { hc with
        events := hsent.trans hc.events
        eventSeq := (startRecord_eventSeq _ _).trans_lt hc.eventSeq
        reportSeq := (startRecord_reportSeq _ _).trans_lt hc.reportSeq }⟩
    · exact .refl
  | lineBusy level =>
    rw [next_inj h]; split
    · exact .refl
    · exact Held.refl.lineTransition _
  | openingMark high =>
    have hlow : Held s (if s.zone.rxLevel then lineTransition false s else s) := by
      split
      · exact Held.refl.lineTransition _
      · exact .refl
    have hopened : ∀ {u}, Held s u → Held s (if isOpeningMark high = true ∧ u.zone.receiver ≠ .off
        then enterMessage (u.tb.now - high) (breakMessage u) else u) := fun hu => by
      split
      · unfold enterMessage; exact hu.breakMessage.updateZone _
      · exact hu
    rw [next_inj h]; exact hopened hlow
  | transferEnd =>
    rw [next_inj h]; split
    · exact Held.refl.controls _
    · exact .refl

/-! ### RESTART -/

theorem restartStore_quiet (s : State) : Quiet s (restartStore s) := .restartStore .refl

theorem restartBlocks_slots (s : State) : (restartBlocks s).em.queue.slots = [] := by
  have hkept := (restartStore_quiet (blanked s)).slots
  rw [restartBlocks_eq]
  generalize restartStore (blanked s) = u at hkept ⊢
  exact hkept

theorem restartBlocks_memory (s : State) : (restartBlocks s).store.memory = s.store.memory := by
  have hkept := (restartStore_quiet (blanked s)).memory
  rw [restartBlocks_eq]
  generalize restartStore (blanked s) = u at hkept ⊢
  exact hkept

theorem restartBlocks_capacity (h : CapacityLaw s) : CapacityLaw (restartBlocks s) := by
  have hblanked : CapacityLaw (blanked s) :=
    { h with
      frames := capacityLaw_reset.frames, occupancy := capacityLaw_reset.occupancy
      nextFree := capacityLaw_reset.nextFree, oldest := capacityLaw_reset.oldest
      firstSlots := fun r hr => absurd hr List.not_mem_nil
      continuity := capacityLaw_reset.continuity, channels := capacityLaw_reset.channels }
  have hstore := (restartStore_quiet (blanked s)).capacity hblanked
  rw [restartBlocks_eq]
  generalize restartStore (blanked s) = u at hstore ⊢
  exact { hstore with
    events := capacityLaw_reset.events, eventSeq := capacityLaw_reset.eventSeq
    reportSeq := capacityLaw_reset.reportSeq }

/-- A RESTART that is taken as one empties every block; any other leaves all but the line. -/
theorem exec_restart_cases (h : exec .restart s = .next t) :
    ((s.sc.restartLine = false ∧ s.sc.restartTaken = true ∧ s.sc.restartSince + 100000 ≤ s.osc)
        ∧ ∃ f, t = restartBlocks (updateControl f s))
      ∨ ¬(s.sc.restartLine = false ∧ s.sc.restartTaken = true ∧ s.sc.restartSince + 100000 ≤ s.osc) ∧ Held s t := by
  rw [next_inj h]
  split
  · next hidle =>
    refine .inr ⟨fun ⟨hline, _, hsince⟩ => ?_, .refl⟩
    rcases hidle with hline' | hsince'
    · simp [hline] at hline'
    · exact absurd hsince (of_decide_eq_false hsince')
  · next hactive =>
    obtain ⟨hline, hsettled⟩ := not_or.1 hactive
    dsimp only; split
    · next hfirst => exact .inr ⟨fun ⟨_, htaken, _⟩ => by simp [htaken] at hfirst, Held.refl.updateControl _⟩
    · next hlater =>
      exact .inl ⟨⟨by simpa using hline, by simpa using hlater, by simpa [lineSettled] using hsettled⟩, _, rfl⟩

/-! ### The two statements -/

/-- Settles O22: only CELL_TAKEN stores a cell or a body, and RESTART and POWER_ON_RESET alone empty a memory. -/
theorem onlyCellTakenWritesTheMemories : Obligations.OnlyCellTakenWritesTheMemories := by
  unfold Obligations.OnlyCellTakenWritesTheMemories
  intro c s t h hreset
  have hpowerOn : ∀ u, exec .powerOnReset s = .next u → u.store.memory = [] ∧ u.em.queue.slots = [] := fun u hu => by
    rw [next_inj hu]; exact ⟨rfl, rfl⟩
  cases hc : writesSlots c with
  | false =>
    have hheld := exec_held hc h
    refine ⟨fun _ => ⟨hheld.memory, fun _ => hheld.slots⟩, fun cell he => ?_, fun he => ?_, hpowerOn⟩
    · subst he; cases hc
    · subst he; cases hc
  | true =>
    cases c with
    | powerOnReset => exact absurd rfl hreset
    | cellTaken cell =>
      refine ⟨fun hother => absurd rfl (hother cell), fun cell' he => ?_, (nomatch ·), hpowerOn⟩
      cases he
      have hwritten := cellTaken_writes h
      exact ⟨hwritten.memory, hwritten.slots⟩
    | restart =>
      refine ⟨fun _ => ⟨?_, fun hother => absurd rfl hother⟩, fun _ => (nomatch ·), fun _ => ?_, hpowerOn⟩
      · rcases exec_restart_cases h with ⟨-, f, rfl⟩ | ⟨-, hheld⟩
        · exact restartBlocks_memory _
        · exact hheld.memory
      · rcases exec_restart_cases h with ⟨htaken, f, rfl⟩ | ⟨hnot, hheld⟩
        · rw [if_pos htaken]; exact restartBlocks_slots _
        · rw [if_neg hnot]; exact hheld.slots
    | _ => cases hc

/-- A command keeps both laws: it resets the machine, restarts its blocks, stores what a cell carries, or writes no
slot. -/
theorem exec_keepsMemories {c : Instr} (h : exec c s = .next t) :
    (MemoryLaw s → MemoryLaw t) ∧ (CapacityLaw s → CapacityLaw t) := by
  have hheld : Held s t → (MemoryLaw s → MemoryLaw t) ∧ (CapacityLaw s → CapacityLaw t) := fun hh =>
    have hw : Writes none 0 s t := hh.writes
    ⟨hw.canonical, hw.capacity⟩
  cases hc : writesSlots c with
  | false => exact hheld (exec_held hc h)
  | true =>
    cases c with
    | powerOnReset => rw [next_inj h]; exact ⟨fun _ => memoryLaw_reset, fun _ => { capacityLaw_reset with }⟩
    | cellTaken cell =>
      have hwritten := cellTaken_writes h
      exact ⟨hwritten.canonical, hwritten.capacity⟩
    | restart =>
      rcases exec_restart_cases h with ⟨-, f, rfl⟩ | ⟨-, hh⟩
      · refine ⟨fun hm => ⟨?_, ?_⟩, fun hcap => restartBlocks_capacity { hcap with }⟩
        · rw [restartBlocks_slots]; rfl
        · rw [restartBlocks_memory]; exact hm.2
      · exact hheld hh
    | _ => cases hc

/-- Settles O58: a step is a command, run with the queue's rest or after a free choice, or a TU of the oscillator. -/
theorem memoriesAndCapacitiesAreKept : Obligations.MemoriesAndCapacitiesAreKept := by
  unfold Obligations.MemoriesAndCapacitiesAreKept
  have hstep : ∀ {s t : State}, step s = .next t →
      (MemoryLaw s → MemoryLaw t) ∧ (CapacityLaw s → CapacityLaw t) := fun {s t} h => by
    unfold step at h; split at h
    · have hkept := exec_keepsMemories h
      exact ⟨fun hm => hkept.1 hm, fun hcap => hkept.2 { hcap with }⟩
    · unfold idle at h; split at h
      · have hkept := exec_keepsMemories h
        exact ⟨fun hm => hkept.1 hm, fun hcap => hkept.2 { hcap with }⟩
      · rw [next_inj h]
        have hticked : Writes none 0 s (tick s) := Held.refl.tick.writes
        exact ⟨hticked.canonical, hticked.capacity⟩
  exact ⟨fun s t hs h => (hstep h).1 hs, fun s t hs h => (hstep h).2 hs⟩

end Sys2Proof.Proofs
end

section
/-! Cells at the framing level, and the loss of the feed: what a good cell makes of feed intake. -/

namespace Sys2Proof.Proofs

open Sys2Proof Sys2Proof.Machine Sys2Proof.Laws

variable {s t : State} {c : SiteConfig} {cell : Cell}

/-! ### A good cell as it comes to be sorted -/

/-- The state in which a good cell is sorted: the reception is over and the expectation of its tag has moved on. -/
def tracked (cell : Cell) (s : State) : State := trackContinuity cell (setReception none s)

theorem exec_whole (hsize : cell.length = 240) (s : State) : exec (.cellTaken cell) s
    = .next (if cell.head? = some 0xB8 then goodCell cell (setReception none s)
      else framingError (setReception none s)) :=
  if_pos (beq_iff_eq.2 hsize)

theorem exec_good (hsize : cell.length = 240) (hsync : cell.head? = some 0xB8) (s : State) :
    exec (.cellTaken cell) s = .next (goodCell cell (setReception none s)) := by
  rw [exec_whole hsize, if_pos hsync]

theorem validConfig_valid (hvalid : s.sc.config = .valid) : s.validConfig = s.sc.inUse := by
  simp [State.validConfig, State.isValid, hvalid]

theorem goodCell_running (hvalid : s.sc.config = .valid) (huse : s.sc.inUse = some c) (hfeed : s.intake.feed = .running) :
    goodCell cell (setReception none s) = runningCell c cell (isContinuous cell s) (tracked cell s) := by
  unfold goodCell
  rw [show (setReception none s).validConfig = some c from (validConfig_valid hvalid).trans huse]
  dsimp only
  rw [show (trackContinuity cell (setReception none s)).intake.feed = .running from hfeed]
  rfl

theorem goodCell_lost (hvalid : s.sc.config = .valid) (huse : s.sc.inUse = some c) (hfeed : s.intake.feed = .lost) :
    goodCell cell (setReception none s) = lostCell c cell (tracked cell s) := by
  unfold goodCell
  rw [show (setReception none s).validConfig = some c from (validConfig_valid hvalid).trans huse]
  dsimp only
  rw [show (trackContinuity cell (setReception none s)).intake.feed = .lost from hfeed]
  rfl

theorem exec_runningCell (h : RunningCell c cell s) : exec (.cellTaken cell) s
    = .next (runningCell c cell (isContinuous cell s) (tracked cell s)) := by
  rw [exec_good h.size h.sync, goodCell_running h.valid h.inUse h.running]

theorem exec_lostCell (hsize : cell.length = 240) (hsync : cell.head? = some 0xB8) (hvalid : s.sc.config = .valid)
    (huse : s.sc.inUse = some c) (hfeed : s.intake.feed = .lost) :
    exec (.cellTaken cell) s = .next (lostCell c cell (tracked cell s)) := by
  rw [exec_good hsize hsync, goodCell_lost hvalid huse hfeed]

/-! ### Continuity (R27) -/

/-- What happens to a good cell once it is tracked leaves the expectations and their counters alone. -/
theorem continuity_of_feedPart {i j : Intake} (h : feedPart i = feedPart j) : i.continuity = j.continuity :=
  show (feedPart i).continuity = (feedPart j).continuity by rw [h]

theorem continuity_handCell (c : SiteConfig) (k : CellSort) (cell : Cell) (continuous : Bool) (s : State) :
    (handCell c k cell continuous s).intake.continuity = s.intake.continuity := by
  rw [(handCell_outer c k cell continuous s).2]

theorem continuity_runningCell (c : SiteConfig) (cell : Cell) (continuous : Bool) (s : State) :
    (runningCell c cell continuous s).intake.continuity = s.intake.continuity := by
  unfold runningCell; dsimp only; split
  · split
    · exact (continuity_of_feedPart (feedPart_takeFrameHead _ _ _ _)).trans rfl
    · exact (continuity_of_feedPart (feedPart_malformedHead _)).trans rfl
  · unfold bodyCell; split
    · rfl
    · exact (continuity_of_feedPart (feedPart_placeCell _ _ _ _)).trans (continuity_handCell _ _ _ _ _)

theorem continuity_lostCell (c : SiteConfig) (cell : Cell) (s : State) :
    (lostCell c cell s).intake.continuity = s.intake.continuity := by
  unfold lostCell; dsimp only; split
  · split
    · unfold resumeFeed; exact (continuity_of_feedPart (feedPart_takeFrameHead _ _ _ _)).trans rfl
    · exact continuity_of_feedPart (feedPart_malformedHead _)
  · rfl

theorem tracked_continuity (cell : Cell) (s : State) : (tracked cell s).intake.continuity
    = s.intake.continuity.modify (cellTag cell) fun k =>
      ⟨some ((cellCount cell + 1) % 16), if isContinuous cell s then k.breaks else bump k.breaks⟩ := by
  have hstep : (fun k : Continuity =>
      if isContinuous cell s then { k with expect := some ((cellCount cell + 1) % 16) }
      else ⟨some ((cellCount cell + 1) % 16), bump k.breaks⟩)
      = fun k => ⟨some ((cellCount cell + 1) % 16), if isContinuous cell s then k.breaks else bump k.breaks⟩ := by
    funext k; split <;> rfl
  rw [← hstep]; rfl

theorem isContinuous_iff {k : Continuity} (hk : s.intake.continuity[cellTag cell]? = some k) :
    isContinuous cell s = true ↔ k.expect = none ∨ k.expect = some (cellCount cell) := by
  unfold isContinuous
  rw [List.getD_eq_getElem?_getD, hk]
  cases hx : k.expect <;> simp [hx]

/-- Settles O13: the branches of CELL_TAKEN down to the sorting of a cell; what comes after leaves continuity alone. -/
theorem cellsAreFramedCountedAndTracked : Obligations.CellsAreFramedCountedAndTracked := by
  unfold Obligations.CellsAreFramedCountedAndTracked
  refine ⟨fun s => rfl, fun cell s hsize hsync => ?_, fun cell s hsize hsync hconfig => ?_,
    fun c cell s hsize hsync hvalid huse hfeed hhead => ?_, fun c cell s hgood hhead hnone => ?_,
    fun c cell s t hsize hsync hvalid huse hexec => ?_⟩
  · rw [exec_whole hsize, if_neg hsync]; rfl
  · rw [exec_good hsize hsync]
    unfold goodCell
    rw [show (setReception none s).validConfig = none from validConfig_invalid hconfig]
    rfl
  · refine ⟨_, exec_lostCell hsize hsync hvalid huse hfeed, ?_⟩
    unfold lostCell; dsimp only; rw [hhead]
    exact ⟨rfl, rfl⟩
  · refine ⟨_, exec_runningCell hgood, ?_⟩
    have hempty : (loadLossTimer c (tracked cell s)).intake.assembly = none := hnone
    unfold runningCell bodyCell; dsimp only; rw [hhead, hempty]
    exact ⟨rfl, rfl⟩
  · have hcontinuity : t.intake.continuity = (tracked cell s).intake.continuity := by
      rw [exec_good hsize hsync] at hexec
      rw [next_inj hexec]
      cases hfeed : s.intake.feed with
      | running => rw [goodCell_running hvalid huse hfeed]; exact continuity_runningCell _ _ _ _
      | lost => rw [goodCell_lost hvalid huse hfeed]; exact continuity_lostCell _ _ _
    rw [hcontinuity, tracked_continuity]
    refine ⟨fun k hk => ?_, fun i hi => ?_⟩
    · have hbreak := isContinuous_iff hk
      rw [List.getElem?_modify_eq, hk]
      by_cases hcont : isContinuous cell s = true
      · rw [if_pos (hbreak.1 hcont)]; simp [hcont]
      · rw [if_neg (hbreak.not.1 hcont)]; simp [hcont]; rfl
    · exact List.getElem?_modify_ne _ _ hi.symm

/-! ### Site time and the roster, which intake leaves alone -/

/-- Site time and the peer roster. -/
def beside (s : State) : TimeBase × PeerRoster := (s.tb, s.ros)

theorem beside_of_calm (h : calm s = calm t) : beside s = beside t :=
  Prod.ext (tb_of_calm h) (congrArg Still.ros (still_of_calm h))

theorem beside_of_aside (h : aside s = aside t) : beside s = beside t :=
  Prod.ext (show (aside s).tb = (aside t).tb by rw [h]) (show (aside s).ros = (aside t).ros by rw [h])

@[simp] theorem beside_judgePassPoint (s : State) : beside (judgePassPoint s) = beside s :=
  beside_of_calm (calm_judgePassPoint s)

@[simp] theorem aside_shortRecord (n : Nat) (s : State) : aside (shortRecord n s) = aside s := by
  unfold shortRecord; split
  · rfl
  · split <;> simp

@[simp] theorem beside_endShort (s : State) : beside (endShort s) = beside s := by
  unfold endShort; split
  · rfl
  · rw [beside_judgePassPoint]
    split
    · rfl
    · exact beside_of_aside (aside_shortRecord _ s)

/-! ### The loss of the feed (R25) -/

/-- What the end of a segment leaves: all but the store and the event queue. -/
theorem endSegment_parts (s : State) : outer (endSegment s) = outer s ∧ (endSegment s).store.assembler = .idle
    ∧ (endSegment s).store.memory = s.store.memory :=
  have hended : Quiet s (endSegment s) := .endSegment .refl
  ⟨hended.outer, rfl, hended.memory⟩

/-- The end of a frame as SHORT, or none to end, leaves feed intake but for the frame and its count (R34). -/
theorem endShort_intake (s : State) : (endShort s).intake = { s.intake with
    assembly := none, counters := { s.intake.counters with short := (endShort s).intake.counters.short } } := by
  have hnone := endShort_assembly s
  have hrest : { shortless (endShort s).intake with
        counters := { (shortless (endShort s).intake).counters with short := (endShort s).intake.counters.short } }
      = { shortless s.intake with
        counters := { (shortless s.intake).counters with short := (endShort s).intake.counters.short } } := by
    rw [shortless_endShort]
  generalize (endShort s).intake = i at hnone hrest ⊢
  cases i; cases hnone; exact hrest

/-- Settles O15: the frame in assembly ends, then the expectations, then the segment; the loss is counted last. -/
theorem feedLossEndsTheFrameAndTheSegment : Obligations.FeedLossEndsTheFrameAndTheSegment := by
  unfold Obligations.FeedLossEndsTheFrameAndTheSegment
  intro s hdue
  refine ⟨loseFeed s, congrArg Host.Outcome.next (if_pos hdue), ?_⟩
  unfold loseFeed; dsimp only
  have hstopped : Held s { s with intake := { s.intake with feed := .lost, lossTimer := none } } := .intake _ .refl
  have hended := endShort_intake { s with intake := { s.intake with feed := .lost, lossTimer := none } }
  have hbeside := beside_endShort { s with intake := { s.intake with feed := .lost, lossTimer := none } }
  have hmemory := hstopped.endShort.memory
  generalize endShort { s with intake := { s.intake with feed := .lost, lossTimer := none } } = u at *
  obtain ⟨houter, hidle, hkept⟩ := endSegment_parts (dropExpectations u)
  have hdropped : (dropExpectations u).intake
      = { u.intake with continuity := u.intake.continuity.map fun k => { k with expect := none } } := rfl
  rw [hended] at hdropped
  generalize endSegment (dropExpectations u) = v at *
  have hintake := (congrArg Outer.intake houter).trans hdropped
  have hcounted : ∀ e f, (countIntake f (raise e v)).intake = { v.intake with counters := f v.intake.counters } :=
    fun _ _ => rfl
  rw [hcounted, show v.intake = _ from hintake]
  exact ⟨rfl, rfl, rfl, rfl, rfl, rfl, rfl, hidle, hkept.trans hmemory,
    (tb_of_outer houter).trans (congrArg Prod.fst hbeside),
    (congrArg Outer.ros houter).trans (congrArg Prod.snd hbeside)⟩

end Sys2Proof.Proofs
end

section
/-! Segment bodies within a frame, and the frame cells that are not the last of their frame. -/

namespace Sys2Proof.Proofs

open Sys2Proof Sys2Proof.Machine Sys2Proof.Laws

variable {s t : State} {c : SiteConfig} {cell : Cell} {a : Assembly}

/-! ### A frame cell -/

/-- The state in which a good cell taken while RUNNING is sorted: it is tracked and the feed-loss timer is loaded. -/
def received (c : SiteConfig) (cell : Cell) (s : State) : State := loadLossTimer c (tracked cell s)

theorem exec_frameCell (h : RunningCell c cell s) (hhead : isFrameHead cell = false) (ha : s.intake.assembly = some a) :
    exec (.cellTaken cell) s = .next (placeCell (sortCell c cell) cell a
      (handCell c (sortCell c cell) cell (isContinuous cell s) (received c cell s))) := by
  rw [exec_runningCell h]
  unfold runningCell bodyCell; dsimp only
  rw [hhead, show (loadLossTimer c (tracked cell s)).intake.assembly = some a from ha]
  rfl

/-- The frame in assembly with one more cell counted and stored, if it has a record (R36, R42). -/
def placed (k : CellSort) (cell : Cell) (record : Option Nat) (s : State) : State :=
  match record with
  | none => s
  | some n => storeFrameCell n (standsAs k cell) (updateFrame n (countCell k cell) s)

theorem placeCell_more (hmore : 2 ≤ a.remaining) (k : CellSort) (cell : Cell) (s : State) : placeCell k cell a s
    = setAssembly (some { a with remaining := a.remaining - 1 }) (placed k cell a.record s) := if_neg (by omega)

theorem placeCell_last (hlast : a.remaining ≤ 1) (k : CellSort) (cell : Cell) (s : State) : placeCell k cell a s
    = completeFrame a.record (placed k cell a.record s) := if_pos hlast

theorem aside_placed (k : CellSort) (cell : Cell) (record : Option Nat) (s : State) :
    aside (placed k cell record s) = aside s := by
  unfold placed; split
  · rfl
  · rw [aside_storeFrameCell, aside_updateFrame]

/-! ### Segment bodies -/

theorem sortCell_segmentBody (htag : cellTag cell = c.assetTag) (hkind : cellKind cell = .segmentBody) :
    sortCell c cell = .segmentBody := by
  unfold sortCell; rw [hkind]; exact if_pos htag

theorem not_frameHead_of_kind (hkind : cellKind cell ≠ .frameHead) : isFrameHead cell = false := by
  unfold isFrameHead; rw [Bool.and_eq_false_iff]; exact .inr (beq_false_of_ne hkind)

/-- A segment body within a frame is handed to the spot store and takes its place in the frame, which leaves the store,
site time, the roster and the cues as the body left them. -/
theorem exec_segmentBody (h : FrameCell c cell c.assetTag .segmentBody a s) {x : SpotStore}
    (hbody : segmentBody (cellBody cell) (isContinuous cell s) (received c cell s)
      = { received c cell s with store := x }) :
    ∃ t, exec (.cellTaken cell) s = .next t
      ∧ (t.intake.assembly = some { a with remaining := a.remaining - 1 } ∧ t.tb = s.tb ∧ t.ros = s.ros
        ∧ t.cues = s.cues) ∧ t.store = x := by
  have hhead : isFrameHead cell = false := not_frameHead_of_kind (by rw [h.ofKind]; exact CellKind.noConfusion)
  refine ⟨_, exec_frameCell h.good hhead h.assembly, ?_⟩
  rw [sortCell_segmentBody h.onTag h.ofKind, placeCell_more h.more]
  have haside := aside_placed .segmentBody cell a.record
    (handCell c .segmentBody cell (isContinuous cell s) (received c cell s))
  rw [show handCell c .segmentBody cell (isContinuous cell s) (received c cell s) = _ from hbody] at haside ⊢
  generalize placed _ _ _ _ = u at haside ⊢
  have hpart : ∀ {β : Type} (f : State → β), f (aside u) = f (aside { received c cell s with store := x }) :=
    fun f => congrArg f haside
  exact ⟨⟨rfl, hpart State.tb, hpart State.ros, hpart State.cues⟩, hpart State.store⟩

/-- Settles O21, by what the assembler is doing. -/
theorem capturedBodyIsWrittenToItsSlot : Obligations.CapturedBodyIsWrittenToItsSlot := by
  unfold Obligations.CapturedBodyIsWrittenToItsSlot
  refine ⟨fun c cell a g page running check s h hcapture => ⟨fun hcont hmore => ?_, fun hbreak => ?_⟩,
    fun c cell a g s h hskip => ?_, fun c cell a s h hidle => ?_⟩
  · have hbody : segmentBody (cellBody cell) (isContinuous cell s) (received c cell s)
        = { received c cell s with store := { s.store with
          memory := memWrite s.store.memory (page * 256 + g.received)
            ⟨cellBody cell, Config.slotCheck (cellBody cell)⟩
          assembler := .capture { g with received := g.received + 1 } page (crc32Run running (cellBody cell)) check } } := by
      unfold segmentBody
      rw [show (received c cell s).store.assembler = _ from hcapture, hcont]
      exact if_neg (show g.received + 1 ≠ g.expected by omega)
    obtain ⟨t, hexec, hplaces, hstore⟩ := exec_segmentBody h hbody
    refine ⟨t, hexec, hplaces, ?_⟩
    rw [hstore]
    exact ⟨memRead_memWrite_same _ _ _, fun y hy => memRead_memWrite_other _ _ _ _ hy, rfl⟩
  · refine exec_segmentBody h ?_
    unfold segmentBody
    rw [show (received c cell s).store.assembler = _ from hcapture, hbreak]
    dsimp only
    unfold endSegment dropCapture
    rw [show (received c cell s).store.assembler = _ from hcapture]
    rfl
  · refine exec_segmentBody h ?_
    unfold segmentBody
    rw [show (received c cell s).store.assembler = _ from hskip]
    dsimp only
    split <;> rfl
  · refine exec_segmentBody h ?_
    unfold segmentBody
    rw [show (received c cell s).store.assembler = _ from hidle]
    rfl

end Sys2Proof.Proofs
end

section
/-! A frame head that is accepted. -/

namespace Sys2Proof.Proofs

open Sys2Proof Sys2Proof.Machine Sys2Proof.Laws

variable {s t : State} {c : SiteConfig} {cell : Cell} {n : Nat} {r : FrameRecord}

/-! ### A stored cell (R42, R46, R47) -/

theorem storeCell_em (cell : Cell) (s : State) : (storeCell cell s).em = { s.em with queue := { s.em.queue with
    slots := memWrite s.em.queue.slots s.em.queue.nextFree cell
    nextFree := (s.em.queue.nextFree + 1) % 65536
    occupancy := s.em.queue.occupancy + 1
    high := s.em.queue.high
      || decide (s.setting SiteConfig.almostFull 57344 ≤ s.em.queue.occupancy + 1) } } := by
  unfold storeCell; dsimp only; rw [checkHigh_em]; rfl

/-- The rise of the high flag is reported (R47). -/
theorem checkHigh_mon (s : State) : (checkHigh s).mon
    = if s.em.queue.high = false ∧ s.setting SiteConfig.almostFull 57344 ≤ s.em.queue.occupancy
      then (raise (.queueHigh s.em.queue.occupancy) s).mon else s.mon := by
  unfold checkHigh
  simp only [Bool.and_eq_true, Bool.not_eq_true', decide_eq_true_eq]
  split <;> rfl

theorem storeCell_mon (cell : Cell) (s : State) : (storeCell cell s).mon
    = if s.em.queue.high = false ∧ s.setting SiteConfig.almostFull 57344 ≤ s.em.queue.occupancy + 1
      then (raise (.queueHigh (s.em.queue.occupancy + 1)) s).mon else s.mon := by
  unfold storeCell; dsimp only; rw [checkHigh_mon]; rfl

/-- The record of a stored cell, which takes up the slot as its first if it holds none (R42). -/
def FrameRecord.stored (slot : Nat) (r : FrameRecord) : FrameRecord :=
  { r with slotsHeld := r.slotsHeld + 1, firstSlot := some (r.firstSlot.getD slot) }

theorem storeFrameCell_room (hr : s.frame? n = some r) (hstate : r.state = .assembling)
    (hroom : s.em.queue.occupancy < 65536) (cell : Cell) :
    storeFrameCell n cell s = updateFrame n (FrameRecord.stored s.em.queue.nextFree) (storeCell cell s) := by
  unfold storeFrameCell; rw [hr]; dsimp only
  rw [if_neg (not_not.2 hstate)]
  exact if_pos hroom

/-! ### The frame table with a new record -/

theorem frame?_none_of_forall (h : ∀ r ∈ s.em.table, r.number ≠ n) : s.frame? n = none :=
  List.find?_eq_none.2 fun r hr => by simpa using h r hr

theorem frame?_joinTable (h : s.frame? r.number = none) : (joinTable r s).frame? r.number = some r := by
  show (s.em.table ++ [r]).find? _ = _
  rw [List.find?_append, show s.em.table.find? _ = none from h]
  simp

/-- An update of the number that has just joined reaches the new record alone. -/
theorem updateWhere_joined {l : List FrameRecord} (h : ∀ x ∈ l, x.number ≠ r.number) (f : FrameRecord → FrameRecord) :
    updateWhere (fun x => x.number == r.number) f (l ++ [r]) = l ++ [f r] := by
  have hold : updateWhere (fun x => x.number == r.number) f l = l :=
    (List.map_congr_left fun x hx => if_neg (by simpa using h x hx)).trans (List.map_id' l)
  unfold updateWhere at hold ⊢
  rw [List.map_append, hold]; simp

theorem updateFrame_joinTable (h : ∀ x ∈ s.em.table, x.number ≠ r.number) (f : FrameRecord → FrameRecord) :
    updateFrame r.number f (joinTable r s) = joinTable (f r) s := by
  unfold updateFrame joinTable; dsimp only; rw [updateWhere_joined h]

/-! ### The judgement of a head (R40) -/

theorem judgeHead_accepted {h : FrameHead} {times : FrameTimes} (hunset : s.tb.disc ≠ .unset)
    (hroom : s.em.table.length < 64) (hnew : s.frame? h.number = none) (hacquire : s.tb.disc ≠ .acquire)
    (hlate : c.lmin ≤ times.lead) (hearly : times.lead ≤ c.lmax)
    (horder : ∀ last, s.intake.lastAccepted = some last → last < times.q) : judgeHead c h times s = .accepted := by
  have hinOrder : outOfOrder times.q s = false := by
    unfold outOfOrder; split
    · next last hlast => simpa using horder last hlast
    · rfl
  unfold judgeHead
  rw [if_neg hunset, if_neg (not_le.2 hroom), hnew, if_neg hacquire, if_neg (not_lt.2 hlate),
    if_neg (not_lt.2 hearly), hinOrder]
  rfl

theorem exec_frameHead (h : RunningCell c cell s) (hhead : isFrameHead cell = true)
    (hok : (frameHeadOf (cellBody cell)).ok = true) : exec (.cellTaken cell) s
    = .next (takeFrameHead c (frameHeadOf (cellBody cell)) cell (received c cell s)) := by
  rw [exec_runningCell h]
  unfold runningCell; dsimp only
  rw [hhead, hok]
  rfl

/-- A head accepted: its release time is noted, and its record joins the table (R40, R41). -/
def admitted (c : SiteConfig) (h : FrameHead) (state : FrameState) (s : State) : State :=
  joinTable (frameRecord c h (frameTimes c h s.tb.now) state)
    { s with intake := { s.intake with lastAccepted := some (frameTimes c h s.tb.now).q } }

theorem takeFrameHead_accepted {h : FrameHead} (hnone : s.intake.assembly = none)
    (hj : judgeHead c h (frameTimes c h s.tb.now) s = .accepted) (cell : Cell) : takeFrameHead c h cell s
    = setAssembly (some ⟨some h.number, h.declared⟩) (storeFrameCell h.number cell (admitted c h .assembling s)) := by
  unfold takeFrameHead; rw [endShort_idle hnone]; dsimp only; rw [hj]; rfl

theorem admitted_frame? {h : FrameHead} {state : FrameState} (hnew : ∀ x ∈ s.em.table, x.number ≠ h.number) :
    (admitted c h state s).frame? h.number = some (frameRecord c h (frameTimes c h s.tb.now) state) :=
  frame?_joinTable (frame?_none_of_forall hnew)

/-- The cell of an accepted head is stored in the next free slot (R42, R46, R47). -/
theorem storeHead_parts {h : FrameHead} (huse : s.sc.inUse = some c) (hnew : ∀ x ∈ s.em.table, x.number ≠ h.number)
    (hroom : s.em.queue.occupancy < 65536) (cell : Cell) :
    (storeFrameCell h.number cell (admitted c h .assembling s)).em = { s.em with
        table := s.em.table
          ++ [FrameRecord.stored s.em.queue.nextFree (frameRecord c h (frameTimes c h s.tb.now) .assembling)]
        queue := { s.em.queue with
          slots := memWrite s.em.queue.slots s.em.queue.nextFree cell
          nextFree := (s.em.queue.nextFree + 1) % 65536
          occupancy := s.em.queue.occupancy + 1
          high := s.em.queue.high || decide (c.almostFull ≤ s.em.queue.occupancy + 1) } }
      ∧ (storeFrameCell h.number cell (admitted c h .assembling s)).mon
        = (if s.em.queue.high = false ∧ c.almostFull ≤ s.em.queue.occupancy + 1
          then (raise (.queueHigh (s.em.queue.occupancy + 1)) s).mon else s.mon)
      ∧ (storeFrameCell h.number cell (admitted c h .assembling s)).intake
        = { s.intake with lastAccepted := some (frameTimes c h s.tb.now).q }
      ∧ aside (storeFrameCell h.number cell (admitted c h .assembling s)) = aside s := by
  have huse' : (admitted c h .assembling s).sc.inUse = some c := huse
  rw [storeFrameCell_room (s := admitted c h .assembling s) (admitted_frame? hnew) rfl hroom]
  refine ⟨?_, ?_, intake_storeCell cell (admitted c h .assembling s), ?_⟩
  · have htable := updateWhere_joined (r := frameRecord c h (frameTimes c h s.tb.now) .assembling) hnew
      (FrameRecord.stored s.em.queue.nextFree)
    unfold updateFrame; dsimp only
    rw [storeCell_em, setting_of_inUse huse']
    dsimp only [admitted, joinTable]
    rw [← htable]; rfl
  · refine (storeCell_mon cell (admitted c h .assembling s)).trans ?_
    rw [setting_of_inUse huse']; rfl
  · rw [aside_updateFrame, aside_storeCell]; rfl

/-- Settles O14: the frame joins the table, and its head is the one cell stored. -/
theorem acceptedFrameHeadIsStored : Obligations.AcceptedFrameHeadIsStored := by
  unfold Obligations.AcceptedFrameHeadIsStored
  intro c cell s hsize hsync hvalid huse hfeed hnone hhead hok hunset hacquire htable hnew hroom h zone q hlmin hlmax
    horder
  have hj : judgeHead c h (frameTimes c h s.tb.now) (received c cell s) = .accepted :=
    judgeHead_accepted hunset htable (frame?_none_of_forall hnew) hacquire hlmin hlmax horder
  refine ⟨_, (exec_frameHead ⟨hsize, hsync, hvalid, huse, hfeed⟩ hhead hok).trans
    (congrArg Host.Outcome.next (takeFrameHead_accepted (s := received c cell s) hnone hj cell)), ?_⟩
  obtain ⟨hem, hmon, hintake, haside⟩ :=
    storeHead_parts (cell := cell) (h := h) (s := received c cell s) huse hnew hroom
  generalize storeFrameCell _ _ _ = v at *
  have hpart : ∀ {β : Type} (f : State → β), f (aside v) = f (aside s) := fun f => congrArg f haside
  refine ⟨congrArg Emission.table hem, ?_, fun a ha => ?_, ?_, ?_, ?_, ?_, hmon, ?_, rfl, ?_, ?_, hpart State.store,
    hpart State.cues, hpart State.tb, hpart State.chans⟩
  · exact (congrArg (fun m => memRead m.queue.slots s.em.queue.nextFree) hem).trans (memRead_memWrite_same _ _ _)
  · exact (congrArg (fun m => memRead m.queue.slots a) hem).trans (memRead_memWrite_other _ _ _ _ ha)
  · exact congrArg (fun m => m.queue.occupancy) hem
  · exact congrArg (fun m => m.queue.nextFree) hem
  · exact congrArg (fun m => m.queue.oldest) hem
  · exact congrArg (fun m => m.queue.high) hem
  · exact congrArg Intake.lastAccepted hintake
  · exact congrArg Intake.lossTimer hintake
  · exact (congrArg Emission.state hem :)

end Sys2Proof.Proofs
end

section
/-! SUPPORT. A record that is accepted no further: what its end makes of its entry in the frame table, of the queue and of
feed intake (R34, R42, R43). -/

namespace Sys2Proof.Proofs

open Sys2Proof Sys2Proof.Machine Sys2Proof.Laws

variable {s t u : State} {c : SiteConfig} {cell : Cell} {n : Nat} {r x : FrameRecord}

/-! ### The entry in the frame table -/

/-- From `s` to `t` the record of number `n`, of no current frame, has become `x` instead of `r`, and stands at the pass
point if `r` stood there. -/
structure Alters (n : Nat) (r x : FrameRecord) (s t : State) : Prop where
  frame : t.frame? n = some x
  beside : t.em.current ≠ some n
  distinct : (t.em.table.map FrameRecord.number).Nodup
  front : s.em.table.find? FrameRecord.unpassed = some r → t.em.table.find? FrameRecord.unpassed = some x

theorem Alters.refl (hr : s.frame? n = some r) (hcurrent : s.em.current ≠ some n)
    (hn : (s.em.table.map FrameRecord.number).Nodup) : Alters n r r s s := ⟨hr, hcurrent, hn, id⟩

/-- A step that leaves the table and the current frame. -/
theorem Alters.same (h : Alters n r x s t) (htable : u.em.table = t.em.table) (hcurrent : u.em.current = t.em.current) :
    Alters n r x s u :=
  ⟨(frame?_of_table htable n).trans h.frame, hcurrent ▸ h.beside, htable ▸ h.distinct, htable ▸ h.front⟩

theorem Alters.em (h : Alters n r x s t) (hem : u.em = t.em) : Alters n r x s u := h.same (by rw [hem]) (by rw [hem])

/-- The record of the number changes, but neither its number nor whether it has passed. -/
theorem Alters.update (h : Alters n r x s t) {f : FrameRecord → FrameRecord} (hf : ∀ y, (f y).number = y.number)
    (hp : (f x).unpassed = x.unpassed) : Alters n r (f x) s (updateFrame n f t) where
  frame := (frame?_updateFrame h.frame n hf).trans (congrArg some (if_pos rfl))
  beside := h.beside
  distinct := by rw [numbers_updateFrame n hf]; exact h.distinct
  front hfront := by
    have hx := frame?_mem h.frame
    have honly : ∀ y ∈ t.em.table, (y.number == n) = true → (f y).unpassed = y.unpassed := fun y hy hyn => by
      obtain rfl := numbered_eq h.distinct hy hx.1 ((beq_iff_eq.1 hyn).trans hx.2.symm)
      exact hp
    have hfound := find?_updated (h.front hfront) honly
    rwa [if_pos (beq_iff_eq.2 hx.2)] at hfound

/-- A record whose slots have been given back, if it held any from a first one (R42). -/
def FrameRecord.released (r : FrameRecord) : FrameRecord :=
  { r with slotsHeld := if r.firstSlot = none then r.slotsHeld else 0, firstSlot := none }

theorem Alters.giveBack (h : Alters n r x s t) : Alters n r (FrameRecord.released x) s (giveBack n t) := by
  cases hf : x.firstSlot with
  | none =>
    have hsame : FrameRecord.released x = x := by
      unfold FrameRecord.released; rw [if_pos hf]; cases x; cases hf; rfl
    rw [giveBack_none h.frame hf, hsame]; exact h
  | some first =>
    have hemptied : FrameRecord.released x = FrameRecord.emptied x := by
      unfold FrameRecord.released; rw [if_neg (by rw [hf]; exact Option.some_ne_none _)]; rfl
    rw [hemptied]
    have hem := giveBack_em h.frame hf
    exact (h.update (f := FrameRecord.emptied) (fun _ => rfl) rfl).same (by rw [hem]; rfl) (by rw [hem]; rfl)

/-- The end of the current frame's emission takes at most its record out of the table. -/
theorem endIfDone_numbers (s : State) :
    ((endIfDone s).em.table.map FrameRecord.number).Sublist (s.em.table.map FrameRecord.number)
      ∧ ((endIfDone s).em.current = s.em.current ∨ (endIfDone s).em.current = none) := by
  unfold endIfDone; split
  · split
    · exact ⟨List.filter_sublist.map _, .inr rfl⟩
    · exact ⟨.refl _, .inl rfl⟩
  · exact ⟨.refl _, .inl rfl⟩

theorem cutCells_numbers (k : Nat) (x : FrameRecord) (s : State) :
    (cutCells k x s).em.table.map FrameRecord.number = s.em.table.map FrameRecord.number := by
  rw [cutCells_table]; exact map_updateWhere FrameRecord.number _ _ (fun _ => by rfl) _

theorem cutHeld_numbers (s : State) :
    ((cutHeld s).em.table.map FrameRecord.number).Sublist (s.em.table.map FrameRecord.number)
      ∧ ((cutHeld s).em.current = s.em.current ∨ (cutHeld s).em.current = none) := by
  unfold cutHeld; split
  · split
    · next y _ =>
      have hended := endIfDone_numbers (cutCells 1 y { s with em := { s.em with heldBack := false } })
      rw [cutCells_numbers, cutCells_current] at hended
      exact hended
    · exact ⟨.refl _, .inl rfl⟩
  · exact ⟨.refl _, .inl rfl⟩

theorem Alters.cutHeld (h : Alters n r x s t) : Alters n r x s (cutHeld t) where
  frame := cutHeld_frame? h.frame h.beside
  beside := by
    rcases (cutHeld_numbers t).2 with hc | hc
    · rw [hc]; exact h.beside
    · rw [hc]; exact (Option.some_ne_none n).symm
  distinct := h.distinct.sublist (cutHeld_numbers t).1
  front hfront := cutHeld_find? (fun _ _ _ => rfl) (h.front hfront) ((frame?_mem h.frame).2 ▸ h.beside)

/-- An ASSEMBLING record that is discarded (R42, R43). -/
theorem Alters.discardAssembling (h : Alters n r x s t) (hstate : x.state = .assembling) (cause : DiscardCause) :
    Alters n r (FrameRecord.released { x with state := .discarded cause }) s (discardAssembling n cause t) := by
  have hdiscarded := h.update (f := fun y => { y with state := .discarded cause }) (fun _ => rfl)
    (by unfold FrameRecord.unpassed; rw [hstate])
  exact (hdiscarded.giveBack.em (u := reportDiscard n cause (Machine.giveBack n (updateFrame n (fun y =>
    { y with state := .discarded cause }) t))) rfl).cutHeld

/-- An ASSEMBLING record that ends SHORT (R34). -/
theorem Alters.shortRecord (h : Alters n r x s t) (hstate : x.state = .assembling) :
    Alters n r (shortState (FrameRecord.released x)) s (shortRecord n t) := by
  have hshort := h.giveBack.update (f := shortState) (fun _ => rfl)
    (by unfold FrameRecord.unpassed FrameRecord.released shortState; rw [hstate])
  unfold Machine.shortRecord; rw [h.frame]; dsimp only; rw [if_pos hstate]
  exact (hshort.em (u := reportDiscard n .short (updateFrame n shortState (Machine.giveBack n t))) rfl).cutHeld

/-- At the pass point the record stays or passes. -/
theorem Alters.passes (h : Alters n r x s t) (he : x.state ≠ .emitting) :
    (judgePassPoint t).frame? n = some x ∨ (judgePassPoint t).frame? n = none := runPasses_frame? _ h.frame he

theorem Alters.passed (h : Alters n r x s t) (hp : FrameRecord.passable x)
    (hfront : s.em.table.find? FrameRecord.unpassed = some r) : (judgePassPoint t).frame? n = none := by
  rw [← (frame?_mem h.frame).2]; exact judgePassPoint_front (h.front hfront) hp

theorem Alters.stays (h : Alters n r x s t) (he : x.state ≠ .emitting) (hp : ¬FrameRecord.passable x) :
    (judgePassPoint t).frame? n = some x := runPasses_stays _ h.distinct h.frame he hp

/-! ### The slots given back -/

/-- The slots of the record are given back from `s` to `t`: no slot is written, the next free slot is again the record's
first, and, with no cell held back, the occupancy and the high flag follow (R42, R46, R47). -/
def GivesBack (r : FrameRecord) (s t : State) : Prop :=
  t.em.queue.slots = s.em.queue.slots
    ∧ (∀ f, r.firstSlot = some f → t.em.queue.nextFree = f)
    ∧ (∀ f, r.firstSlot = some f → s.em.heldBack = false →
      t.em.queue.oldest = s.em.queue.oldest ∧ t.em.queue.occupancy = s.em.queue.occupancy - r.slotsHeld
        ∧ t.em.queue.high = (s.em.queue.high
          && decide (s.setting SiteConfig.almostEmpty 4096 < s.em.queue.occupancy - r.slotsHeld)))

theorem GivesBack.queue (h : GivesBack r s t) (hq : u.em.queue = t.em.queue) : GivesBack r s u := by
  unfold GivesBack; rw [hq]; exact h

/-- The slots of a record `x` that holds as `r` does are given back in the state `t`, and a cell that was held back is
then cut in a state `u` of the same queue. -/
theorem givesBack_cutHeld (hx : t.frame? n = some x) (hfirst : x.firstSlot = r.firstSlot)
    (hheld : x.slotsHeld = r.slotsHeld) (hqueue : t.em.queue = s.em.queue) (hback : t.em.heldBack = s.em.heldBack)
    (huse : t.sc.inUse = s.sc.inUse) (hu : u.em.queue = (Machine.giveBack n t).em.queue)
    (hu' : u.em.heldBack = (Machine.giveBack n t).em.heldBack) : GivesBack r s (cutHeld u) := by
  refine ⟨?_, fun f hf => ?_, fun f hf hnone => ?_⟩
  · rw [(Held.cutHeld .refl).slots, hu, (Held.giveBack n .refl).slots, hqueue]
  · rw [cutHeld_nextFree, hu, giveBack_nextFree hx, hfirst, hf]; rfl
  · have hem := giveBack_em hx (hfirst.trans hf)
    have hsetting : t.setting SiteConfig.almostEmpty 4096 = s.setting SiteConfig.almostEmpty 4096 := by
      unfold State.setting; rw [huse]
    rw [cutHeld_same (by rw [hu', hem]; exact hback.trans hnone), hu, hem, hqueue, hheld, hsetting]
    exact ⟨rfl, rfl, rfl⟩

/-- A record with other counts, in the state `t` of the same queue, is discarded. -/
theorem givesBack_discardAssembling (hx : t.frame? n = some x) (hfirst : x.firstSlot = r.firstSlot)
    (hheld : x.slotsHeld = r.slotsHeld) (hqueue : t.em.queue = s.em.queue) (hback : t.em.heldBack = s.em.heldBack)
    (huse : t.sc.inUse = s.sc.inUse) (cause : DiscardCause) : GivesBack r s (discardAssembling n cause t) := by
  have hdiscarded : (updateFrame n (fun y => { y with state := .discarded cause }) t).frame? n
      = some { x with state := .discarded cause } := (frame?_updateFrame hx n fun _ => by rfl).trans (congrArg some (if_pos rfl))
  exact givesBack_cutHeld hdiscarded hfirst hheld hqueue hback huse rfl rfl

theorem givesBack_shortRecord (hx : t.frame? n = some r) (hstate : r.state = .assembling) (hqueue : t.em.queue = s.em.queue)
    (hback : t.em.heldBack = s.em.heldBack) (huse : t.sc.inUse = s.sc.inUse) : GivesBack r s (shortRecord n t) := by
  unfold shortRecord; rw [hx]; dsimp only; rw [if_pos hstate]
  exact givesBack_cutHeld hx rfl rfl hqueue hback huse rfl rfl

end Sys2Proof.Proofs
end

section
/-! Frames that are accepted no further: a head that resumes the feed or is refused, a frame that ends SHORT, QUEUE_FULL
or LATE. -/

namespace Sys2Proof.Proofs

open Sys2Proof Sys2Proof.Machine Sys2Proof.Laws

variable {s t u : State} {c : SiteConfig} {cell : Cell} {n : Nat} {r x : FrameRecord}

/-! ### Frame heads -/

/-- What a frame head takes up is feed intake's, the emission controller's and the monitor port's, once the frame in
assembly has ended. -/
theorem aside_takeFrameHead (c : SiteConfig) (h : FrameHead) (cell : Cell) (s : State) :
    aside (takeFrameHead c h cell s) = aside (endShort s) := by
  unfold takeFrameHead; dsimp only; split
  · rfl
  · rfl
  · rw [aside_setAssembly, aside_storeFrameCell]; rfl

theorem exec_resumingHead (hsize : cell.length = 240) (hsync : cell.head? = some 0xB8) (hvalid : s.sc.config = .valid)
    (huse : s.sc.inUse = some c) (hfeed : s.intake.feed = .lost) (hhead : isFrameHead cell = true)
    (hok : (frameHeadOf (cellBody cell)).ok = true) : exec (.cellTaken cell) s
    = .next (resumeFeed c (frameHeadOf (cellBody cell)) cell (tracked cell s)) := by
  rw [exec_lostCell hsize hsync hvalid huse hfeed]
  unfold lostCell; dsimp only; rw [hhead, hok]; rfl

theorem exec_malformedHead (h : RunningCell c cell s) (hhead : isFrameHead cell = true)
    (hok : (frameHeadOf (cellBody cell)).ok = false) : exec (.cellTaken cell) s
    = .next (malformedHead (received c cell s)) := by
  rw [exec_runningCell h]
  unfold runningCell; dsimp only; rw [hhead, hok]; rfl

/-- A head that resumes the feed: the timer is loaded before the head is taken (R26). -/
theorem resumeFeed_parts (c : SiteConfig) (h : FrameHead) (cell : Cell) (s : State) :
    let t := resumeFeed c h cell s
    t.intake.feed = .running ∧ t.intake.lossTimer = some (s.tb.now + c.feedLossMs * 10000)
      ∧ t.intake.lastGood = some s.tb.now ∧ t.cues.counters = s.cues.counters ∧ t.store.memory = s.store.memory := by
  dsimp only
  unfold resumeFeed; dsimp only
  generalize hu : raise (.feedResume h.number)
    (loadLossTimer c { s with intake := { s.intake with feed := .running } }) = u
  have hfeed := feedPart_takeFrameHead c h cell u
  have haside := aside_takeFrameHead c h cell u
  have hended : Held u (endShort u) := .endShort .refl
  have hpart : ∀ {β : Type} (f : Intake → β), f (feedPart (takeFrameHead c h cell u).intake) = f (feedPart u.intake) :=
    fun f => congrArg f hfeed
  have hbeside : ∀ {β : Type} (f : State → β), f (aside (takeFrameHead c h cell u)) = f (aside (endShort u)) :=
    fun f => congrArg f haside
  have hfeed' := hpart Intake.feed
  have hcounters := (hbeside fun v => v.cues.counters).trans hended.cueCounts
  have hmemory := (hbeside fun v => v.store.memory).trans hended.memory
  have htimer := hpart Intake.lossTimer
  have hgood := hpart Intake.lastGood
  subst hu
  exact ⟨hfeed', htimer, hgood, hcounters, hmemory⟩

/-! ### The judgement of a head (R40) -/

/-- A head is refused a record by one of the first three checks. -/
theorem judgeHead_noRecord {h : FrameHead} {times : FrameTimes} {cause : DiscardCause}
    (hcause : s.tb.disc = .unset ∧ cause = .noTime
      ∨ s.tb.disc ≠ .unset ∧ 64 ≤ s.em.table.length ∧ cause = .tableFull
      ∨ s.tb.disc ≠ .unset ∧ s.em.table.length < 64 ∧ (∃ r ∈ s.em.table, r.number = h.number) ∧ cause = .order) :
    judgeHead c h times s = .noRecord cause := by
  unfold judgeHead
  rcases hcause with ⟨hunset, rfl⟩ | ⟨hset, hfull, rfl⟩ | ⟨hset, hroom, ⟨r, hr, hnumber⟩, rfl⟩
  · rw [if_pos hunset]
  · rw [if_neg hset, if_pos hfull]
  · have hknown : (s.frame? h.number).isSome = true :=
      List.find?_isSome.2 ⟨r, hr, beq_iff_eq.2 hnumber⟩
    rw [if_neg hset, if_neg (not_le.2 hroom), hknown]; rfl

/-- A head gets a record that is DISCARDED by one of the later checks. -/
theorem judgeHead_discarded {h : FrameHead} {times : FrameTimes} {cause : DiscardCause} (hset : s.tb.disc ≠ .unset)
    (hroom : s.em.table.length < 64) (hnew : s.frame? h.number = none)
    (hcause : s.tb.disc = .acquire ∧ cause = .noTime
      ∨ s.tb.disc ≠ .acquire ∧ times.lead < c.lmin ∧ cause = .late
      ∨ s.tb.disc ≠ .acquire ∧ c.lmin ≤ times.lead ∧ c.lmax < times.lead ∧ cause = .early
      ∨ s.tb.disc ≠ .acquire ∧ c.lmin ≤ times.lead ∧ times.lead ≤ c.lmax
        ∧ (∃ last, s.intake.lastAccepted = some last ∧ times.q ≤ last) ∧ cause = .order) :
    judgeHead c h times s = .discarded cause := by
  unfold judgeHead
  rw [if_neg hset, if_neg (not_le.2 hroom), hnew]
  rcases hcause with ⟨hacquire, rfl⟩ | ⟨hacquire, hlate, rfl⟩ | ⟨hacquire, hlmin, hearly, rfl⟩ |
    ⟨hacquire, hlmin, hlmax, ⟨last, hlast, horder⟩, rfl⟩
  · exact if_pos hacquire
  · rw [if_neg hacquire, if_pos hlate]; rfl
  · rw [if_neg hacquire, if_neg (not_lt.2 hlmin), if_pos hearly]; rfl
  · have hlater : outOfOrder times.q s = true := by
      unfold outOfOrder; rw [hlast]; exact decide_eq_true horder
    rw [if_neg hacquire, if_neg (not_lt.2 hlmin), if_neg (not_lt.2 hlmax), hlater]; rfl

theorem takeFrameHead_noRecord {h : FrameHead} {cause : DiscardCause} (hnone : s.intake.assembly = none)
    (hj : judgeHead c h (frameTimes c h s.tb.now) s = .noRecord cause) (cell : Cell) : takeFrameHead c h cell s
    = setAssembly (some ⟨none, h.declared⟩) (reportDiscard h.number cause s) := by
  unfold takeFrameHead; rw [endShort_idle hnone]; dsimp only; rw [hj]

theorem takeFrameHead_discarded {h : FrameHead} {cause : DiscardCause} (hnone : s.intake.assembly = none)
    (hj : judgeHead c h (frameTimes c h s.tb.now) s = .discarded cause) (cell : Cell) : takeFrameHead c h cell s
    = setAssembly (some ⟨some h.number, h.declared⟩)
      (joinTable (frameRecord c h (frameTimes c h s.tb.now) (.discarded cause)) (reportDiscard h.number cause s)) := by
  unfold takeFrameHead; rw [endShort_idle hnone]; dsimp only; rw [hj]

/-- The discard counter of a cause (R40). -/
def discardCount (cause : DiscardCause) (k : IntakeCounters) : Nat :=
  match cause with
  | .noTime => k.noTime | .tableFull => k.tableFull | .late => k.late | .early => k.early | .order => k.order
  | .queueFull => k.queueFull | .short => k.short

theorem discardCount_reportDiscard (n : Nat) (cause : DiscardCause) (s : State) :
    discardCount cause (reportDiscard n cause s).intake.counters
      = min (discardCount cause s.intake.counters + 1) 4294967295 := by
  cases cause <;> rfl

theorem storeFrameCell_full (hr : s.frame? n = some r) (hstate : r.state = .assembling)
    (hfull : 65536 ≤ s.em.queue.occupancy) (cell : Cell) :
    storeFrameCell n cell s = discardAssembling n .queueFull s := by
  unfold storeFrameCell; rw [hr]; dsimp only
  rw [if_neg (not_not.2 hstate)]
  exact if_neg (not_lt.2 hfull)

/-- The record of an accepted head that finds the queue full (R42). -/
theorem storeHead_full {h : FrameHead} (hnew : ∀ x ∈ s.em.table, x.number ≠ h.number)
    (hfull : 65536 ≤ s.em.queue.occupancy) (hback : s.em.heldBack = false) (cell : Cell) :
    storeFrameCell h.number cell (admitted c h .assembling s)
      = reportDiscard h.number .queueFull (admitted c h (.discarded .queueFull) s) := by
  have hdiscarded : updateFrame h.number (fun r => { r with state := .discarded .queueFull })
      (admitted c h .assembling s) = admitted c h (.discarded .queueFull) s :=
    updateFrame_joinTable (r := frameRecord c h (frameTimes c h s.tb.now) .assembling)
      (s := { s with intake := { s.intake with lastAccepted := some (frameTimes c h s.tb.now).q } }) hnew _
  rw [storeFrameCell_full (s := admitted c h .assembling s) (admitted_frame? hnew) rfl hfull]
  unfold discardAssembling; dsimp only
  rw [hdiscarded, giveBack_none (admitted_frame? hnew) rfl]
  exact cutHeld_same hback

/-! ### A frame that ends SHORT (R32, R34) -/

theorem endShort_record {a : Assembly} (ha : s.intake.assembly = some a) (hn : a.record = some n) :
    endShort s = judgePassPoint (setAssembly none (shortRecord n s)) := by
  unfold endShort; rw [ha]; dsimp only; rw [hn]

theorem shortRecord_counters (hr : s.frame? n = some r) : (shortRecord n s).intake.counters
    = { s.intake.counters with short := bump s.intake.counters.short } := by
  have hback : (if r.state = .assembling then giveBack n s else s).intake = s.intake := by
    split
    · exact intake_giveBack n s
    · rfl
  unfold shortRecord; rw [hr]; dsimp only; rw [intake_cutHeld, ← hback]; rfl

theorem endShort_counters {a : Assembly} (ha : s.intake.assembly = some a) (hn : a.record = some n)
    (hr : s.frame? n = some r) : (endShort s).intake.counters
    = { s.intake.counters with short := bump s.intake.counters.short } := by
  rw [endShort_record ha hn, intake_judgePassPoint]; exact shortRecord_counters hr

/-- An ASSEMBLING record ends SHORT and comes before the pass point. -/
theorem endShort_alters {a : Assembly} (ha : s.intake.assembly = some a) (hn : a.record = some n)
    (h : Alters n r r s s) (hstate : r.state = .assembling) :
    GivesBack r s (endShort s)
      ∧ (∀ x, (endShort s).frame? n = some x → x = shortState (FrameRecord.released r))
      ∧ (s.em.table.find? FrameRecord.unpassed = some r → (endShort s).frame? n = none) := by
  have hshort := (h.shortRecord hstate).em (u := setAssembly none (shortRecord n s)) rfl
  have hgives : GivesBack r s (shortRecord n s) := givesBack_shortRecord h.frame hstate rfl rfl rfl
  rw [endShort_record ha hn]
  refine ⟨hgives.queue (judgePassPoint_queue _), fun x hx => ?_, hshort.passed ⟨⟨.short, rfl⟩, CountStatus.noConfusion⟩⟩
  rcases hshort.passes FrameState.noConfusion with hp | hp
  · exact Option.some.inj (hx.symm.trans hp)
  · rw [hp] at hx; cases hx

end Sys2Proof.Proofs
end

section
/-! SUPPORT. The completion of a frame: its numbering, and the record handed to the pass point (R33, R37, R54). -/

namespace Sys2Proof.Proofs

open Sys2Proof Sys2Proof.Machine Sys2Proof.Laws

variable {s t u : State} {c : SiteConfig} {cell : Cell} {n : Nat} {r x : FrameRecord}

/-! ### A sorted cell handed on -/

theorem frame_handCell (c : SiteConfig) (k : CellSort) (cell : Cell) (continuous : Bool) (s : State) :
    frame (handCell c k cell continuous s) = frame s := by
  unfold handCell
  cases k with
  | filler | programme | misfit => rfl
  | cue => exact frame_cueTaken _ _ _ _
  | segmentHead => exact frame_segmentHead _ _ _
  | segmentBody => exact frame_segmentBody _ _ _

theorem inUse_of_frame (h : frame s = frame t) : s.sc.inUse = t.sc.inUse :=
  congrArg (fun p => p.2.control.inUse) h

/-! ### The numbering of a complete frame (R37) -/

/-- The number follows the last complete one, or none was complete (R37). -/
def inTurn (n : Nat) (s : State) : Prop :=
  s.intake.lastComplete = none ∨ ∃ m, s.intake.lastComplete = some m ∧ n = (m + 1) % 65536

/-- What the numbering check makes of a state: the number is the last complete one, and a number out of turn is a gap,
counted and handed to the channels. -/
structure Numbered (r : FrameRecord) (s t : State) : Prop where
  outside : t.em = s.em ∧ t.ros = s.ros ∧ t.store.memory = s.store.memory ∧ t.chans.passCount = s.chans.passCount
  intake : t.intake = { s.intake with
    lastComplete := some r.number, counters := { s.intake.counters with gaps := t.intake.counters.gaps } }
  turn : inTurn r.number s → t.intake.counters.gaps = s.intake.counters.gaps ∧ t.chans.lastGap = s.chans.lastGap
  gap : ¬inTurn r.number s →
    t.intake.counters.gaps = min (s.intake.counters.gaps + 1) 4294967295 ∧ t.chans.lastGap = some r.c

theorem checkNumbering_inTurn (h : inTurn r.number s) :
    checkNumbering r s = { s with intake := { s.intake with lastComplete := some r.number } } := by
  unfold checkNumbering
  rcases h with hnone | ⟨m, hm, hn⟩
  · rw [hnone]
  · rw [hm]; dsimp only; rw [if_pos hn]

theorem checkNumbering_gap (h : ¬inTurn r.number s) : ∃ e, checkNumbering r s
    = (fun t : State => { t with intake := { t.intake with lastComplete := some r.number } })
      (frameGapToChannels r.c (countIntake (fun k => { k with gaps := bump k.gaps }) (raise e s))) := by
  unfold checkNumbering
  cases hm : s.intake.lastComplete with
  | none => exact absurd (.inl hm) h
  | some m =>
    dsimp only
    rw [if_neg fun hn => h (.inr ⟨m, hm, hn⟩)]
    exact ⟨_, rfl⟩

theorem checkNumbering_numbered (r : FrameRecord) (s : State) : Numbered r s (checkNumbering r s) := by
  by_cases h : inTurn r.number s
  · rw [checkNumbering_inTurn h]
    exact ⟨⟨rfl, rfl, rfl, rfl⟩, rfl, fun _ => ⟨rfl, rfl⟩, fun hn => absurd h hn⟩
  · obtain ⟨e, hgap⟩ := checkNumbering_gap h
    rw [hgap]
    have hmoved : Moves s (raise e s) := (Quiet.refl.raise e).toMoves
    have houter := outer_frameGapToChannels r.c (countIntake (fun k => { k with gaps := bump k.gaps }) (raise e s))
    have hmemory := (Moves.frameGapToChannels r.c (.refl (s := countIntake (fun k => { k with gaps := bump k.gaps })
      (raise e s)))).memory
    have htally := tally_frameGapToChannels r.c (countIntake (fun k => { k with gaps := bump k.gaps }) (raise e s))
    generalize frameGapToChannels r.c _ = u at houter hmemory htally ⊢
    have hintake : u.intake = { s.intake with
        counters := { s.intake.counters with gaps := bump s.intake.counters.gaps } } := congrArg Outer.intake houter
    have hpart : ∀ {β : Type} (f : CueCounters × Option Time × Option Time × Nat → β), f (tally u)
        = f (s.cues.counters, s.chans.lastPass, some r.c, s.chans.passCount) := fun f => congrArg f htally
    refine ⟨⟨congrArg Outer.em houter, congrArg Outer.ros houter, hmemory, hpart fun p => p.2.2.2⟩, ?_,
      fun hn => absurd hn h, fun _ => ⟨congrArg (fun i => i.counters.gaps) hintake, hpart fun p => p.2.2.1⟩⟩
    dsimp only; rw [hintake]

/-! ### The completion of a record (R33, R37, R43, R44) -/

/-- A record whose counts are KNOWN. -/
def FrameRecord.complete (r : FrameRecord) : FrameRecord := { r with status := .known }

theorem completeFrame_record (hr : s.frame? n = some r) : completeFrame (some n) s = judgePassPoint (handCompletion n
    (checkNumbering (FrameRecord.complete r) (updateFrame n FrameRecord.complete (setAssembly none s)))) := by
  have hknown : (updateFrame n (fun x => { x with status := .known }) (setAssembly none s)).frame? n
      = some (FrameRecord.complete r) :=
    (frame?_updateFrame (s := setAssembly none s) hr n fun _ => by rfl).trans (congrArg some (if_pos rfl))
  unfold completeFrame; dsimp only; rw [hknown]; rfl

theorem handCompletion_discarded (hr : s.frame? n = some r) (hstate : r.state ≠ .assembling) :
    handCompletion n s = s := by
  unfold handCompletion; rw [hr]; exact if_pos hstate

theorem handCompletion_scheduled (hr : s.frame? n = some r) (hstate : r.state = .assembling) (hq : s.tb.now < r.q) :
    handCompletion n s = updateFrame n (fun x => { x with state := .scheduled }) s := by
  unfold handCompletion; rw [hr]; dsimp only; rw [if_neg (not_not.2 hstate), if_neg (not_le.2 hq)]

end Sys2Proof.Proofs
end

section
/-! Frames that are accepted no further, by the way in which they end. -/

namespace Sys2Proof.Proofs

open Sys2Proof Sys2Proof.Machine Sys2Proof.Laws

variable {s t u : State} {c : SiteConfig} {cell : Cell} {n : Nat} {r x : FrameRecord}

/-! ### A cell that finds the queue full (R42) -/

/-- The record of a frame whose cell finds the queue full. -/
def FrameRecord.overrun (k : CellSort) (cell : Cell) (r : FrameRecord) : FrameRecord :=
  FrameRecord.released { countCell k cell r with state := .discarded .queueFull }

theorem updateFrame_at (hr : s.frame? n = some r) {f : FrameRecord → FrameRecord} (hf : ∀ y, (f y).number = y.number) :
    (updateFrame n f s).frame? n = some (f r) := (frame?_updateFrame hr n hf).trans (congrArg some (if_pos rfl))

/-- A cell of an ASSEMBLING frame finds the queue full in the state `u`, of the same controller as `s`. -/
theorem placed_full (h : Alters n r r s s) (hstate : r.state = .assembling) (hfull : 65536 ≤ s.em.queue.occupancy)
    (hem : u.em = s.em) (huse : u.sc.inUse = s.sc.inUse) (k : CellSort) (cell : Cell) :
    Alters n r (FrameRecord.overrun k cell r) s (placed k cell (some n) u)
      ∧ GivesBack r s (placed k cell (some n) u)
      ∧ (placed k cell (some n) u).intake
        = { u.intake with counters := { u.intake.counters with queueFull := bump u.intake.counters.queueFull } } := by
  have hcounted := (h.em hem).update (f := countCell k cell) (fun _ => rfl) rfl
  have hplaced : placed k cell (some n) u = discardAssembling n .queueFull (updateFrame n (countCell k cell) u) :=
    storeFrameCell_full hcounted.frame hstate (by rw [updateFrame_em, hem]; exact hfull) _
  rw [hplaced]
  refine ⟨hcounted.discardAssembling hstate .queueFull, ?_, intake_discardAssembling n .queueFull _⟩
  exact givesBack_discardAssembling hcounted.frame rfl rfl (show u.em.queue = s.em.queue by rw [hem])
    (show u.em.heldBack = s.em.heldBack by rw [hem]) huse .queueFull

/-- A frame whose record was DISCARDED is complete: it is numbered, and its record comes before the pass point. -/
theorem completeFrame_discarded {cause : DiscardCause} (h : Alters n r x s t) (hx : x.state = .discarded cause) :
    ∃ v, completeFrame (some n) t = judgePassPoint v ∧ Alters n r (FrameRecord.complete x) s v
      ∧ Numbered (FrameRecord.complete x) (updateFrame n FrameRecord.complete (setAssembly none t)) v := by
  have hknown := (h.em (u := setAssembly none t) rfl).update (f := FrameRecord.complete) (fun _ => rfl) rfl
  have hnumbered := checkNumbering_numbered (FrameRecord.complete x)
    (updateFrame n FrameRecord.complete (setAssembly none t))
  have hended := hknown.em hnumbered.outside.1
  refine ⟨_, ?_, hended, hnumbered⟩
  rw [completeFrame_record h.frame, handCompletion_discarded hended.frame]
  exact fun hassembling => FrameState.noConfusion (hx.symm.trans hassembling)

/-! ### Heads that are refused (R40, R41) -/

/-- The frame of a head has joined the table DISCARDED, is followed, and is counted under its cause. -/
def JoinsDiscarded (c : SiteConfig) (h : FrameHead) (cause : DiscardCause) (s t : State) : Prop :=
  t.em = { s.em with table := s.em.table ++ [frameRecord c h (frameTimes c h s.tb.now) (.discarded cause)] }
    ∧ t.intake.assembly = some ⟨some h.number, h.declared⟩
    ∧ discardCount cause t.intake.counters = min (discardCount cause s.intake.counters + 1) 4294967295
    ∧ t.tb = s.tb ∧ t.store = s.store ∧ t.chans = s.chans

theorem exec_headTaken (hgood : RunningCell c cell s) (hhead : isFrameHead cell = true)
    (hok : (frameHeadOf (cellBody cell)).ok = true)
    (ht : takeFrameHead c (frameHeadOf (cellBody cell)) cell (received c cell s) = t) :
    exec (.cellTaken cell) s = .next t := ht ▸ exec_frameHead hgood hhead hok

theorem exec_noRecord {cause : DiscardCause} (hgood : RunningCell c cell s) (hhead : isFrameHead cell = true)
    (hok : (frameHeadOf (cellBody cell)).ok = true) (hnone : s.intake.assembly = none)
    (hj : ∀ times, judgeHead c (frameHeadOf (cellBody cell)) times (received c cell s) = .noRecord cause) :
    ∃ t, exec (.cellTaken cell) s = .next t ∧ t.em = s.em
      ∧ t.intake.assembly = some ⟨none, (frameHeadOf (cellBody cell)).declared⟩
      ∧ discardCount cause t.intake.counters = min (discardCount cause s.intake.counters + 1) 4294967295
      ∧ t.intake.lastAccepted = s.intake.lastAccepted ∧ t.tb = s.tb ∧ t.store = s.store ∧ t.chans = s.chans :=
  ⟨_, exec_headTaken hgood hhead hok (takeFrameHead_noRecord (s := received c cell s) hnone (hj _) cell), rfl, rfl,
    discardCount_reportDiscard _ cause (received c cell s), rfl, rfl, rfl, rfl⟩

theorem exec_discarded {cause : DiscardCause} (hgood : RunningCell c cell s) (hhead : isFrameHead cell = true)
    (hok : (frameHeadOf (cellBody cell)).ok = true) (hnone : s.intake.assembly = none)
    (hj : judgeHead c (frameHeadOf (cellBody cell)) (frameTimes c (frameHeadOf (cellBody cell)) s.tb.now)
      (received c cell s) = .discarded cause) :
    ∃ t, exec (.cellTaken cell) s = .next t ∧ JoinsDiscarded c (frameHeadOf (cellBody cell)) cause s t
      ∧ t.intake.lastAccepted = s.intake.lastAccepted :=
  ⟨_, exec_headTaken hgood hhead hok (takeFrameHead_discarded (s := received c cell s) hnone hj cell),
    ⟨rfl, rfl, discardCount_reportDiscard _ cause (received c cell s), rfl, rfl, rfl⟩, rfl⟩

theorem exec_acceptedFull (hgood : RunningCell c cell s) (hhead : isFrameHead cell = true)
    (hok : (frameHeadOf (cellBody cell)).ok = true) (hnone : s.intake.assembly = none)
    (hj : judgeHead c (frameHeadOf (cellBody cell)) (frameTimes c (frameHeadOf (cellBody cell)) s.tb.now)
      (received c cell s) = .accepted) (hnew : ∀ r ∈ s.em.table, r.number ≠ (frameHeadOf (cellBody cell)).number)
    (hfull : 65536 ≤ s.em.queue.occupancy) (hback : s.em.heldBack = false) :
    ∃ t, exec (.cellTaken cell) s = .next t ∧ JoinsDiscarded c (frameHeadOf (cellBody cell)) .queueFull s t
      ∧ t.intake.lastAccepted = some (frameTimes c (frameHeadOf (cellBody cell)) s.tb.now).q := by
  have htake := takeFrameHead_accepted (s := received c cell s) hnone hj cell
  rw [storeHead_full (s := received c cell s) hnew hfull hback] at htake
  exact ⟨_, exec_headTaken hgood hhead hok htake,
    ⟨rfl, rfl, discardCount_reportDiscard (frameHeadOf (cellBody cell)).number .queueFull (received c cell s), rfl, rfl, rfl⟩, rfl⟩

/-! ### A frame in assembly that ends (R32, R34, R42, R43) -/

/-- A malformed head ends the ASSEMBLING frame SHORT. -/
theorem exec_endsShort {left : Nat} (hgood : RunningCell c cell s) (hhead : isFrameHead cell = true)
    (hok : (frameHeadOf (cellBody cell)).ok = false) (ha : s.intake.assembly = some ⟨some n, left⟩)
    (hr : Alters n r r s s) (hstate : r.state = .assembling) :
    ∃ t, exec (.cellTaken cell) s = .next t ∧ t.intake.assembly = none ∧ GivesBack r s t
      ∧ t.intake.counters.malformed = min (s.intake.counters.malformed + 1) 4294967295
      ∧ t.intake.counters.short = min (s.intake.counters.short + 1) 4294967295
      ∧ (∀ x, t.frame? n = some x → x = shortState (FrameRecord.released r))
      ∧ (s.em.table.find? FrameRecord.unpassed = some r → t.frame? n = none)
      ∧ t.tb = s.tb ∧ t.store.memory = s.store.memory := by
  have hexec := exec_malformedHead hgood hhead hok
  unfold malformedHead at hexec
  generalize hu : countIntake (fun k => { k with malformed := bump k.malformed }) (received c cell s) = u at hexec
  have hem : u.em = s.em := by subst hu; rfl
  have ha' : u.intake.assembly = some ⟨some n, left⟩ := by subst hu; exact ha
  have huse : u.sc = s.sc := by subst hu; rfl
  have halters : Alters n r r u u := .refl ((frame?_of_table (by rw [hem]) n).trans hr.frame) (hem ▸ hr.beside)
    (hem ▸ hr.distinct)
  obtain ⟨hgives, hrecord, hfront⟩ := endShort_alters ha' rfl halters hstate
  have hcounters := endShort_counters ha' rfl halters.frame
  have hheld : Held s u := by subst hu; exact (((Held.refl.setReception _).trackContinuity _).loadLossTimer _).countIntake _
  refine ⟨_, hexec, endShort_assembly u, ?_, ?_, ?_, hrecord, hem ▸ hfront, exec_tb rfl hexec, hheld.endShort.memory⟩
  · unfold GivesBack State.setting at hgives ⊢; rw [hem, huse] at hgives; exact hgives
  · rw [hcounters]; subst hu; rfl
  · rw [hcounters]; subst hu; rfl

/-- A cell of an ASSEMBLING frame that finds the queue full, before and at the end of the frame. -/
theorem exec_overrun {left : Nat} (hgood : RunningCell c cell s) (hhead : isFrameHead cell = false)
    (ha : s.intake.assembly = some ⟨some n, left⟩) (hr : Alters n r r s s) (hstate : r.state = .assembling)
    (hfull : 65536 ≤ s.em.queue.occupancy) :
    ∃ t, exec (.cellTaken cell) s = .next t ∧ GivesBack r s t ∧ t.tb = s.tb
      ∧ t.intake.counters.queueFull = min (s.intake.counters.queueFull + 1) 4294967295
      ∧ (2 ≤ left → t.frame? n = some (FrameRecord.overrun (sortCell c cell) cell r)
        ∧ t.intake.assembly = some ⟨some n, left - 1⟩)
      ∧ (left = 1 → t.intake.assembly = none ∧ t.intake.lastComplete = some n
        ∧ (∀ x, t.frame? n = some x → x = FrameRecord.complete (FrameRecord.overrun (sortCell c cell) cell r))
        ∧ (s.em.table.find? FrameRecord.unpassed = some r → t.frame? n = none)) := by
  have hexec := exec_frameCell hgood hhead ha
  obtain ⟨hem, hintake⟩ := handCell_outer c (sortCell c cell) cell (isContinuous cell s) (received c cell s)
  have huse := inUse_of_frame (frame_handCell c (sortCell c cell) cell (isContinuous cell s) (received c cell s))
  obtain ⟨hplaced, hgives, hcounted⟩ := placed_full hr hstate hfull hem huse (sortCell c cell) cell
  generalize handCell _ _ _ _ _ = u at *
  have hfullCount : u.intake.counters.queueFull = s.intake.counters.queueFull := by rw [hintake]; rfl
  by_cases hleft : 2 ≤ left
  · rw [placeCell_more hleft] at hexec
    refine ⟨_, hexec, hgives.queue rfl, exec_tb rfl hexec, ?_, fun _ => ⟨hplaced.frame, rfl⟩, fun h1 => by omega⟩
    show (placed (sortCell c cell) cell (some n) u).intake.counters.queueFull = _
    rw [hcounted, ← hfullCount]; rfl
  · rw [placeCell_last (show left ≤ 1 by omega)] at hexec
    obtain ⟨v, hcompleted, hpoint, hnumbered⟩ := completeFrame_discarded hplaced rfl
    rw [hcompleted] at hexec
    refine ⟨_, hexec, hgives.queue ?_, exec_tb rfl hexec, ?_, fun h2 => absurd h2 hleft,
      fun _ => ⟨?_, ?_, fun x hx => ?_, hpoint.passed ⟨⟨.queueFull, rfl⟩, CountStatus.noConfusion⟩⟩⟩
    · rw [judgePassPoint_queue, hnumbered.outside.1]; rfl
    · rw [intake_judgePassPoint, hnumbered.intake]
      show (placed (sortCell c cell) cell (some n) u).intake.counters.queueFull = _
      rw [hcounted, ← hfullCount]; rfl
    · rw [intake_judgePassPoint, hnumbered.intake]; rfl
    · rw [intake_judgePassPoint, hnumbered.intake]; exact congrArg some (frame?_mem hpoint.frame).2
    · rcases hpoint.passes FrameState.noConfusion with hp | hp
      · exact Option.some.inj (hx.symm.trans hp)
      · rw [hp] at hx; cases hx

theorem frame?_of_mem (hn : (s.em.table.map FrameRecord.number).Nodup) (hr : r ∈ s.em.table) :
    s.frame? r.number = some r := by
  obtain ⟨x, hx⟩ := Option.isSome_iff_exists.1 (List.find?_isSome.2 ⟨r, hr, beq_iff_eq.2 rfl⟩ :
    (s.frame? r.number).isSome = true)
  rw [show s.frame? r.number = some x from hx, numbered_eq hn (frame?_mem hx).1 hr (frame?_mem hx).2]

/-- Settles O16, by the way in which the frame ends. -/
theorem framesAreDiscardedShortOrLate : Obligations.FramesAreDiscardedShortOrLate := by
  unfold Obligations.FramesAreDiscardedShortOrLate
  intro gives
  refine ⟨?resumes, ?refused, ?short, ?full, ?late⟩
  case resumes =>
    intro c cell s hsize hsync hvalid huse hfeed hhead hok
    have hexec := exec_resumingHead hsize hsync hvalid huse hfeed hhead hok
    obtain ⟨hrunning, htimer, hlast, hcues, hmemory⟩ :=
      resumeFeed_parts c (frameHeadOf (cellBody cell)) cell (tracked cell s)
    exact ⟨_, hexec, hrunning, htimer, hlast, exec_tb rfl hexec, hcues, hmemory⟩
  case refused =>
    intro c cell cause s hgood hnone hhead hok h zone q known followed timed count joins
    have hnew : ¬known → ∀ r ∈ s.em.table, r.number ≠ h.number := fun hk r hr he => hk ⟨r, hr, he⟩
    refine ⟨fun hcause => exec_noRecord hgood hhead hok hnone fun _ => judgeHead_noRecord hcause, fun hcause => ?_,
      fun ⟨⟨hset, hroom, hunknown⟩, hacquire⟩ hlmin hlmax horder hfull hback hcause => ?_⟩
    · have hdiscarded := fun hset hroom (hunknown : ¬known) hc =>
        exec_discarded (cause := cause) hgood hhead hok hnone
          (judgeHead_discarded (s := received c cell s) hset hroom (frame?_none_of_forall (hnew hunknown)) hc)
      rcases hcause with ⟨⟨hset, hroom, hunknown⟩, hc⟩ | ⟨⟨⟨hset, hroom, hunknown⟩, hacquire⟩, hc⟩ |
        ⟨⟨⟨hset, hroom, hunknown⟩, hacquire⟩, hc⟩ | ⟨⟨⟨hset, hroom, hunknown⟩, hacquire⟩, hc⟩
      · exact hdiscarded hset hroom hunknown (.inl hc)
      · exact hdiscarded hset hroom hunknown (.inr (.inl ⟨hacquire, hc⟩))
      · exact hdiscarded hset hroom hunknown (.inr (.inr (.inl ⟨hacquire, hc⟩)))
      · exact hdiscarded hset hroom hunknown (.inr (.inr (.inr ⟨hacquire, hc⟩)))
    · subst hcause
      exact exec_acceptedFull hgood hhead hok hnone (judgeHead_accepted (s := received c cell s) hset hroom
        (frame?_none_of_forall (hnew hunknown)) hacquire hlmin hlmax horder) (hnew hunknown) hfull hback
  case short =>
    intro c cell n left r s hgood hhead hok ha hr hstate hcurrent hn
    obtain ⟨t, hexec, hnone, hgives, hmalformed, hshort, hrecord, hfront, hrest⟩ :=
      exec_endsShort hgood hhead hok ha (.refl hr hcurrent hn) hstate
    exact ⟨t, hexec, hnone, hgives, hmalformed, hshort, fun x hx => by rw [hrecord x hx]; exact ⟨rfl, rfl, rfl, rfl⟩,
      hfront, hrest⟩
  case full =>
    intro c cell n left r s hgood hhead ha hr hstate hfull hcurrent hn full
    exact exec_overrun hgood hhead ha (.refl hr hcurrent hn) hstate hfull
  case late =>
    intro r s hlate hpending hn hcurrent
    have hr := frame?_of_mem hn (List.mem_of_find?_eq_some hlate)
    have hstate : r.state = .assembling := by
      have htest := List.find?_some hlate
      simp only [Bool.and_eq_true, beq_iff_eq] at htest
      exact htest.1
    have hexec : exec .assemblingLate s = .next (judgePassPoint (discardAssembling r.number .late s)) := by
      show Host.Outcome.next _ = _
      rw [hlate]
    have hended := (Alters.refl hr hcurrent hn).discardAssembling hstate .late
    have hstays := hended.stays FrameState.noConfusion fun hp => hp.2 hpending
    refine ⟨_, _, hexec, hstays, rfl, rfl, rfl, hpending, rfl, rfl, ?_, ?_, ?_, exec_tb rfl hexec, ?_⟩
    · exact (givesBack_discardAssembling hr rfl rfl rfl rfl rfl .late).queue (judgePassPoint_queue _)
    · rw [intake_judgePassPoint, intake_discardAssembling]; rfl
    · rw [intake_judgePassPoint, intake_discardAssembling]; rfl
    · exact (Held.refl.discardAssembling _ _).judgePassPoint.memory

end Sys2Proof.Proofs
end

section
/-! The last cell of a frame: it is stored and the frame SCHEDULED, or a DISCARDED frame passes. -/

namespace Sys2Proof.Proofs

open Sys2Proof Sys2Proof.Machine Sys2Proof.Laws

variable {s t u v : State} {c : SiteConfig} {cell : Cell} {n : Nat} {r x : FrameRecord}

/-! ### What a pass counts (R55, R163) -/

theorem tally_changeEmission (new : EmissionState) (s : State) : tally (changeEmission new s) = tally s :=
  (((Quiet.refl (s := { s with em := { s.em with state := new, carrier := match new, s.em.transfer with
    | .onAir, _ => true
    | .fault, _ => false
    | _, some t => s.em.carrier && t.carrier
    | _, none => false } })).raise _).refresh.urgent).tally

theorem tally_passCurrent (s : State) : tally (passCurrent s) = tally s := by unfold passCurrent; split <;> rfl

theorem tally_addCause (c : MuteCause) (s : State) : tally (addCause c s) = tally s := by
  unfold addCause; dsimp only; split
  · rfl
  · split
    · exact ((Quiet.setLatch .air .refl).tally.trans (tally_changeEmission _ _)).trans (tally_passCurrent _)
    · rfl

theorem tally_discardPassed (s : State) : tally (discardPassed s) = tally s := by
  unfold discardPassed; dsimp only; split
  · split
    · exact tally_addCause _ _
    · rfl
  · rfl

theorem tally_passDiscarded (r : FrameRecord) (cause : DiscardCause) (s : State) : tally (passDiscarded r cause s)
    = (s.cues.counters, some r.c, s.chans.lastGap, bump s.chans.passCount) := by
  have hpassed := tally_framePass ⟨r.number, r.c, r.counts, r.status, .discarded cause⟩ s
  unfold passDiscarded handPass
  rw [tally_discardPassed]
  generalize framePass _ s = u at hpassed ⊢
  exact hpassed

theorem lastGap_runPasses (k : Nat) (s : State) : (runPasses k s).chans.lastGap = s.chans.lastGap := by
  induction k generalizing s with
  | zero => rfl
  | succ k ih =>
    unfold runPasses; split
    · split
      · split
        · rfl
        · rw [ih]; exact congrArg (fun p => p.2.2.1) (tally_passDiscarded _ _ s)
      · rfl
    · rfl

theorem lastGap_judgePassPoint (s : State) : (judgePassPoint s).chans.lastGap = s.chans.lastGap :=
  lastGap_runPasses _ s

theorem passes_discardPassed (s : State) : (discardPassed s).em.counters.passes = s.em.counters.passes := by
  have hcarried : ∀ {m m' : Emission}, carried m = carried m' → m.counters = m'.counters := fun {m m'} h =>
    show (carried m).counters = (carried m').counters by rw [h]
  have hcut : (passCurrent s).em.counters = s.em.counters := by unfold passCurrent; split <;> rfl
  rcases carried_discardPassed s with h | h
  · rw [hcarried h]
  · rw [hcarried h, hcut]

theorem passes_passDiscarded (r : FrameRecord) (cause : DiscardCause) (s : State) :
    (passDiscarded r cause s).em.counters.passes = bump s.em.counters.passes := by
  unfold passDiscarded
  rw [passes_discardPassed]
  unfold handPass leaveTable countEm; dsimp only
  rw [em_of_outer (outer_framePass _ _)]

/-! ### The frame's number (R37) -/

/-- The frame of number `n` is complete, and a number out of turn is a gap. -/
structure NumberedIn (n : Nat) (r : FrameRecord) (s t : State) : Prop where
  assembly : t.intake.assembly = none
  last : t.intake.lastComplete = some n
  turn : inTurn n s → t.intake.counters.gaps = s.intake.counters.gaps ∧ t.chans.lastGap = s.chans.lastGap
  gap : ¬inTurn n s →
    t.intake.counters.gaps = min (s.intake.counters.gaps + 1) 4294967295 ∧ t.chans.lastGap = some r.c

/-- The numbering stands through the pass point: from a state `u` that has no frame in assembly and whose marks, gaps and
channels are those of `s`. -/
theorem numberedIn_of_numbered (h : Numbered x u v) (hnumber : x.number = n) (hc : x.c = r.c)
    (hnone : u.intake.assembly = none) (hlast : u.intake.lastComplete = s.intake.lastComplete)
    (hgaps : u.intake.counters.gaps = s.intake.counters.gaps) (hgap : u.chans.lastGap = s.chans.lastGap)
    (hintake : t.intake = v.intake) (hchans : t.chans.lastGap = v.chans.lastGap) : NumberedIn n r s t := by
  have hturn : inTurn x.number u ↔ inTurn n s := by unfold inTurn; rw [hnumber, hlast]
  refine ⟨?_, ?_, fun hin => ?_, fun hout => ?_⟩
  · rw [hintake, h.intake]; exact hnone
  · rw [hintake, h.intake]; exact congrArg some hnumber
  · obtain ⟨hkept, hstays⟩ := h.turn (hturn.2 hin)
    exact ⟨by rw [hintake, hkept, hgaps], by rw [hchans, hstays, hgap]⟩
  · obtain ⟨hcounted, hhanded⟩ := h.gap fun hin => hout (hturn.1 hin)
    exact ⟨by rw [hintake, hcounted, hgaps], by rw [hchans, hhanded, hc]⟩

/-! ### A cell that is stored (R36, R42, R46, R47) -/

/-- The record of a frame whose programme cell is stored in a slot. -/
def FrameRecord.filled (cell : Cell) (slot : Nat) (r : FrameRecord) : FrameRecord :=
  FrameRecord.stored slot (countCell .programme cell r)

/-- A programme cell of an ASSEMBLING frame finds room: it is counted, and stands in the next free slot. -/
theorem placed_room (hr : s.frame? n = some r) (hstate : r.state = .assembling)
    (hroom : s.em.queue.occupancy < 65536) (cell : Cell) :
    (placed .programme cell (some n) s).frame? n = some (FrameRecord.filled cell s.em.queue.nextFree r)
      ∧ (placed .programme cell (some n) s).em.table.map FrameRecord.number = s.em.table.map FrameRecord.number
      ∧ (placed .programme cell (some n) s).em.queue = { s.em.queue with
        slots := memWrite s.em.queue.slots s.em.queue.nextFree cell
        nextFree := (s.em.queue.nextFree + 1) % 65536
        occupancy := s.em.queue.occupancy + 1
        high := s.em.queue.high
          || decide (s.setting SiteConfig.almostFull 57344 ≤ s.em.queue.occupancy + 1) }
      ∧ (placed .programme cell (some n) s).intake = s.intake := by
  have hcounted : (updateFrame n (countCell .programme cell) s).frame? n = some (countCell .programme cell r) :=
    updateFrame_at hr fun _ => rfl
  have hplaced : placed .programme cell (some n) s = updateFrame n (FrameRecord.stored s.em.queue.nextFree)
      (storeCell cell (updateFrame n (countCell .programme cell) s)) := storeFrameCell_room hcounted hstate hroom cell
  have hem := storeCell_em cell (updateFrame n (countCell .programme cell) s)
  have hintake := intake_storeCell cell (updateFrame n (countCell .programme cell) s)
  rw [hplaced]
  generalize storeCell cell (updateFrame n (countCell .programme cell) s) = v at hem hintake ⊢
  have htable : v.em.table = (updateFrame n (countCell .programme cell) s).em.table := by rw [hem]
  refine ⟨updateFrame_at ((frame?_of_table htable n).trans hcounted) fun _ => rfl, ?_,
    show v.em.queue = _ by rw [hem]; rfl, hintake⟩
  rw [numbers_updateFrame n (fun _ => by rfl), htable, numbers_updateFrame n fun _ => by rfl]

/-- A cell of a frame whose record is not ASSEMBLING is counted alone. -/
theorem placed_beside (hr : s.frame? n = some r) (hstate : r.state ≠ .assembling) (k : CellSort) (cell : Cell) :
    placed k cell (some n) s = updateFrame n (countCell k cell) s := by
  have hcounted : (updateFrame n (countCell k cell) s).frame? n = some (countCell k cell r) :=
    updateFrame_at hr fun _ => rfl
  unfold placed storeFrameCell; dsimp only; rw [hcounted]; exact if_pos hstate

theorem frame?_alone (htable : s.em.table = [r]) : s.frame? r.number = some r := by
  unfold State.frame?; rw [htable]; simp

theorem updateFrame_alone (htable : s.em.table = [r]) (f : FrameRecord → FrameRecord) :
    (updateFrame r.number f s).em.table = [f r] := by
  show updateWhere _ _ s.em.table = _
  rw [htable]; simp [updateWhere]

/-! ### The two ways of a last cell -/

/-- The last cell of an ASSEMBLING frame, before its Q and with room: the frame is SCHEDULED (R33, R44). -/
theorem completeFrame_scheduled (hr : s.frame? n = some r) (hstate : r.state = .assembling) (hq : s.tb.now < r.q)
    (hn : (s.em.table.map FrameRecord.number).Nodup) :
    (completeFrame (some n) s).frame? n = some { r with status := .known, state := .scheduled }
      ∧ (completeFrame (some n) s).em.queue = s.em.queue
      ∧ beside (completeFrame (some n) s) = beside s
      ∧ (completeFrame (some n) s).store.memory = s.store.memory
      ∧ NumberedIn n r s (completeFrame (some n) s) := by
  have hnumbered := checkNumbering_numbered (FrameRecord.complete r) (updateFrame n FrameRecord.complete (setAssembly none s))
  have htb := frame_checkNumbering (FrameRecord.complete r) (updateFrame n FrameRecord.complete (setAssembly none s))
  rw [completeFrame_record hr]
  generalize checkNumbering _ _ = w at hnumbered htb ⊢
  obtain ⟨hem, hros, hmemory, -⟩ := hnumbered.outside
  have hnow : w.tb = s.tb := congrArg Prod.fst htb
  have hcomplete : w.frame? n = some (FrameRecord.complete r) :=
    (frame?_of_table (by rw [hem]) n).trans (updateFrame_at (s := setAssembly none s) hr fun _ => rfl)
  have hnumbers : (w.em.table.map FrameRecord.number).Nodup := by
    rw [hem, numbers_updateFrame n fun _ => by rfl]; exact hn
  rw [handCompletion_scheduled hcomplete hstate (by rw [hnow]; exact hq)]
  have hscheduled : (updateFrame n (fun x => { x with state := .scheduled }) w).frame? n
      = some { r with status := .known, state := .scheduled } := updateFrame_at hcomplete fun _ => by rfl
  refine ⟨?_, ?_, ?_, ?_, numberedIn_of_numbered hnumbered (frame?_mem hr).2 rfl rfl rfl rfl rfl
    (intake_judgePassPoint _) (lastGap_judgePassPoint _)⟩
  · refine runPasses_stays _ ?_ hscheduled FrameState.noConfusion ?_
    · rw [numbers_updateFrame n fun _ => by rfl]; exact hnumbers
    · rintro ⟨⟨_, hc⟩, -⟩; cases hc
  · rw [judgePassPoint_queue]
    show w.em.queue = _
    rw [hem]; rfl
  · rw [beside_judgePassPoint]; exact Prod.ext hnow hros
  · rw [(Held.judgePassPoint .refl).memory]; exact hmemory

/-- The last cell of a DISCARDED frame that stands alone in the table: it passes at once (R54, R55). -/
theorem completeFrame_passes {cause : DiscardCause} (htable : s.em.table = [r]) (hnumber : r.number = n)
    (hstate : r.state = .discarded cause) :
    (completeFrame (some n) s).em.table = [] ∧ (completeFrame (some n) s).em.queue = s.em.queue
      ∧ (completeFrame (some n) s).chans.lastPass = some r.c
      ∧ (completeFrame (some n) s).chans.passCount = min (s.chans.passCount + 1) 4294967295
      ∧ (completeFrame (some n) s).em.counters.passes = min (s.em.counters.passes + 1) 4294967295
      ∧ beside (completeFrame (some n) s) = beside s
      ∧ (completeFrame (some n) s).store.memory = s.store.memory
      ∧ NumberedIn n r s (completeFrame (some n) s) := by
  subst hnumber
  have hr := frame?_alone htable
  have hnumbered := checkNumbering_numbered (FrameRecord.complete r) (updateFrame r.number FrameRecord.complete (setAssembly none s))
  have htb := frame_checkNumbering (FrameRecord.complete r) (updateFrame r.number FrameRecord.complete (setAssembly none s))
  rw [completeFrame_record hr]
  generalize checkNumbering _ _ = w at hnumbered htb ⊢
  obtain ⟨hem, hros, hmemory, hcount⟩ := hnumbered.outside
  have hnow : w.tb = s.tb := congrArg Prod.fst htb
  have halone : w.em.table = [FrameRecord.complete r] := by
    rw [hem]; exact updateFrame_alone (s := setAssembly none s) htable _
  have hcomplete : w.frame? r.number = some (FrameRecord.complete r) := frame?_alone halone
  rw [handCompletion_discarded hcomplete (by show r.state ≠ _; rw [hstate]; exact FrameState.noConfusion)]
  have hpasses : judgePassPoint w = passDiscarded (FrameRecord.complete r) cause w := by
    have hdiscarded : (FrameRecord.complete r).state = .discarded cause := hstate
    have hpoint : w.em.table.find? FrameRecord.unpassed = some (FrameRecord.complete r) := by
      rw [halone]; simp [FrameRecord.unpassed, hdiscarded]
    unfold judgePassPoint
    rw [show w.em.table.length = 0 + 1 by rw [halone]; rfl, runPasses, hpoint]
    dsimp only
    rw [hdiscarded]
    exact if_neg CountStatus.noConfusion
  have hleft : (leaveTable r.number w).em.table = [] := by
    show w.em.table.filter _ = []
    rw [halone]; simp [FrameRecord.complete]
  have htally := tally_passDiscarded (FrameRecord.complete r) cause w
  have hpart : ∀ {β : Type} (f : CueCounters × Option Time × Option Time × Nat → β), f (tally (judgePassPoint w))
      = f (w.cues.counters, some r.c, w.chans.lastGap, bump w.chans.passCount) := fun f => by
    rw [hpasses]; exact congrArg f htally
  refine ⟨?_, ?_, hpart fun p => p.2.1, (hpart fun p => p.2.2.2).trans (by rw [hcount]; rfl), ?_, ?_, ?_,
    numberedIn_of_numbered hnumbered rfl rfl rfl rfl rfl rfl (intake_judgePassPoint _) (lastGap_judgePassPoint _)⟩
  · rw [hpasses]
    rcases (passDiscarded_em (FrameRecord.complete r) cause w).2 with h | h
    · exact h.trans hleft
    · rw [h, show (FrameRecord.complete r).number = r.number from rfl]
      unfold passCurrent; split
      · exact hleft
      · unfold updateFrame; dsimp only; rw [hleft]; rfl
  · rw [judgePassPoint_queue, hem]; rfl
  · rw [hpasses, passes_passDiscarded, hem]; rfl
  · rw [beside_judgePassPoint]; exact Prod.ext hnow hros
  · rw [(Held.judgePassPoint .refl).memory]; exact hmemory

theorem exec_lastProgramme (hgood : RunningCell c cell s) (hhead : isFrameHead cell = false)
    (hsort : sortCell c cell = .programme) (ha : s.intake.assembly = some ⟨some n, 1⟩) :
    exec (.cellTaken cell) s = .next (completeFrame (some n) (placed .programme cell (some n) (received c cell s))) := by
  rw [exec_frameCell hgood hhead ha, hsort]; exact congrArg Host.Outcome.next (placeCell_last le_rfl _ _ _)

theorem NumberedIn.of_parts (h : NumberedIn n x t u) (hc : x.c = r.c)
    (hlast : t.intake.lastComplete = s.intake.lastComplete) (hgaps : t.intake.counters.gaps = s.intake.counters.gaps)
    (hgap : t.chans.lastGap = s.chans.lastGap) : NumberedIn n r s u := by
  have hturn : inTurn n t ↔ inTurn n s := by unfold inTurn; rw [hlast]
  exact ⟨h.assembly, h.last, fun hin => hgaps ▸ hgap ▸ h.turn (hturn.2 hin),
    fun hout => hgaps ▸ hc ▸ h.gap fun hin => hout (hturn.1 hin)⟩

/-- Settles O17: the last cell is placed, then the frame is complete. -/
theorem framesCompleteInTurn : Obligations.FramesCompleteInTurn := by
  unfold Obligations.FramesCompleteInTurn
  intro numbered counted
  have hnumbered : ∀ {n r s t}, NumberedIn n r s t → numbered n r s t := fun h => ⟨h.assembly, h.last, h.turn, h.gap⟩
  refine ⟨?scheduled, ?passes⟩
  case scheduled =>
    intro c cell n r s hgood hhead hsort ha hr hstate hq hroom hn
    have hexec := exec_lastProgramme hgood hhead hsort ha
    obtain ⟨hframe, hnumbers, hqueue, hintake⟩ := placed_room (s := received c cell s) hr hstate hroom cell
    have haside := aside_placed .programme cell (some n) (received c cell s)
    generalize placed _ _ _ (received c cell s) = v at *
    have hpart : ∀ {β : Type} (f : State → β), f (aside v) = f (aside s) := fun f => congrArg f haside
    have htb : v.tb = s.tb := hpart State.tb
    obtain ⟨hscheduled, hkept, hbeside, hmemory, hin⟩ :=
      completeFrame_scheduled hframe hstate (by rw [htb]; exact hq) (hnumbers ▸ hn)
    rw [hqueue, setting_of_inUse (s := received c cell s) hgood.inUse] at hkept
    refine ⟨_, hexec, hnumbered (hin.of_parts rfl (by rw [hintake]; rfl) (by rw [hintake]; rfl) (hpart fun p =>
      p.chans.lastGap)), ?_, ?_, fun a ha => ?_, ?_, ?_, ?_, exec_tb rfl hexec, ?_, ?_⟩
    · exact hscheduled
    · rw [hkept]; exact memRead_memWrite_same _ _ _
    · rw [hkept]; exact memRead_memWrite_other _ _ _ _ ha
    · rw [hkept]; rfl
    · rw [hkept]; rfl
    · rw [hkept]; rfl
    · exact hmemory.trans (hpart fun p => p.store.memory)
    · exact (congrArg Prod.snd hbeside).trans (hpart State.ros)
  case passes =>
    intro c cell n r cause s hgood hhead hsort ha htable hnumber hstate
    have hexec := exec_lastProgramme hgood hhead hsort ha
    have hr : (received c cell s).frame? n = some r := hnumber ▸ frame?_alone htable
    rw [placed_beside hr (by rw [hstate]; exact FrameState.noConfusion)] at hexec
    have hcounted : (updateFrame n (countCell .programme cell) (received c cell s)).em.table
        = [countCell .programme cell r] := hnumber ▸ updateFrame_alone (s := received c cell s) htable _
    obtain ⟨hempty, hqueue, hlast, hcount, hpasses, hbeside, hmemory, hin⟩ :=
      completeFrame_passes hcounted hnumber hstate
    exact ⟨_, hexec, hnumbered (hin.of_parts rfl rfl rfl rfl), hempty, hqueue, hlast, hcount, hpasses,
      exec_tb rfl hexec, hmemory, congrArg Prod.snd hbeside⟩

end Sys2Proof.Proofs
end

section
/-! SUPPORT. The emission state, the mute causes and the starve timer: what each operation of the emission controller and of
feed intake makes of them, and the law of R56 over them alone. -/

namespace Sys2Proof.Proofs

open Sys2Proof Sys2Proof.Machine Sys2Proof.Laws

/-! ### The signals -/

/-- The emission state, the mute causes and the starve timer. -/
structure Signals where
  state : EmissionState
  causes : MuteSet
  starve : Option Time

def signals (s : State) : Signals := ⟨s.em.state, s.em.causes, s.em.starve⟩

/-- The signals once a cause has been added: outside FAULT it stands, and ON_AIR has become MUTED (R57). -/
def Signals.added (c : MuteCause) (m : Signals) : Signals :=
  if m.state = .fault ∨ m.causes.has c = true then m
  else ⟨if m.state = .onAir then .muted else m.state, m.causes.put c true, m.starve⟩

/-- The signals once a cause has been removed: the emission state stays (R58). -/
def Signals.removed (c : MuteCause) (m : Signals) : Signals :=
  if m.state = .fault ∨ m.causes.has c = false then m else { m with causes := m.causes.put c false }

theorem signals_of_em {s t : State} (h : t.em = s.em) : signals t = signals s := by unfold signals; rw [h]

theorem signals_of_outer {s t : State} (h : outer t = outer s) : signals t = signals s := signals_of_em (em_of_outer h)

theorem Moves.signals {s t : State} (m : Moves s t) : signals t = signals s := signals_of_outer m.outer

theorem Quiet.signals {s t : State} (q : Quiet s t) : Proofs.signals t = Proofs.signals s := q.toMoves.signals

variable {s t : State}

/-! ### Operations that leave the signals -/

@[simp] theorem signals_raise (e : Event) (s : State) : signals (raise e s) = signals s := rfl
@[simp] theorem signals_updateFrame (n : Nat) (f : FrameRecord → FrameRecord) (s : State) :
    signals (updateFrame n f s) = signals s := rfl
@[simp] theorem signals_countEm (f : EmissionCounters → EmissionCounters) (s : State) :
    signals (countEm f s) = signals s := rfl
@[simp] theorem signals_startTransfer (c : Cell) (b : Bool) (s : State) : signals (startTransfer c b s) = signals s := rfl
@[simp] theorem signals_leaveTable (n : Nat) (s : State) : signals (leaveTable n s) = signals s := rfl
@[simp] theorem signals_endEmission (n : Nat) (s : State) : signals (endEmission n s) = signals s := rfl
@[simp] theorem signals_makeCurrent (r : FrameRecord) (s : State) : signals (makeCurrent r s) = signals s := rfl
@[simp] theorem signals_advanceInstant (x : Time) (s : State) : signals (advanceInstant x s) = signals s := rfl
@[simp] theorem signals_joinTable (r : FrameRecord) (s : State) : signals (joinTable r s) = signals s := rfl
@[simp] theorem signals_setAssembly (a : Option Assembly) (s : State) : signals (setAssembly a s) = signals s := rfl
@[simp] theorem signals_reportDiscard (n : Nat) (c : DiscardCause) (s : State) :
    signals (reportDiscard n c s) = signals s := rfl
@[simp] theorem signals_countDiscard (c : DiscardCause) (s : State) : signals (countDiscard c s) = signals s := rfl
@[simp] theorem signals_updateZone (f : ZoneLine → ZoneLine) (s : State) : signals (updateZone f s) = signals s := rfl
@[simp] theorem signals_countZone (f : LineCounters → LineCounters) (s : State) : signals (countZone f s) = signals s := rfl
@[simp] theorem signals_urgent (s : State) : signals (urgent s) = signals s := signals_of_outer (outer_urgent s)
@[simp] theorem signals_refresh (s : State) : signals (refresh s) = signals s := signals_of_outer (outer_refresh s)
@[simp] theorem signals_setLatch (l : Latch) (s : State) : signals (setLatch l s) = signals s :=
  signals_of_outer (outer_setLatch l s)
@[simp] theorem signals_joinSlot (k : AnnouncementKind) (s : State) : signals (joinSlot k s) = signals s :=
  signals_of_outer (outer_joinSlot k s)
@[simp] theorem signals_framePass (p : FramePass) (s : State) : signals (framePass p s) = signals s :=
  signals_of_outer (outer_framePass p s)
@[simp] theorem signals_frameGapToChannels (c : Time) (s : State) : signals (frameGapToChannels c s) = signals s :=
  signals_of_outer (outer_frameGapToChannels c s)
@[simp] theorem signals_passChannels (n : Nat) (c : Cell) (s : State) : signals (passChannels n c s).2 = signals s :=
  signals_of_outer (outer_passChannels n c s)

@[simp] theorem signals_checkHigh (s : State) : signals (checkHigh s) = signals s := by
  unfold checkHigh; dsimp only; split <;> rfl
@[simp] theorem signals_checkLow (s : State) : signals (checkLow s) = signals s := by
  unfold checkLow; dsimp only; split <;> rfl
@[simp] theorem signals_freeSlot (s : State) : signals (freeSlot s) = signals s := by
  unfold freeSlot; dsimp only; rw [signals_checkLow]; rfl
@[simp] theorem signals_freeSlots (n : Nat) (s : State) : signals (freeSlots n s) = signals s :=
  iter_keeps signals freeSlot signals_freeSlot n s
@[simp] theorem signals_storeCell (c : Cell) (s : State) : signals (storeCell c s) = signals s := by
  unfold storeCell; dsimp only; rw [signals_checkHigh]; rfl
@[simp] theorem signals_giveBack (n : Nat) (s : State) : signals (giveBack n s) = signals s := by
  unfold giveBack; split
  · rfl
  · split
    · rfl
    · dsimp only; rw [signals_checkLow]; rfl
@[simp] theorem signals_passCurrent (s : State) : signals (passCurrent s) = signals s := by
  unfold passCurrent; split <;> rfl
@[simp] theorem signals_handPass (r : FrameRecord) (d : Disposition) (s : State) :
    signals (handPass r d s) = signals s := by simp [handPass]
@[simp] theorem signals_endIfDone (s : State) : signals (endIfDone s) = signals s := by
  unfold endIfDone; (repeat' split) <;> rfl
@[simp] theorem signals_cutCells (n : Nat) (r : FrameRecord) (s : State) : signals (cutCells n r s) = signals s := by
  simp [cutCells]
@[simp] theorem signals_cutHeld (s : State) : signals (cutHeld s) = signals s := by
  unfold cutHeld; split
  · split
    · rw [signals_endIfDone, signals_cutCells]; rfl
    · rfl
  · rfl
@[simp] theorem signals_cutCurrent (s : State) : signals (cutCurrent s) = signals s := by
  unfold cutCurrent; (repeat' split) <;> simp
@[simp] theorem signals_passOver (x : Time) (s : State) : signals (passOver x s) = signals s := by
  unfold passOver; split
  · rfl
  · dsimp only; split
    · rfl
    · split
      · rw [signals_endIfDone, signals_cutCells]; rfl
      · rfl
@[simp] theorem signals_stepPacing (old new : Time) (s : State) : signals (stepPacing old new s) = signals s := by
  unfold stepPacing; split
  · rw [signals_passOver]; rfl
  · rfl
@[simp] theorem signals_outputFiller (s : State) : signals (outputFiller s) = signals s := by
  unfold outputFiller; split <;> rfl
@[simp] theorem signals_emitCell (r : FrameRecord) (s : State) : signals (emitCell r s) = signals s := by
  simp [emitCell]
@[simp] theorem signals_consumeCell (r : FrameRecord) (s : State) : signals (consumeCell r s) = signals s := by
  simp [consumeCell]
@[simp] theorem signals_markReleased (n : Nat) (s : State) : signals (markReleased n s) = signals s := by
  unfold markReleased; split <;> rfl
@[simp] theorem signals_passReleased (n : Nat) (s : State) : signals (passReleased n s) = signals s := by
  unfold passReleased; split <;> simp
@[simp] theorem signals_paceReleased (r : FrameRecord) (s : State) : signals (paceReleased r s) = signals s := by
  unfold paceReleased; (repeat' split) <;> simp
@[simp] theorem signals_paceCell (x : Time) (r : FrameRecord) (s : State) : signals (paceCell x r s) = signals s := by
  unfold paceCell; split
  · rfl
  · split <;> simp

@[simp] theorem signals_discardAssembling (n : Nat) (c : DiscardCause) (s : State) :
    signals (discardAssembling n c s) = signals s := by simp [discardAssembling]
@[simp] theorem signals_shortRecord (n : Nat) (s : State) : signals (shortRecord n s) = signals s := by
  unfold shortRecord; split
  · rfl
  · dsimp only; split <;> simp
@[simp] theorem signals_checkNumbering (r : FrameRecord) (s : State) : signals (checkNumbering r s) = signals s := by
  have hgap : ∀ t : State, signals (frameGapToChannels r.c (countIntake (fun k => { k with gaps := bump k.gaps }) t))
      = signals t := fun t => signals_frameGapToChannels r.c _
  unfold checkNumbering; dsimp only; split
  · rfl
  · split
    · rfl
    · exact hgap _
@[simp] theorem signals_handCompletion (n : Nat) (s : State) : signals (handCompletion n s) = signals s := by
  unfold handCompletion; (repeat' split) <;> simp
@[simp] theorem signals_storeFrameCell (n : Nat) (c : Cell) (s : State) :
    signals (storeFrameCell n c s) = signals s := by
  unfold storeFrameCell; (repeat' split) <;> simp
@[simp] theorem signals_handCell (c : SiteConfig) (k : CellSort) (cell : Cell) (continuous : Bool) (s : State) :
    signals (handCell c k cell continuous s) = signals s := signals_of_em (handCell_outer c k cell continuous s).1

@[simp] theorem signals_lineTransition (level : Bool) (s : State) : signals (lineTransition level s) = signals s := by
  unfold lineTransition deferAttempt; dsimp only; (repeat' split) <;> simp
@[simp] theorem signals_breakMessage (s : State) : signals (breakMessage s) = signals s := by
  unfold breakMessage hunt giveVerdict; dsimp only; (repeat' split) <;> simp
@[simp] theorem signals_hearPeer (p : Peer) (a : Announcement) (id : Nat) (s : State) :
    signals (hearPeer p a id s) = signals s := by
  have hheard : outer (hearRefusal p.site a id s) = outer s := by
    unfold hearRefusal lateHold; dsimp only; (repeat' split) <;> simp
  exact signals_of_outer ((outer_comparePeer id p _).trans hheard)
@[simp] theorem signals_takeMessage (c : SiteConfig) (b : List Byte) (x : Time) (echo : Bool) (s : State) :
    signals (takeMessage c b x echo s) = signals s := by
  have hroster : ∀ (f : PeerRoster → PeerRoster) (t : State), signals (updateRoster f t) = signals t := fun _ _ => rfl
  have hpeer : ∀ (a : Announcement) (t : State), signals (peerMessage c a x t) = signals t := fun a t => by
    unfold peerMessage; split
    · rfl
    · dsimp only; rw [forEach_keeps signals _ (signals_hearPeer _ a)]; split <;> rfl
  have hduplicate : ∀ t : State, signals (duplicateHeard x t) = signals t := fun t => by
    unfold duplicateHeard; dsimp only; split
    · rfl
    · simp [hroster]
  unfold takeMessage sortMessage; (repeat' split) <;> simp [hroster, hpeer, hduplicate]
@[simp] theorem signals_endMessage (c : SiteConfig) (b : List Byte) (x : Time) (echo : Bool) (s : State) :
    signals (endMessage c b x echo s) = signals s := by
  unfold endMessage discardMessage hunt giveVerdict; dsimp only; (repeat' split) <;> simp

/-! ### Operations that change the signals -/

@[simp] theorem signals_changeEmission (new : EmissionState) (s : State) :
    signals (changeEmission new s) = { signals s with state := new } := by
  unfold changeEmission; dsimp only; rw [signals_urgent, signals_refresh]; rfl
@[simp] theorem signals_enterMuted (s : State) : signals (enterMuted s) = { signals s with state := .muted } := by
  unfold enterMuted; rw [signals_setLatch, signals_changeEmission, signals_passCurrent]
@[simp] theorem signals_addCause (c : MuteCause) (s : State) : signals (addCause c s) = (signals s).added c := by
  unfold addCause Signals.added; dsimp only; split
  · next h => exact (if_pos h).symm
  · next h =>
    refine Eq.trans ?_ (if_neg h).symm
    split
    · next hair => rw [signals_enterMuted, signals_raise]; exact congrArg (Signals.mk · _ _) (if_pos hair).symm
    · next hair => rw [signals_raise]; exact congrArg (Signals.mk · _ _) (if_neg hair).symm
@[simp] theorem signals_removeCause (c : MuteCause) (s : State) :
    signals (removeCause c s) = (signals s).removed c := by
  unfold removeCause Signals.removed; dsimp only; split
  · next h => exact (if_pos h).symm
  · next h => exact (if_neg h).symm
theorem signals_compareU (s : State) : signals (compareU s)
    = if s.emissionLimit < s.tb.u then (signals s).added .time else (signals s).removed .time := by
  unfold compareU; split <;> simp

end Sys2Proof.Proofs
end

section
/-! The law of the emission states (R56, R57, R59 to R63): what each operation of the emission controller, of feed intake, of
the time base and of site control keeps of it. -/

namespace Sys2Proof.Proofs

open Sys2Proof Sys2Proof.Machine Sys2Proof.Laws

/-! ### The law over the signals -/

/-- What the signals follow: the configuration state, U above the emission limit, and the INHIBIT line. -/
structure Inputs where
  config : ConfigState
  excess : Bool
  inhibit : Bool

def inputs (s : State) : Inputs := ⟨s.sc.config, decide (s.emissionLimit < s.tb.u), s.sc.inhibitLine⟩

/-- The inputs with that of one cause put to a value. -/
def Inputs.put (k : Inputs) (c : MuteCause) (v : Bool) : Inputs :=
  match c with
  | .time => { k with excess := v }
  | .inhibit => { k with inhibit := v }
  | .starve => k
  | .discardRun => k

/-- The law of the emission states over the signals and what they follow. -/
structure Airs (k : Inputs) (m : Signals) : Prop where
  clean : m.state = .onAir → m.causes.isEmpty = true
  configured : m.state = .onAir ∨ m.state = .muted → k.config = .valid
  loading : k.config = .loading → m.state = .standby
  time : m.state ≠ .fault → m.causes.time = k.excess
  inhibit : m.state ≠ .fault → m.causes.inhibit = k.inhibit
  standby : m.state = .standby → m.causes.starve = false ∧ m.causes.discardRun = false ∧ m.starve = none

theorem airLaw_iff (s : State) :
    AirLaw s ↔ Airs (inputs s) (signals s) ∧ (s.sc.loader ≠ .waiting → s.sc.config = .loading) :=
  ⟨fun ⟨clean, configured, loading, reading, time, inhibit, standby⟩ =>
      ⟨⟨clean, configured, loading, time, inhibit, standby⟩, reading⟩,
    fun ⟨⟨clean, configured, loading, time, inhibit, standby⟩, reading⟩ =>
      ⟨clean, configured, loading, reading, time, inhibit, standby⟩⟩

theorem emissionLimit_of_rest {s t : State} (h : rest t = rest s) : t.emissionLimit = s.emissionLimit := by
  have hinUse : t.sc.inUse = s.sc.inUse := item_of_latchless (·.inUse) (fun _ => rfl) (congrArg Rest.control h)
  unfold State.emissionLimit State.setting; rw [hinUse]

theorem inputs_of_rest {s t : State} (h : rest t = rest s) (hu : t.tb.u = s.tb.u) : inputs t = inputs s := by
  have hsc : latchless t.sc = latchless s.sc := congrArg Rest.control h
  have hconfig : t.sc.config = s.sc.config := item_of_latchless (·.config) (fun _ => rfl) hsc
  have hline : t.sc.inhibitLine = s.sc.inhibitLine := item_of_latchless (·.inhibitLine) (fun _ => rfl) hsc
  unfold inputs; rw [hconfig, hline, emissionLimit_of_rest h, hu]

theorem inputs_of_frame {s t : State} (h : frame t = frame s) : inputs t = inputs s :=
  inputs_of_rest (congrArg Prod.snd h) (congrArg (fun p => p.1.u) h)

/-- A command that leaves site control but for the latches keeps the law where it keeps it over the signals. -/
theorem airLaw_of_rest {s t : State} (hs : AirLaw s) (h : rest t = rest s) (ha : Airs (inputs t) (signals t)) :
    AirLaw t := by
  have hsc : latchless t.sc = latchless s.sc := congrArg Rest.control h
  have hconfig : t.sc.config = s.sc.config := item_of_latchless (·.config) (fun _ => rfl) hsc
  have hloader : t.sc.loader = s.sc.loader := item_of_latchless (·.loader) (fun _ => rfl) hsc
  exact (airLaw_iff t).2 ⟨ha, by rw [hconfig, hloader]; exact hs.reading⟩

theorem airs_of_airLaw {s : State} (h : AirLaw s) : Airs (inputs s) (signals s) := ((airLaw_iff s).1 h).1

/-- An operation that leaves the inputs and keeps the law over the signals keeps the law. -/
theorem airLaw_of_frame {s t : State} (hs : AirLaw s) (h : frame t = frame s) (ha : Airs (inputs s) (signals t)) :
    AirLaw t := airLaw_of_rest hs (congrArg Prod.snd h) (by rw [inputs_of_frame h]; exact ha)

theorem airLaw_of_signals {s t : State} (hs : AirLaw s) (h : frame t = frame s) (ha : signals t = signals s) : AirLaw t :=
  airLaw_of_frame hs h (by rw [ha]; exact airs_of_airLaw hs)

variable {s t : State} {k : Inputs} {m : Signals}

/-! ### The causes -/

theorem put_same {x : MuteSet} {c : MuteCause} {v : Bool} (h : x.has c = v) : x.put c v = x := by
  subst h; cases c <;> rfl

theorem put_excess {x : MuteSet} (h : x.time = k.excess) (c : MuteCause) (v : Bool) :
    (x.put c v).time = (k.put c v).excess := by
  cases c with
  | time => rfl
  | inhibit | starve | discardRun => exact h

theorem put_inhibit {x : MuteSet} (h : x.inhibit = k.inhibit) (c : MuteCause) (v : Bool) :
    (x.put c v).inhibit = (k.put c v).inhibit := by
  cases c with
  | inhibit => rfl
  | time | starve | discardRun => exact h

@[simp] theorem put_config (k : Inputs) (c : MuteCause) (v : Bool) : (k.put c v).config = k.config := by cases c <;> rfl

theorem isEmpty_put_false {x : MuteSet} (h : x.isEmpty = true) (c : MuteCause) : (x.put c false).isEmpty = true := by
  simp only [MuteSet.isEmpty, Bool.not_eq_true', Bool.or_eq_false_iff] at h ⊢
  obtain ⟨⟨⟨htime, hinhibit⟩, hstarve⟩, hrun⟩ := h
  cases c with
  | time => exact ⟨⟨⟨rfl, hinhibit⟩, hstarve⟩, hrun⟩
  | inhibit => exact ⟨⟨⟨htime, rfl⟩, hstarve⟩, hrun⟩
  | starve => exact ⟨⟨⟨htime, hinhibit⟩, rfl⟩, hrun⟩
  | discardRun => exact ⟨⟨⟨htime, hinhibit⟩, hstarve⟩, rfl⟩

/-- A cause that stands as its input asks changes nothing; in FAULT the causes are not kept. -/
theorem Airs.put_same (h : Airs k m) {c : MuteCause} {v : Bool} (hkept : m.state = .fault ∨ m.causes.has c = v) :
    Airs (k.put c v) m := by
  obtain ⟨clean, configured, loading, time, inhibit, standby⟩ := h
  rw [← put_config k c v] at configured loading
  refine ⟨clean, configured, loading, fun hf => ?_, fun hf => ?_, standby⟩
  · rw [← Proofs.put_same (hkept.resolve_left hf)]; exact put_excess (time hf) c v
  · rw [← Proofs.put_same (hkept.resolve_left hf)]; exact put_inhibit (inhibit hf) c v

/-- A cause comes in with its input; STARVE and DISCARD_RUN come in outside STANDBY alone. -/
theorem Airs.added (h : Airs k m) (c : MuteCause) (hc : m.state = .standby → c = .time ∨ c = .inhibit) :
    Airs (k.put c true) (m.added c) := by
  unfold Signals.added; split
  · next hkept => exact h.put_same hkept
  · next hnew =>
    obtain ⟨clean, configured, loading, time, inhibit, standby⟩ := h
    have hf : m.state ≠ .fault := fun hf => hnew (.inl hf)
    rw [← put_config k c true] at configured loading
    by_cases hair : m.state = .onAir
    · rw [if_pos hair]
      refine ⟨nofun, fun _ => configured (.inl hair), fun hl => ?_, fun _ => put_excess (time hf) c _,
        fun _ => put_inhibit (inhibit hf) c _, nofun⟩
      exact nomatch hair.symm.trans (loading hl)
    · rw [if_neg hair]
      refine ⟨fun ha => absurd ha hair, configured, loading, fun _ => put_excess (time hf) c _,
        fun _ => put_inhibit (inhibit hf) c _, fun hs => ?_⟩
      rcases hc hs with rfl | rfl <;> exact standby hs

/-- A cause goes out with its input. -/
theorem Airs.removed (h : Airs k m) (c : MuteCause) : Airs (k.put c false) (m.removed c) := by
  unfold Signals.removed; split
  · next hkept => exact h.put_same hkept
  · obtain ⟨clean, configured, loading, time, inhibit, standby⟩ := h
    rw [← put_config k c false] at configured loading
    refine ⟨fun ha => isEmpty_put_false (clean ha) c, configured, loading, fun hf => put_excess (time hf) c _,
      fun hf => put_inhibit (inhibit hf) c _, fun hs => ?_⟩
    obtain ⟨hstarve, hrun, htimer⟩ := standby hs
    cases c with
    | time | inhibit => exact ⟨hstarve, hrun, htimer⟩
    | starve => exact ⟨rfl, hrun, htimer⟩
    | discardRun => exact ⟨hstarve, rfl, htimer⟩

/-- U compared with the limit: the TIME cause follows, whatever it followed before (R60). -/
theorem Airs.compareU (h : Airs k (signals s)) :
    Airs (k.put .time (decide (s.emissionLimit < s.tb.u))) (signals (compareU s)) := by
  rw [signals_compareU]; split
  · next hu => rw [decide_eq_true hu]; exact h.added .time fun _ => .inl rfl
  · next hu => rw [decide_eq_false hu]; exact h.removed .time

/-! ### Passes and releases -/

theorem Airs.discardPassed (h : Airs k (signals s)) : Airs k (signals (discardPassed s)) := by
  have hcounted : ∀ d r, Airs k (signals { s with em := { s.em with discardRun := d, releaseRun := r } }) :=
    fun _ _ => h
  unfold Machine.discardPassed; split
  · next hair =>
    dsimp only; split
    · rw [signals_addCause]
      refine (hcounted _ _).added .discardRun fun hs => ?_
      rcases hair with hair | hair <;> exact nomatch hair.symm.trans hs
    · exact hcounted _ _
  · exact h

theorem Airs.runPasses (n : Nat) (h : Airs k (signals s)) : Airs k (signals (runPasses n s)) := by
  induction n generalizing s with
  | zero => exact h
  | succ n ih =>
    have hpassed : ∀ r c, Airs k (signals (passDiscarded r c s)) := fun r c =>
      Airs.discardPassed (by rw [signals_leaveTable, signals_handPass]; exact h)
    unfold Machine.runPasses; split
    · split
      · split
        · exact h
        · exact ih (hpassed _ _)
      · exact h
    · exact h

theorem Airs.judgePassPoint (h : Airs k (signals s)) : Airs k (signals (judgePassPoint s)) := h.runPasses _

theorem Airs.releaseCauses (h : Airs k (signals s)) : Airs k (signals (releaseCauses s)) := by
  have hstarve : Airs k (signals (removeCause .starve s)) := by rw [signals_removeCause]; exact h.removed .starve
  have hcounted : ∀ d r, Airs k (signals { removeCause .starve s with
      em := { (removeCause .starve s).em with discardRun := d, releaseRun := r } }) := fun _ _ => hstarve
  unfold Machine.releaseCauses; dsimp only; split
  · split
    · rw [signals_removeCause]; exact (hcounted _ _).removed .discardRun
    · exact hcounted _ _
  · exact hcounted _ _

/-- A release goes ON_AIR with a VALID configuration and an empty cause set alone (R56, R58). -/
theorem Airs.decideEmission (h : Airs k (signals s)) (hk : k.config = s.sc.config) :
    Airs k (signals (decideEmission s)) := by
  have hair : k.config = .valid → s.em.causes.isEmpty = true → s.em.state ≠ .fault →
      Airs k (signals (changeEmission .onAir s)) := fun hvalid hempty hf => by
    rw [signals_changeEmission]
    exact ⟨fun _ => hempty, fun _ => hvalid, fun hl => (nomatch hvalid.symm.trans hl), fun _ => h.time hf,
      fun _ => h.inhibit hf, nofun⟩
  unfold Machine.decideEmission; split
  · next hs =>
    split
    · next hclean =>
      obtain ⟨hstarve, hrun, -⟩ := h.standby hs
      simp only [Bool.and_eq_true, State.isValid, beq_iff_eq, Bool.not_eq_true'] at hclean
      obtain ⟨⟨hvalid, htime⟩, hinhibit⟩ := hclean
      refine hair (hk.trans hvalid) ?_ (by rw [hs]; exact EmissionState.noConfusion)
      unfold MuteSet.isEmpty
      rw [htime, hinhibit, show s.em.causes.starve = false from hstarve, show s.em.causes.discardRun = false from hrun]; rfl
    · exact h
  · next hs =>
    split
    · next hempty => exact hair (h.configured (.inr hs)) hempty (by rw [hs]; exact EmissionState.noConfusion)
    · exact h
  · exact h
  · exact h

theorem Airs.loadStarve (q : Time) (h : Airs k (signals s)) : Airs k (signals (loadStarve q s)) := by
  unfold Machine.loadStarve; split
  · next hair =>
    refine ⟨h.clean, h.configured, h.loading, h.time, h.inhibit, fun hs => ?_⟩
    rcases hair with hair | hair <;> exact nomatch hair.symm.trans hs
  · exact h

theorem Airs.releaseFrame (r : FrameRecord) (h : Airs k (signals s)) (hk : k.config = s.sc.config) :
    Airs k (signals (releaseFrame r s)) := by
  have hcut : Airs k (signals (cutCurrent s)) := by rw [signals_cutCurrent]; exact h
  have hcalm : calm (Machine.releaseCauses (cutCurrent s)) = calm s := by simp
  have hconfig : (Machine.releaseCauses (cutCurrent s)).sc.config = s.sc.config :=
    item_of_latchless (·.config) (fun _ => rfl) (congrArg Still.control (still_of_calm hcalm))
  have hloaded := (hcut.releaseCauses.decideEmission (hk.trans hconfig.symm)).loadStarve r.q
  have hmarked := hloaded.judgePassPoint
  rw [← signals_markReleased r.number, ← signals_passReleased r.number, ← signals_makeCurrent r] at hmarked
  unfold Machine.releaseFrame; dsimp only
  rw [signals_paceReleased]; exact hmarked.judgePassPoint

/-! ### Feed intake -/

theorem Airs.endShort (h : Airs k (signals s)) : Airs k (signals (endShort s)) := by
  unfold Machine.endShort; split
  · exact h
  · refine Airs.judgePassPoint ?_
    split <;> simpa using h

theorem Airs.completeFrame (n : Option Nat) (h : Airs k (signals s)) : Airs k (signals (completeFrame n s)) := by
  unfold Machine.completeFrame; dsimp only; split
  · exact h
  · split
    · exact h
    · exact Airs.judgePassPoint (by simpa using h)

theorem Airs.bodyCell (c : SiteConfig) (cell : Cell) (continuous : Bool) (h : Airs k (signals s)) :
    Airs k (signals (bodyCell c cell continuous s)) := by
  unfold Machine.bodyCell; split
  · exact h
  · next a _ =>
    have hplaced : Airs k (signals (match a.record with
        | none => handCell c (sortCell c cell) cell continuous s
        | some n => storeFrameCell n (standsAs (sortCell c cell) cell)
          (updateFrame n (countCell (sortCell c cell) cell) (handCell c (sortCell c cell) cell continuous s)))) := by
      split <;> simpa using h
    unfold placeCell; dsimp only; split
    · exact hplaced.completeFrame _
    · exact hplaced

theorem Airs.takeFrameHead (c : SiteConfig) (x : FrameHead) (cell : Cell) (h : Airs k (signals s)) :
    Airs k (signals (takeFrameHead c x cell s)) := by
  have hended := h.endShort
  unfold Machine.takeFrameHead
  generalize Machine.endShort s = u at hended ⊢
  dsimp only; split
  · exact hended
  · exact hended
  · rw [signals_setAssembly, signals_storeFrameCell]; exact hended

theorem Airs.malformedHead (h : Airs k (signals s)) : Airs k (signals (malformedHead s)) :=
  Airs.endShort (s := countIntake _ s) h

theorem Airs.goodCell (cell : Cell) (h : Airs k (signals s)) : Airs k (signals (goodCell cell s)) := by
  have htracked : Airs k (signals (trackContinuity cell s)) := h
  have hloaded : ∀ c, Airs k (signals (loadLossTimer c (trackContinuity cell s))) := fun _ => h
  unfold Machine.goodCell; split
  · exact h
  · dsimp only; split
    · unfold runningCell; dsimp only; split
      · split
        · exact (hloaded _).takeFrameHead _ _ _
        · exact (hloaded _).malformedHead
      · exact (hloaded _).bodyCell _ _ _
    · unfold lostCell; dsimp only; split
      · split
        · exact Airs.takeFrameHead _ _ _ htracked
        · exact htracked.malformedHead
      · exact h

theorem Airs.loseFeed (h : Airs k (signals s)) : Airs k (signals (loseFeed s)) := by
  have hended : Airs k (signals (dropExpectations (Machine.endShort { s with
      intake := { s.intake with feed := .lost, lossTimer := none } }))) := Airs.endShort h
  rw [← signals_of_outer (outer_endSegment _)] at hended
  exact hended

end Sys2Proof.Proofs
end

section
/-! Every step keeps the law of the emission states (R56, R57, R59 to R63). -/

namespace Sys2Proof.Proofs

open Sys2Proof Sys2Proof.Machine Sys2Proof.Laws

variable {s t : State} {k : Inputs}

/-! ### The time base -/

theorem signals_updateTime (f : TimeBase → TimeBase) (s : State) : signals (updateTime f s) = signals s := rfl

theorem Airs.shift (n : Int) (h : Airs k (signals s)) : Airs k (signals (s.shift n)) := by
  refine ⟨h.clean, h.configured, h.loading, h.time, h.inhibit, fun hs => ?_⟩
  obtain ⟨hstarve, hrun, htimer⟩ := h.standby hs
  exact ⟨hstarve, hrun, congrArg (Option.map (shiftTime n)) htimer⟩

theorem Airs.wrapTime (h : Airs k (signals s)) : Airs k (signals s.wrapTime) := by
  unfold State.wrapTime; split
  · exact h.shift _
  · split
    · exact h.shift _
    · exact h

theorem airLaw_tick (h : AirLaw s) : AirLaw (tick s) := by
  have hrest : rest (tick s) = rest { s with osc := s.osc + 1 } := rest_wrapTime _
  have hu : (tick s).tb.u = s.tb.u := by rw [tick_tb, wrapped_u]; rfl
  have hticked : AirLaw { s with osc := s.osc + 1 } := { h with }
  refine airLaw_of_rest hticked hrest ?_
  rw [inputs_of_rest hrest hu]
  exact Airs.wrapTime (airs_of_airLaw hticked)

theorem Airs.replaceTime (new : Time) (h : Airs k (signals s)) : Airs k (signals (replaceTime new s)) := by
  unfold Machine.replaceTime; dsimp only
  refine Airs.wrapTime ?_
  rw [signals_stepPacing]; exact h

theorem Airs.stepTime (label : Nat) (h : Airs k (signals s)) : Airs k (signals (stepTime label s)) :=
  h.replaceTime (stepTarget s.tb.now label)

theorem Airs.enterAcquire (label : Nat) (h : Airs k (signals s)) : Airs k (signals (enterAcquire label s)) :=
  h.stepTime label

/-- A mark at the discipline leaves the signals, but for the starve timer across a wrap of S. -/
theorem Airs.disciplineMark (label : Nat) (h : Airs k (signals s)) : Airs k (signals (disciplineMark label s)) := by
  unfold Machine.disciplineMark; dsimp only; split
  · exact h.replaceTime (label * Config.second)
  · by_cases he : 10 < (phaseError s.tb.now label).natAbs
    · rw [acquireMark_step he]; exact h.stepTime label
    · by_cases hrun : s.tb.acquireRun = 7
      · rw [acquireMark_track (Nat.not_lt.1 he) label hrun]; exact h
      · rw [acquireMark_run (Nat.not_lt.1 he) label hrun]; exact h
  · by_cases he : 100 < (phaseError s.tb.now label).natAbs
    · by_cases hrun : s.tb.excessRun = 2
      · rw [trackStateMark_third he label hrun]; exact h.enterAcquire label
      · rw [trackStateMark_excess he label hrun]; exact h
    · rw [trackStateMark_small (Nat.not_lt.1 he)]; exact h
  · unfold holdoverMark; split
    · exact h
    · exact h.enterAcquire label

/-- Once a change of the time base has settled, the signals follow U again, if they followed it before the change. -/
theorem airs_settleTime {before : TimeBase} (h : Airs { inputs s with excess := decide (s.emissionLimit < before.u) }
    (signals s)) : Airs (inputs (settleTime before s)) (signals (settleTime before s)) := by
  have hrest : rest (settleTime before s) = rest s := rest_of_still (settleTime_still before s)
  have hu : (settleTime before s).tb.u = s.tb.u := by rw [settleTime_tb]; exact changeTest_u _ _
  rw [inputs_of_rest hrest hu]
  have hgrade : ∀ u : State, signals (if u.tb.grade = before.grade then u else refresh (urgent u)) = signals u :=
    fun u => by split <;> simp
  unfold settleTime; dsimp only
  rw [hgrade]
  generalize hr : regrade (updateTime (fun t => t.changeTest before) s) = r
  have hem : signals r = signals s := by rw [← hr, signals_of_em (em_regrade _), signals_updateTime]
  have hlatched : (if timeCause before r.tb then setLatch .time r else r).tb.u = s.tb.u
      ∧ signals (if timeCause before r.tb then setLatch .time r else r) = signals s
      ∧ rest (if timeCause before r.tb then setLatch .time r else r) = rest s := by
    have hru : r.tb.u = s.tb.u := by rw [← hr, regrade_tb]; exact changeTest_u _ _
    have hrr : rest r = rest s := by rw [← hr, rest_of_still (still_regrade _)]; rfl
    split
    · exact ⟨(congrArg TimeBase.u (tb_of_outer (outer_setLatch .time r))).trans hru, (signals_setLatch _ r).trans hem,
        (congrArg Prod.snd (frame_setLatch .time r)).trans hrr⟩
    · exact ⟨hru, hem, hrr⟩
  obtain ⟨hlu, hlsignals, hlrest⟩ := hlatched
  generalize (if timeCause before r.tb then setLatch .time r else r) = v at hlu hlsignals hlrest
  split
  · next hsame =>
    have hbefore : before.u = s.tb.u := hsame.symm.trans hlu
    rw [hlsignals]; rw [hbefore] at h; exact h
  · rw [← hlsignals] at h
    have hcompared := h.compareU
    rw [emissionLimit_of_rest hlrest, hlu] at hcompared
    exact hcompared

theorem airLaw_growHoldover (h : AirLaw s) : AirLaw (growHoldover s) := by
  refine airLaw_of_rest h (rest_of_still (still_growHoldover s)) ?_
  unfold growHoldover; dsimp only; split
  · exact airs_settleTime (s := updateTime _ s) (airs_of_airLaw h)
  · exact airs_of_airLaw h

theorem airLaw_boundary (h : AirLaw s) : AirLaw (boundary s) := by
  unfold boundary; split
  · have hmet : AirLaw (boundaryMet s) := by
      have hsignals : signals (boundaryMet s) = signals s := by
        unfold boundaryMet
        rw [startSchedule_eq]
        exact (Quiet.expireAll _ .refl).signals
      refine airLaw_of_rest h (rest_of_still (still_boundaryMet s)) ?_
      rw [inputs_of_rest (rest_of_still (still_boundaryMet s)) (by rw [boundaryMet_tb]), hsignals]
      exact airs_of_airLaw h
    rw [raiseBoundary_eq]
    exact airLaw_of_signals (airLaw_growHoldover hmet) (frame_formReport _) rfl
  · exact h

theorem airLaw_updateRef (r : Ref) (f : RefRecord → RefRecord) (h : AirLaw s) : AirLaw (updateRef r f s) := by
  have hrest : rest (updateRef r f s) = rest s := rfl
  have hu : (updateRef r f s).tb.u = s.tb.u := updateRef_u s.tb r f
  refine airLaw_of_rest h hrest ?_
  rw [inputs_of_rest hrest hu]
  exact airs_of_airLaw h

/-- A change of the references' records and of the selection reaches neither U nor the signals. -/
theorem airLaw_giveMarkVerdict (r : Ref) (v : Verdict) (h : AirLaw s) : AirLaw (giveMarkVerdict r v s) := by
  have hjudged := airLaw_updateRef r (fun x => x.judged v) h
  unfold giveMarkVerdict validityChanged; dsimp only; split
  · exact hjudged
  · have hraised := airLaw_of_signals hjudged
      (frame_raise (.refState r ((updateRef r (fun x => x.judged v) s).tb.ref r).valid) _) rfl
    generalize raise _ _ = u at hraised
    have hrest : rest (reselect u) = rest u := rest_of_still (still_reselect u)
    refine airLaw_of_rest hraised hrest ?_
    rw [inputs_of_rest hrest (by rw [reselect_tb]; exact (reselected_items _).2.2.2.1),
      signals_of_em (reselect_blocks u).1]
    exact airs_of_airLaw hraised

theorem airLaw_takeMark (r : Ref) (label : Nat) (h : AirLaw s) : AirLaw (takeMark r label s) := by
  rw [takeMark_eq]; split
  · apply airLaw_boundary
    have hrest := rest_disciplineMark label s
    have hmet : AirLaw (settleTime s.tb (updateTime (fun t => { t with lastTaken := some t.now })
        (disciplineMark label s))) := by
      refine airLaw_of_rest h ((rest_of_still (settleTime_still _ _)).trans hrest) (airs_settleTime ?_)
      have hmarked := (airs_of_airLaw h).disciplineMark label
      have hsc : latchless (disciplineMark label s).sc = latchless s.sc := congrArg Rest.control hrest
      have hinputs : { inputs (updateTime (fun t => { t with lastTaken := some t.now }) (disciplineMark label s)) with
          excess := decide ((disciplineMark label s).emissionLimit < s.tb.u) } = inputs s := by
        unfold inputs
        rw [emissionLimit_of_rest hrest]
        simp only [Inputs.mk.injEq, true_and]
        exact ⟨item_of_latchless (·.config) (fun _ => rfl) hsc, item_of_latchless (·.inhibitLine) (fun _ => rfl) hsc⟩
      exact hinputs ▸ hmarked
    unfold markMet; dsimp only; split
    · exact airLaw_updateRef _ _ hmet
    · exact hmet
  · exact h

theorem airLaw_markArrives (r : Ref) (h : AirLaw s) : AirLaw (markArrives r s) := by
  have hjudged := fun v => airLaw_giveMarkVerdict r v (airLaw_updateRef r (marked s.tb) h)
  unfold markArrives; dsimp only; rw [recordMark_eq]; split
  · exact airLaw_takeMark _ _ (hjudged _)
  · exact hjudged _

/-! ### Site control -/

theorem signals_loadFault (cause : LoadFault) (s : State) :
    signals (loadFault cause s) = { signals s with state := .fault } := by
  unfold loadFault; simp only [signals_setLatch, signals_changeEmission, signals_raise]; rfl

theorem airLaw_loadFault (cause : LoadFault) (s : State) : AirLaw (loadFault cause s) := by
  have hsc : latchless (loadFault cause s).sc = latchless { s.sc with
      config := .fault, loader := .waiting, faultCause := some cause, faults := bump s.sc.faults } :=
    congrArg (fun p => p.2.control) (frame_loadFault cause s)
  have hconfig : (loadFault cause s).sc.config = .fault := item_of_latchless (·.config) (fun _ => rfl) hsc
  have hloader : (loadFault cause s).sc.loader = .waiting := item_of_latchless (·.loader) (fun _ => rfl) hsc
  have hfault : (inputs (loadFault cause s)).config = .fault := hconfig
  rw [airLaw_iff, signals_loadFault]
  refine ⟨⟨nofun, fun h => ?_, fun h => (nomatch hfault.symm.trans h), fun h => absurd rfl h, fun h => absurd rfl h, nofun⟩,
    fun h => absurd hloader h⟩
  rcases h with h | h <;> cases h

/-- A record that comes into use is compared with U (R60). -/
theorem airLaw_loadValid (c : SiteConfig) (h : AirLaw s) : AirLaw (loadValid c s) := by
  obtain ⟨m, hm⟩ := fitTaken_parts (s.fitted .a) (s.fitted .b) (takeRoster c (enableReceiver
    (raise (.configLoaded s.sc.loadCause c.check) (updateControl (loaded c) s))))
  have hvalid : loadValid c s = checkLow (checkHigh (compareU (reselect (fitTaken (s.fitted .a) (s.fitted .b)
    (takeRoster c (enableReceiver (raise (.configLoaded s.sc.loadCause c.check) (updateControl (loaded c) s)))))))) := rfl
  rw [hvalid, hm]
  generalize hv : ({ takeRoster c (enableReceiver (raise (.configLoaded s.sc.loadCause c.check)
    (updateControl (loaded c) s))) with tb := _, mon := m } : State) = v
  have hsc : v.sc = loaded c s.sc := by subst hv; rfl
  have hem : v.em = s.em := by subst hv; rfl
  have hy : signals (reselect v) = signals s := signals_of_em ((reselect_blocks v).1.trans hem)
  have hrest : rest (reselect v) = rest v := rest_of_still (still_reselect v)
  have hcontrol : latchless (reselect v).sc = latchless (loaded c s.sc) := hsc ▸ congrArg Rest.control hrest
  generalize reselect v = y at hy hcontrol
  have hconfig : y.sc.config = .valid := item_of_latchless (·.config) (fun _ => rfl) hcontrol
  have hloader : y.sc.loader = .waiting := item_of_latchless (·.loader) (fun _ => rfl) hcontrol
  have hline : y.sc.inhibitLine = (loaded c s.sc).inhibitLine := item_of_latchless (·.inhibitLine) (fun _ => rfl) hcontrol
  have hstill : still (checkLow (checkHigh (compareU y))) = still y := still_of_calm (calm_takenUp y)
  have hu : (checkLow (checkHigh (compareU y))).tb = y.tb := tb_of_calm (calm_takenUp y)
  have hbefore := airs_of_airLaw h
  have hairs : Airs ⟨.valid, s.em.causes.time, y.sc.inhibitLine⟩ (signals y) := by
    rw [hy, show y.sc.inhibitLine = s.sc.inhibitLine from hline]
    exact ⟨hbefore.clean, fun _ => rfl, nofun, fun _ => rfl, hbefore.inhibit, hbefore.standby⟩
  refine (airLaw_iff _).2 ⟨?_, fun hl => ?_⟩
  · rw [inputs_of_rest (rest_of_still hstill) (congrArg TimeBase.u hu), signals_checkLow, signals_checkHigh]
    have hinputs : inputs y = ⟨.valid, decide (y.emissionLimit < y.tb.u), y.sc.inhibitLine⟩ := by
      unfold inputs; rw [hconfig]
    rw [hinputs]; exact hairs.compareU
  · have hkept : (checkLow (checkHigh (compareU y))).sc.loader = y.sc.loader :=
      item_of_latchless (·.loader) (fun _ => rfl) (congrArg Still.control hstill)
    exact absurd (hkept.trans hloader) hl

theorem airLaw_restartBlocks (s : State) : AirLaw (restartBlocks s) := by
  have hquiet := restartStore_quiet (blanked s)
  have hframe : frame (restartStore (blanked s)) = frame (blanked s) := frame_restartStore _
  have hblanked : AirLaw (blanked s) :=
    { clean := nofun
      configured := fun h => h.elim nofun nofun
      loading := fun _ => rfl
      reading := fun h => absurd rfl h
      time := fun _ => rfl
      inhibit := fun _ => rfl
      standby := fun _ => ⟨rfl, rfl, rfl⟩ }
  have hstore := airLaw_of_signals hblanked hframe hquiet.signals
  rw [restartBlocks_eq]
  generalize restartStore (blanked s) = u at hstore
  exact { hstore with }

end Sys2Proof.Proofs
end

section
/-! Every step keeps the law of the emission states (R56, R57, R59 to R63), and what the law says of ON_AIR. -/

namespace Sys2Proof.Proofs

open Sys2Proof Sys2Proof.Machine Sys2Proof.Laws

variable {s t : State}

/-! ### The commands of the other blocks -/

/-- Of the commands that keep the frame, those that may change the signals. -/
def airing : Instr → Bool
  | .cellTaken _ => true
  | .feedLoss => true
  | .assemblingLate => true
  | .frameRelease => true
  | .starveExpiry => true
  | _ => false

theorem signals_overrideChannels (s : State) : signals (overrideChannels s) = signals s :=
  signals_of_outer (outer_overrideChannels s)

theorem signals_judgeLatch (l : Latch) (s : State) : signals (judgeLatch l s) = signals s := by
  unfold judgeLatch; split
  · exact signals_of_outer (outer_putLatch l false s)
  · rfl

theorem signals_exec {c : Instr} (hf : framed c = true) (ha : airing c = false) (h : exec c s = .next t) :
    signals t = signals s := by
  have hquiet : ∀ {u : State}, Quiet s u → signals u = signals s := Quiet.signals
  have hrefl : Quiet s s := .refl
  cases c with
  | runtCell => rw [next_inj h]; rfl
  | messageBroken => rw [next_inj h]; exact signals_breakMessage s
  | reportSpanExpiry | attemptStart | echoWindowOpen | monitorRecordEnd | transferEnd | silenceTimerExpiry site =>
    rw [next_inj h]; split <;> rfl
  | attemptEnd | echoWindowClose => rw [next_inj h]; (repeat' split) <;> rfl
  | cellInstant =>
    rw [next_inj h]; split
    · rw [signals_advanceInstant, signals_paceCell]
    · rfl
  | fillerInstant =>
    rw [next_inj h]; split
    · rw [signals_advanceInstant]; split
      · rfl
      · exact signals_outputFiller s
    · rfl
  | checkComplete =>
    rw [next_inj h]; split
    · exact hquiet (hrefl.finishCheck _)
    · rfl
  | decisionInstant =>
    rw [next_inj h]; split
    · exact hquiet (hrefl.decideRecord _)
    · rfl
  | lockInstant id =>
    rw [next_inj h]; split
    · split
      · exact hquiet (hrefl.lockGo _)
      · exact hquiet (hrefl.lockHold _)
    · rfl
  | endInstant id =>
    rw [next_inj h]; split
    · split
      · exact hquiet (hrefl.endPlay _)
      · exact hquiet ((hrefl.channelMove _ _ _).settleRemoval _)
    · rfl
  | removalInstant id =>
    rw [next_inj h]; split
    · exact hquiet (hrefl.removeRecord _)
    · rfl
  | watchOpen id =>
    rw [next_inj h]; split
    · split
      · rfl
      · exact hquiet ((hrefl.updateRecord _ _).compareAll _)
    · rfl
  | watchClose id =>
    rw [next_inj h]; split <;> rfl
  | deferral level | lineBusy level => rw [next_inj h]; split <;> simp
  | retryStart =>
    have hretry : ∀ f, signals (retryKind f s).2 = signals s := fun f => by unfold retryKind; split <;> rfl
    rw [next_inj h]; split
    · exact hretry _
    · rfl
  | lineIdle =>
    rw [next_inj h]; split
    · exact signals_breakMessage _
    · rfl
  | periodicDue =>
    rw [next_inj h]; split
    · exact signals_joinSlot _ s
    · rfl
  | zoneMessage bytes =>
    simp only [exec, execZoneMessage] at h
    split at h
    · rw [next_inj h]; split
      · exact signals_endMessage _ _ _ _ s
      · rfl
    · cases h
  | openingMark high =>
    have hedge : signals (if s.zone.rxLevel then lineTransition false s else s) = signals s := by split <;> simp
    rw [next_inj h, ← hedge]
    generalize (if s.zone.rxLevel then lineTransition false s else s) = u
    split
    · exact signals_breakMessage u
    · rfl
  | cellTaken | feedLoss | assemblingLate | frameRelease | starveExpiry => cases ha
  | _ => cases hf

/-- STARVE_EXPIRY comes in ON_AIR or MUTED alone: in STANDBY the timer is stopped (R61). -/
theorem airs_starveExpiry {k : Inputs} (h : Airs k (signals s)) (hdue : isDue s.tb.now s.em.starve = true) :
    Airs k (({ signals s with starve := none } : Signals).added .starve) := by
  have hstate : s.em.state ≠ .standby := fun hs => by
    obtain ⟨-, -, htimer⟩ := h.standby hs
    rw [show s.em.starve = none from htimer] at hdue; cases hdue
  have hstopped : Airs k { signals s with starve := none } :=
    ⟨h.clean, h.configured, h.loading, h.time, h.inhibit, fun hs => absurd hs hstate⟩
  exact hstopped.added .starve fun hs => absurd hs hstate

theorem airs_exec {c : Instr} {k : Inputs} (ha : airing c = true) (hk : k.config = s.sc.config)
    (hs : Airs k (signals s)) (h : exec c s = .next t) : Airs k (signals t) := by
  cases c with
  | cellTaken cell =>
    simp only [exec, execCellTaken] at h
    split at h
    · rw [next_inj h]; split
      · exact Airs.goodCell (s := setReception none s) cell hs
      · exact hs
    · cases h
  | feedLoss =>
    rw [next_inj h]; split
    · exact hs.loseFeed
    · exact hs
  | assemblingLate =>
    rw [next_inj h]; split
    · exact Airs.judgePassPoint (by rw [signals_discardAssembling]; exact hs)
    · exact hs
  | frameRelease =>
    rw [next_inj h]; split
    · exact hs.releaseFrame _ hk
    · exact hs
  | starveExpiry =>
    rw [next_inj h]; split
    · next hdue => dsimp only; rw [signals_addCause, signals_countEm]; exact airs_starveExpiry hs hdue
    · exact hs
  | _ => cases ha

/-! ### Every step -/

theorem airLaw_restart (hs : AirLaw s) (h : exec .restart s = .next t) : AirLaw t := by
  rw [next_inj h]; split
  · exact hs
  · dsimp only; split
    · exact { hs with }
    · exact airLaw_restartBlocks _

/-- A read begins while the configuration state is LOADING alone (R179). -/
theorem airLaw_loadStart (hs : AirLaw s) (h : exec .loadStart s = .next t) : AirLaw t := by
  rw [next_inj h]; split
  · exact hs
  · unfold startRead; split
    · next hloading => exact { hs with reading := fun _ => hloading.1 }
    · exact { hs with }

theorem airLaw_configReadComplete {record : List Byte} (hs : AirLaw s)
    (h : exec (.configReadComplete record) s = .next t) : AirLaw t := by
  simp only [exec, execConfigReadComplete] at h
  split at h
  · rw [next_inj h]; split
    · unfold loadRecord; split
      · next clamps _ =>
        obtain ⟨m, hm⟩ := raiseAll_parts clamps s
        rw [hm]; exact airLaw_loadValid _ { hs with }
      · exact airLaw_loadFault _ _
    · exact hs
  · cases h

/-- The INHIBIT cause goes with its line (R61, R187). -/
theorem airLaw_inhibitChange {active : Bool} (hs : AirLaw s) (h : exec (.inhibitChange active) s = .next t) :
    AirLaw t := by
  rw [next_inj h]; split
  · exact hs
  · dsimp only
    generalize hv : raise (.siteLine .inhibit active) (updateControl (fun c => { c with
      inhibitLine := active, inhibitSince := s.osc }) s) = v
    have hsignals : signals v = signals s := by subst hv; rfl
    have hinputs : inputs v = (inputs s).put .inhibit active := by subst hv; rfl
    have hreading : v.sc.loader ≠ .waiting → v.sc.config = .loading := by subst hv; exact hs.reading
    have hcaused : ∀ w : State, frame w = frame v → Airs ((inputs s).put .inhibit active) (signals w) → AirLaw w := by
      intro w hw ha
      have hsc : latchless w.sc = latchless v.sc := congrArg (fun p => p.2.control) hw
      have hconfig : w.sc.config = v.sc.config := item_of_latchless (·.config) (fun _ => rfl) hsc
      have hloader : w.sc.loader = v.sc.loader := item_of_latchless (·.loader) (fun _ => rfl) hsc
      exact (airLaw_iff w).2 ⟨by rw [inputs_of_frame hw, hinputs]; exact ha, by rw [hconfig, hloader]; exact hreading⟩
    have hbefore : Airs (inputs s) (signals v) := hsignals ▸ airs_of_airLaw hs
    cases active with
    | true =>
      refine hcaused (addCause .inhibit v) (frame_addCause _ _) ?_
      rw [signals_addCause]; exact hbefore.added .inhibit fun _ => .inr rfl
    | false =>
      refine hcaused (removeCause .inhibit v) (frame_removeCause _ _) ?_
      rw [signals_removeCause]; exact hbefore.removed .inhibit

theorem airLaw_overrideChange {active : Bool} (hs : AirLaw s) (h : exec (.overrideChange active) s = .next t) :
    AirLaw t := by
  rw [next_inj h]; split
  · exact hs
  · dsimp only
    generalize hv : raise (.siteLine .override active) (updateControl (fun c => { c with
      overrideLine := active, overrideSince := s.osc }) s) = v
    have hlaw : AirLaw v := by subst hv; exact { hs with }
    have hrefreshed : AirLaw (urgent (refresh v)) := airLaw_of_signals hlaw (by simp) (by simp)
    split
    · exact airLaw_of_signals hrefreshed (frame_overrideChannels _) (signals_overrideChannels _)
    · exact hrefreshed

theorem airLaw_latchClear (hs : AirLaw s) (h : exec .latchClear s = .next t) : AirLaw t := by
  rw [next_inj h]; split
  · exact hs
  · generalize hv : updateControl (fun c => { c with latchClearLine := true, latchClearSince := s.osc }) s = v
    have hlaw : AirLaw v := by subst hv; exact { hs with }
    exact airLaw_of_signals hlaw (forEach_keeps frame _ frame_judgeLatch _ v)
      (forEach_keeps signals _ signals_judgeLatch _ v)

theorem airLaw_exec {c : Instr} (hs : AirLaw s) (h : exec c s = .next t) : AirLaw t := by
  cases hf : framed c with
  | true =>
    refine airLaw_of_frame hs (frame_exec hf h) ?_
    cases ha : airing c with
    | true => exact airs_exec ha rfl (airs_of_airLaw hs) h
    | false => rw [signals_exec hf ha h]; exact airs_of_airLaw hs
  | false =>
    cases c with
    | powerOnReset => rw [next_inj h]; exact { airLaw_reset with }
    | restart => exact airLaw_restart hs h
    | loadStart => exact airLaw_loadStart hs h
    | configReadComplete record => exact airLaw_configReadComplete hs h
    | noRecord firstByte =>
      rw [next_inj h]; split
      · exact airLaw_loadFault _ _
      · exact hs
    | inhibitChange active => exact airLaw_inhibitChange hs h
    | overrideChange active => exact airLaw_overrideChange hs h
    | latchClear => exact airLaw_latchClear hs h
    | latchClearRelease =>
      rw [next_inj h]; split
      · exact { hs with }
      · exact hs
    | labelRecord r record =>
      simp only [exec, execLabelRecord] at h
      split at h
      · rw [next_inj h]; split
        · exact airLaw_updateRef _ _ hs
        · exact hs
      · cases h
    | markArrival r =>
      rw [next_inj h]; split
      · exact airLaw_markArrives r hs
      · exact hs
    | missingVerdict r =>
      rw [next_inj h]; split
      · exact airLaw_giveMarkVerdict r .missing (airLaw_updateRef r _ hs)
      · exact hs
    | secondBoundary => rw [next_inj h]; exact airLaw_boundary hs
    | _ => cases hf

theorem airLaw_step (hs : AirLaw s) (h : step s = .next t) : AirLaw t := by
  have hqueued : ∀ q, AirLaw { s with pending := q } := fun _ => { hs with }
  have hchosen : AirLaw { s with choices := s.choices + 1 } := { hs with }
  unfold step at h; split at h
  · exact airLaw_exec (hqueued _) h
  · unfold idle at h; split at h
    · exact airLaw_exec hchosen h
    · rw [next_inj h]; exact airLaw_tick hs

/-- Settles O60: every step keeps the law, and in ON_AIR no cause stands (R56). -/
theorem onAirOnlyWhileItMayBe : Obligations.OnAirOnlyWhileItMayBe := by
  unfold Obligations.OnAirOnlyWhileItMayBe
  refine ⟨fun s t => airLaw_step, fun s hs hair => ?_⟩
  have hempty := hs.clean hair
  simp only [MuteSet.isEmpty, Bool.not_eq_true', Bool.or_eq_false_iff] at hempty
  obtain ⟨⟨⟨htime, hinhibit⟩, -⟩, -⟩ := hempty
  have hf : s.em.state ≠ .fault := by rw [hair]; exact EmissionState.noConfusion
  refine ⟨hs.configured (.inl hair), ?_, (hs.inhibit hf).symm.trans hinhibit⟩
  exact Nat.not_lt.1 (of_decide_eq_false ((hs.time hf).symm.trans htime))

end Sys2Proof.Proofs
end

section
/-! SUPPORT. Site control under a recomputation of the stances: no latch is set while DECIDED_GO records go to HOLD. -/

namespace Sys2Proof.Proofs

open Sys2Proof Sys2Proof.Machine Sys2Proof.Laws

/-! ### The spot store -/

theorem sc_endSegment (s : State) : (endSegment s).sc = s.sc := by
  unfold endSegment dropCapture; split <;> rfl

section Notify

variable {notify : State → State} (hn : ∀ s, (notify s).sc = s.sc)
include hn

theorem sc_makeMissing (src : Option DamageSource) (id : Nat) (l : List Nat) (s : State) :
    (makeMissing notify src id l s).sc = s.sc := by
  unfold makeMissing; split
  · rfl
  · dsimp only; rw [hn]; cases src <;> rfl
theorem sc_removeEntry (id : Nat) (s : State) : (removeEntry notify id s).sc = s.sc := by
  unfold removeEntry; split
  · rfl
  · dsimp only; rw [hn]
    split
    · split
      · exact sc_endSegment s
      · rfl
    · rfl
    · rfl
theorem sc_tryExpire (id : Nat) (s : State) : (tryExpire notify id s).sc = s.sc := by
  unfold tryExpire; split
  · rfl
  · split
    · exact sc_removeEntry hn _ _
    · rfl
theorem sc_releaseSpot (x : Spot) (s : State) : (releaseSpot notify x s).sc = s.sc := by
  unfold releaseSpot; split
  · rfl
  · exact sc_tryExpire hn _ _
theorem sc_applyPending (src : Option DamageSource) (id : Nat) (s : State) :
    (applyPending notify src id s).sc = s.sc := by
  unfold applyPending; split
  · rfl
  · split
    · rfl
    · exact sc_makeMissing hn _ _ _ _
theorem sc_unfreezeSpot (x : Spot) (s : State) : (unfreezeSpot notify x s).sc = s.sc := by
  unfold unfreezeSpot; split
  · rfl
  · dsimp only; split
    · rw [sc_tryExpire hn, sc_applyPending hn]; rfl
    · rfl
theorem sc_unbindChannel (k : Nat) (s : State) : (unbindChannel notify k s).sc = s.sc := by
  have hstart : ∀ (n : Nat) (t : State), (notify (updateRecord n (fun r => { r with channel := none }) t)).sc = t.sc :=
    fun _ _ => hn _
  unfold unbindChannel; split
  · rfl
  · rw [raise_sc, forEach_keeps State.sc _ (sc_releaseSpot hn)]
    split
    · rw [forEach_keeps State.sc _ (sc_unfreezeSpot hn)]; exact hstart _ _
    · exact hstart _ _

end Notify

/-! ### The agreement unit -/

@[simp] theorem sc_urgent (s : State) : (urgent s).sc = s.sc := by
  unfold urgent joinSlot; (repeat' split) <;> rfl
@[simp] theorem sc_refreshRecord (id : Nat) (s : State) : (refreshRecord id s).sc = s.sc := by
  unfold refreshRecord setStance; (repeat' split) <;> simp [reportStance]
@[simp] theorem sc_refreshOpen (s : State) : (refreshOpen s).sc = s.sc :=
  forEach_keeps State.sc _ sc_refreshRecord _ s
@[simp] theorem sc_moveState (id : Nat) (new : BreakState) (s : State) : (moveState id new s).sc = s.sc := by
  unfold moveState; split <;> rfl
@[simp] theorem sc_holdRecord (id : Nat) (h : HoldReason) (s : State) : (holdRecord id h s).sc = s.sc := by
  unfold holdRecord; split
  · rfl
  · dsimp only; rw [sc_refreshOpen]
    have hmoved : (updateRecord id (fun x => { x with stance := .hold h }) (moveState id .decidedHold s)).sc = s.sc :=
      sc_moveState _ _ s
    have hcounted : ∀ f (t : State), (countAgree f t).sc = t.sc := fun _ _ => rfl
    have hreported : ∀ o n (t : State), (reportStance id o n t).sc = t.sc := fun _ _ _ => rfl
    split <;> rw [hcounted, sc_urgent, hreported] <;> split <;> simp only [sc_unbindChannel sc_refreshOpen, hmoved]
@[simp] theorem sc_reconcileBut (x n : Nat) (s : State) : (reconcileBut x n s).sc = s.sc := by
  induction n generalizing s with
  | zero => exact sc_refreshOpen s
  | succ n ih =>
    unfold reconcileBut; split
    · rw [ih, sc_holdRecord]
    · exact sc_refreshOpen s
@[simp] theorem sc_refresh (s : State) : (refresh s).sc = s.sc := sc_reconcileBut _ _ s

@[simp] theorem sc_changeEmission (new : EmissionState) (s : State) : (changeEmission new s).sc = s.sc := by
  unfold changeEmission; dsimp only; rw [sc_urgent, sc_refresh]; rfl

end Sys2Proof.Proofs
end

section
/-! The load that starts, and the load that ends in FAULT (R59, R179 to R181, R185, R186). -/

namespace Sys2Proof.Proofs

open Sys2Proof Sys2Proof.Machine Sys2Proof.Laws

variable {s t : State}

/-! ### A change of the emission state -/

theorem changeEmission_onAir_em (s : State) :
    (changeEmission .onAir s).em = { s.em with state := .onAir, carrier := true } := by
  unfold changeEmission; dsimp only; rw [em_of_outer (outer_urgent _), em_of_outer (outer_refresh _)]; rfl

theorem changeEmission_fault_em (s : State) :
    (changeEmission .fault s).em = { s.em with state := .fault, carrier := false } := by
  unfold changeEmission; dsimp only; rw [em_of_outer (outer_urgent _), em_of_outer (outer_refresh _)]; rfl

/-- Time base, feed intake, roster, spots held and record in use: what the emission controller leaves alone. -/
theorem kept_of_calm (h : calm t = calm s) : t.tb = s.tb ∧ t.intake = s.intake ∧ t.ros = s.ros
    ∧ t.store.memory = s.store.memory ∧ t.sc.inUse = s.sc.inUse :=
  have hstill := still_of_calm h
  ⟨tb_of_calm h, intake_of_still hstill, congrArg Still.ros hstill, memory_of_still hstill, inUse_of_still hstill⟩

/-! ### A load that ends in FAULT -/

/-- Site control in FAULT (R59, R185). -/
def faulted (cause : LoadFault) (c : SiteControl) : SiteControl :=
  { c with config := .fault, loader := .waiting, faultCause := some cause, faults := bump c.faults }

theorem loadFault_eq (cause : LoadFault) (s : State) : loadFault cause s
    = setLatch .air (changeEmission .fault (setLatch .fault (raise (.configFault cause)
      (updateControl (faulted cause) s)))) := rfl

theorem calm_loadFault (cause : LoadFault) (s : State) :
    calm (loadFault cause s) = calm (updateControl (faulted cause) s) := by
  have hair : Latch.air ≠ .time := nofun
  have hfault : Latch.fault ≠ .time := nofun
  rw [loadFault_eq, calm_setLatch hair, calm_changeEmission, calm_setLatch hfault, calm_raise]

theorem loadFault_em (cause : LoadFault) (s : State) :
    (loadFault cause s).em = { s.em with state := .fault, carrier := false } := by
  rw [loadFault_eq, em_of_outer (outer_setLatch _ _), changeEmission_fault_em, em_of_outer (outer_setLatch _ _)]; rfl

theorem loadFault_latches (cause : LoadFault) (s : State) :
    (loadFault cause s).sc.latch .air = true ∧ (loadFault cause s).sc.latch .fault = true := by
  rw [loadFault_eq]; simp only [setLatch_latch, sc_changeEmission]
  exact ⟨rfl, rfl⟩

theorem loadFault_parts (cause : LoadFault) (s : State) :
    (loadFault cause s).sc.config = .fault ∧ (loadFault cause s).sc.loader = .waiting
      ∧ (loadFault cause s).sc.faultCause = some cause ∧ (loadFault cause s).sc.inUse = s.sc.inUse
      ∧ (loadFault cause s).sc.faults = min (s.sc.faults + 1) 4294967295
      ∧ (loadFault cause s).sc.latchAir = true ∧ (loadFault cause s).sc.latchFault = true
      ∧ (loadFault cause s).em.state = .fault ∧ (loadFault cause s).em.carrier = false
      ∧ (loadFault cause s).em.queue = s.em.queue ∧ (loadFault cause s).tb = s.tb ∧ (loadFault cause s).ros = s.ros
      ∧ (loadFault cause s).intake = s.intake ∧ (loadFault cause s).store.memory = s.store.memory := by
  have hcalm := calm_loadFault cause s
  obtain ⟨htb, hintake, hros, hmemory, hinUse⟩ := kept_of_calm hcalm
  obtain ⟨hair, hfault⟩ := loadFault_latches cause s
  have hsc : latchless (loadFault cause s).sc = latchless (faulted cause s.sc) :=
    congrArg Still.control (still_of_calm hcalm)
  have hem := loadFault_em cause s
  refine ⟨item_of_latchless (·.config) (fun _ => rfl) hsc, item_of_latchless (·.loader) (fun _ => rfl) hsc,
    item_of_latchless (·.faultCause) (fun _ => rfl) hsc, hinUse, item_of_latchless (·.faults) (fun _ => rfl) hsc,
    hair, hfault, ?_, ?_, ?_, htb, hros, hintake, hmemory⟩ <;> rw [hem]

/-! ### The tests of a record -/

theorem judgeRecord_badCheck {record : List Byte}
    (hcheck : crc32 (record.take 74) ≠ BitVec.ofNat 32 (numAt record 74 4)) :
    judgeRecord record = .fault .badCheck [] := if_pos hcheck

theorem judgeRecord_badFormat {record : List Byte}
    (hcheck : crc32 (record.take 74) = BitVec.ofNat 32 (numAt record 74 4)) (hformat : numAt record 0 2 ≠ 0x3C01) :
    judgeRecord record = .fault .badFormat [] := by
  unfold judgeRecord
  rw [if_neg (not_not.2 hcheck)]
  exact if_pos hformat

theorem judgeRecord_tagConflict {record : List Byte}
    (hcheck : crc32 (record.take 74) = BitVec.ofNat 32 (numAt record 74 4)) (hformat : numAt record 0 2 = 0x3C01)
    (htags : (clampRecord record).1.controlTag = (clampRecord record).1.assetTag) :
    judgeRecord record = .fault .tagConflict (clampRecord record).2 := by
  unfold judgeRecord
  rw [if_neg (not_not.2 hcheck), if_neg (not_not.2 hformat)]
  exact if_pos htags

/-- A record that a test refuses ends the load in FAULT, its CONFIG_CLAMP events first (R181). -/
theorem exec_configReadComplete_fault {record : List Byte} {since : Nat} (hlen : record.length = 78)
    (hreading : s.sc.loader = .reading since) {cause : LoadFault} {clamps : List Event}
    (hfault : judgeRecord record = .fault cause clamps) :
    ∃ m, exec (.configReadComplete record) s = .next (loadFault cause { s with mon := m }) := by
  obtain ⟨m, hm⟩ := raiseAll_parts clamps s
  have hwell : (Instr.configReadComplete record).wellFormed = true := by simp [Instr.wellFormed, hlen]
  have hread : s.sc.loader.isReading = true := by rw [hreading]; rfl
  have hexec : exec (.configReadComplete record) s = .next (loadRecord record s) :=
    (if_pos hwell).trans (congrArg Host.Outcome.next (if_pos hread))
  have hload : loadRecord record s = loadFault cause { s with mon := m } := by
    unfold loadRecord; rw [hfault]; dsimp only; rw [hm]
  exact ⟨m, hexec.trans (congrArg Host.Outcome.next hload)⟩

/-! ### The statement -/

theorem exec_loadStart_request (hline : s.sc.restartTaken = false ∨ s.sc.restartLine = true)
    (hsettled : s.sc.restartSince + 100000 ≤ s.osc) (hconfig : s.sc.config = .loading)
    (hloader : s.sc.loader = .waiting) :
    exec .loadStart s = .next { s with sc := { s.sc with
      restartLine := false
      restartTaken := true
      restartSince := if s.sc.restartLine = true then s.osc else s.sc.restartSince
      loader := .reading s.osc } } := by
  have htaken : ¬((s.sc.restartTaken = true ∧ s.sc.restartLine = false)
      ∨ lineSettled s.sc.restartSince s = false) := by
    rintro (⟨htaken, hlow⟩ | hunsettled)
    · rcases hline with h | h
      · exact Bool.false_ne_true (h.symm.trans htaken)
      · exact Bool.false_ne_true (hlow.symm.trans h)
    · exact of_decide_eq_false hunsettled hsettled
  refine (congrArg Host.Outcome.next (if_neg htaken)).trans (congrArg Host.Outcome.next ?_)
  exact if_pos ⟨hconfig, hloader⟩

/-- Settles O50: a LOAD_START asks for the record, and each of the four ways a load can fail is a load fault. -/
theorem loadsStartAndMayEndInFault : Obligations.LoadsStartAndMayEndInFault := by
  unfold Obligations.LoadsStartAndMayEndInFault
  refine ⟨fun s => exec_loadStart_request, fun record since s hlen hreading hcheck => ?_,
    fun record since s hlen hreading hcheck hformat => ?_,
    fun record since s hlen hreading hcheck hformat htags => ?_, fun firstByte since s hreading hlate => ?_⟩
  · obtain ⟨m, hexec⟩ := exec_configReadComplete_fault hlen hreading (judgeRecord_badCheck hcheck)
    exact ⟨_, hexec, loadFault_parts .badCheck { s with mon := m }⟩
  · obtain ⟨m, hexec⟩ := exec_configReadComplete_fault hlen hreading (judgeRecord_badFormat hcheck hformat)
    exact ⟨_, hexec, loadFault_parts .badFormat { s with mon := m }⟩
  · obtain ⟨m, hexec⟩ := exec_configReadComplete_fault hlen hreading (judgeRecord_tagConflict hcheck hformat htags)
    exact ⟨_, hexec, loadFault_parts .tagConflict { s with mon := m }⟩
  · have hdue : noRecordDue firstByte s = true := by
      unfold noRecordDue; rw [hreading]; exact decide_eq_true hlate
    exact ⟨_, congrArg Host.Outcome.next (if_pos hdue), loadFault_parts .noRecord s⟩

end Sys2Proof.Proofs
end

section
/-! SUPPORT. A mute cause that newly comes in or goes out: the state that follows, the AIR latch, the current frame. -/

namespace Sys2Proof.Proofs

open Sys2Proof Sys2Proof.Machine Sys2Proof.Laws

variable {s t : State} {c : MuteCause}

/-! ### Entry to MUTED -/

theorem enterMuted_latchAir (s : State) : (enterMuted s).sc.latch .air = true := by
  unfold enterMuted; rw [setLatch_latch]; rfl

theorem current_of_carried {m m' : Emission} (h : carried m = carried m') :
    m.current = m'.current ∧ m.nextCell = m'.nextCell ∧ m.transfer = m'.transfer ∧ m.counters = m'.counters :=
  ⟨show (carried m).current = (carried m').current by rw [h], show (carried m).nextCell = (carried m').nextCell by rw [h],
    show (carried m).transfer = (carried m').transfer by rw [h],
    show (carried m).counters = (carried m').counters by rw [h]⟩

theorem currentFrame_of_carried (h : carried t.em = carried s.em) : t.currentFrame = s.currentFrame := by
  unfold State.currentFrame State.frame?
  rw [(current_of_carried h).1, table_of_carried h]

/-- The current frame becomes PASSED; nothing else of the controller changes. -/
theorem passCurrent_em (s : State) : (passCurrent s).em = { s.em with table := (passCurrent s).em.table } := by
  unfold passCurrent; split <;> rfl

/-- The record with its emission ended: PASSED where it was EMITTING (R57). -/
def stopped (r : FrameRecord) : FrameRecord := if r.state = .emitting then { r with state := .passed } else r

theorem stopped_state (r : FrameRecord) : (stopped r).state ≠ .emitting := by
  unfold stopped; split
  · nofun
  · assumption

theorem passCurrent_some {n : Nat} (h : s.em.current = some n) : passCurrent s = updateFrame n stopped s := by
  unfold passCurrent; rw [h]; rfl

theorem passCurrent_currentFrame {r : FrameRecord} (h : (passCurrent s).currentFrame = some r) :
    r.state ≠ .emitting := by
  have hr := currentFrame_number h
  have hcurrent : s.em.current = some r.number := by rw [passCurrent_em] at hr; exact hr
  have hframe : (passCurrent s).frame? r.number = some r := by unfold State.currentFrame at h; rw [hr] at h; exact h
  rw [passCurrent_some hcurrent] at hframe
  obtain ⟨x, -, hx⟩ := List.mem_map.1 (frame?_mem hframe).1
  split at hx
  · rw [← hx]; exact stopped_state x
  · next hother => rw [← hx] at hother; simp at hother

/-! ### A cause that changes -/

/-- The cause set with one cause put to a value, and the change reported. -/
def causePut (c : MuteCause) (v : Bool) (s : State) : State :=
  raise (.muteCause c v (s.em.causes.put c v)) { s with em := { s.em with causes := s.em.causes.put c v } }

theorem addCause_new (hf : s.em.state ≠ .fault) (hc : s.em.causes.has c = false) :
    addCause c s = if s.em.state = .onAir then enterMuted (causePut c true s) else causePut c true s :=
  if_neg (not_or.2 ⟨hf, Bool.eq_false_iff.1 hc⟩)

theorem removeCause_standing (hf : s.em.state ≠ .fault) (hc : s.em.causes.has c = true) :
    removeCause c s = causePut c false s :=
  if_neg (not_or.2 ⟨hf, fun h => Bool.noConfusion (hc.symm.trans h)⟩)

theorem addCause_new_signals (hf : s.em.state ≠ .fault) (hc : s.em.causes.has c = false) :
    (addCause c s).em.causes = s.em.causes.put c true
      ∧ (addCause c s).em.state = (if s.em.state = .onAir then .muted else s.em.state)
      ∧ (addCause c s).em.starve = s.em.starve := by
  have hadded := signals_addCause c s
  unfold Signals.added at hadded
  have hnew : ¬((signals s).state = .fault ∨ (signals s).causes.has c = true) :=
    not_or.2 ⟨hf, Bool.eq_false_iff.1 hc⟩
  rw [if_neg hnew] at hadded
  exact ⟨congrArg Signals.causes hadded, congrArg Signals.state hadded, congrArg Signals.starve hadded⟩

theorem addCause_new_latchAir (hf : s.em.state ≠ .fault) (hc : s.em.causes.has c = false) :
    (addCause c s).sc.latch .air = (s.sc.latch .air || s.em.state == .onAir) := by
  rw [addCause_new hf hc]; split
  · next hair => rw [enterMuted_latchAir, hair]; simp
  · next hair => rw [beq_eq_false_iff_ne.2 hair, Bool.or_false]; rfl

theorem addCause_queue (c : MuteCause) (s : State) : (addCause c s).em.queue = s.em.queue := by
  rcases carried_addCause c s with h | h
  · exact queue_of_carried h
  · rw [queue_of_carried h, passCurrent_em]

end Sys2Proof.Proofs
end
section
/-! STARVE_EXPIRY and INHIBIT_CHANGE (R57, R58, R61, R187). -/

namespace Sys2Proof.Proofs

open Sys2Proof Sys2Proof.Machine Sys2Proof.Laws

variable {s : State}

/-- The starve timer has run out: it stops, and the expiry is counted (R61). -/
def starved (s : State) : State :=
  countEm (fun k => { k with starves := bump k.starves }) { s with em := { s.em with starve := none } }

theorem exec_starveExpiry (hdue : isDue s.tb.now s.em.starve = true) :
    exec .starveExpiry s = .next (addCause .starve (starved s)) :=
  congrArg Host.Outcome.next (if_pos hdue)

theorem starveExpiry_mutes (hair : s.em.state = .onAir) (hc : s.em.causes.starve = false) {t : State}
    (ht : t = addCause .starve (starved s)) :
    t.em.state = .muted ∧ t.em.starve = none ∧ t.em.causes.starve = true
      ∧ t.em.counters.starves = min (s.em.counters.starves + 1) 4294967295 ∧ t.sc.latchAir = true
      ∧ (∀ r, t.currentFrame = some r → r.state ≠ .emitting) ∧ t.em.transfer = s.em.transfer
      ∧ t.em.queue = s.em.queue ∧ t.em.current = s.em.current ∧ t.em.nextCell = s.em.nextCell
      ∧ t.tb = s.tb ∧ t.intake = s.intake ∧ t.ros = s.ros ∧ t.store.memory = s.store.memory := by
  have hf : (starved s).em.state ≠ .fault := by rw [show (starved s).em.state = .onAir from hair]; nofun
  obtain ⟨hcauses, hstate, hstarve⟩ := addCause_new_signals hf (c := .starve) hc
  have hlatch := addCause_new_latchAir hf (c := .starve) hc
  obtain ⟨htb, hintake, hros, hmemory, -⟩ := kept_of_calm (calm_addCause .starve (starved s))
  have hmuted : addCause .starve (starved s) = enterMuted (causePut .starve true (starved s)) :=
    (addCause_new hf (c := .starve) hc).trans (if_pos hair)
  have hcarried : carried t.em = carried (passCurrent (causePut .starve true (starved s))).em := by
    rw [ht, hmuted]; exact carried_enterMuted _
  obtain ⟨hcurrent, hnext, htransfer, hcounters⟩ := current_of_carried hcarried
  have hqueue := queue_of_carried hcarried
  rw [passCurrent_em] at hcurrent hnext htransfer hcounters hqueue
  rw [← ht] at hcauses hstate hstarve hlatch htb hintake hros hmemory
  refine ⟨hstate.trans (if_pos hair), hstarve, congrArg MuteSet.starve hcauses, congrArg EmissionCounters.starves hcounters,
    ?_, fun r hr => ?_, htransfer, hqueue, hcurrent, hnext, htb, hintake, hros, hmemory⟩
  · refine hlatch.trans ?_
    rw [show (starved s).em.state = .onAir from hair]; simp
  · rw [currentFrame_of_carried hcarried] at hr; exact passCurrent_currentFrame hr

/-- The level of the INHIBIT line taken, and reported (R187). -/
def inhibitTaken (active : Bool) (s : State) : State :=
  raise (.siteLine .inhibit active)
    (updateControl (fun c => { c with inhibitLine := active, inhibitSince := s.osc }) s)

theorem exec_inhibitChange {active : Bool} (hline : s.sc.inhibitLine ≠ active)
    (hsettled : s.sc.inhibitSince + 100000 ≤ s.osc) : exec (.inhibitChange active) s
      = .next (if active = true then addCause .inhibit (inhibitTaken active s)
        else removeCause .inhibit (inhibitTaken active s)) := by
  refine congrArg Host.Outcome.next (if_neg (not_or.2 ⟨hline, fun hunsettled => ?_⟩))
  exact of_decide_eq_false hunsettled hsettled

/-- What an INHIBIT_CHANGE leaves alone beside the cause set: the line is taken, the record in use stays. -/
theorem inhibitTaken_control {active : Bool} {t : State} (h : calm t = calm (inhibitTaken active s)) :
    t.sc.inhibitLine = active ∧ t.sc.inhibitSince = s.osc ∧ t.tb = s.tb ∧ t.intake = s.intake ∧ t.ros = s.ros
      ∧ t.store.memory = s.store.memory ∧ t.sc.inUse = s.sc.inUse ∧ t.sc.overrideLine = s.sc.overrideLine := by
  have hsc : latchless t.sc = latchless (inhibitTaken active s).sc := congrArg Still.control (still_of_calm h)
  obtain ⟨htb, hintake, hros, hmemory, hinUse⟩ := kept_of_calm h
  have hoverride : t.sc.overrideLine = (inhibitTaken active s).sc.overrideLine :=
    item_of_latchless (·.overrideLine) (fun _ => rfl) hsc
  exact ⟨item_of_latchless (·.inhibitLine) (fun _ => rfl) hsc, item_of_latchless (·.inhibitSince) (fun _ => rfl) hsc, htb,
    hintake, hros, hmemory, hinUse, hoverride⟩

/-- Settles O20: the expiry adds STARVE in ON_AIR, and the INHIBIT cause is put to the level of its line. -/
theorem muteCausesFollowTheirInputs : Obligations.MuteCausesFollowTheirInputs := by
  unfold Obligations.MuteCausesFollowTheirInputs
  refine ⟨fun s hdue hair hc => ⟨_, exec_starveExpiry hdue, starveExpiry_mutes hair hc rfl⟩,
    fun active s hline hsettled hf hcause => ?_⟩
  refine ⟨_, exec_inhibitChange hline hsettled, ?_⟩
  cases active with
  | true =>
    have hc : (inhibitTaken true s).em.causes.has .inhibit = false := hcause.trans (Bool.eq_false_iff.2 hline)
    obtain ⟨hcauses, hstate, -⟩ := addCause_new_signals (s := inhibitTaken true s) hf hc
    have hlatch := addCause_new_latchAir (s := inhibitTaken true s) hf hc
    have hqueue := addCause_queue .inhibit (inhibitTaken true s)
    obtain ⟨htaken, hsince, htb, hintake, hros, hmemory, hinUse, hoverride⟩ :=
      inhibitTaken_control (s := s) (calm_addCause .inhibit (inhibitTaken true s))
    refine ⟨htaken, hsince, hcauses, ?_, ?_, hqueue, htb, hintake, hros, hmemory, hinUse, hoverride⟩
    · rw [if_pos rfl, hstate]; simp only [true_and]; rfl
    · rw [Bool.true_and]; exact hlatch
  | false =>
    have hc : (inhibitTaken false s).em.causes.has .inhibit = true := hcause.trans (Bool.eq_true_of_not_eq_false hline)
    obtain ⟨htaken, hsince, htb, hintake, hros, hmemory, hinUse, hoverride⟩ :=
      inhibitTaken_control (s := s) (calm_removeCause .inhibit (inhibitTaken false s))
    rw [if_neg Bool.false_ne_true, removeCause_standing (s := inhibitTaken false s) hf hc] at *
    exact ⟨htaken, hsince, rfl, (if_neg (by simp)).symm, by simp; rfl, rfl, htb, hintake, hros, hmemory, hinUse, hoverride⟩

end Sys2Proof.Proofs
end

section
/-! SUPPORT. A slot freed, a cell let out or consumed, and the end of a frame's emission: the state that follows. -/

namespace Sys2Proof.Proofs

open Sys2Proof Sys2Proof.Machine Sys2Proof.Laws

variable {s t : State} {r : FrameRecord}

/-! ### A slot freed -/

/-- The queue once its oldest slot is free (R46, R47). -/
def freedQueue (s : State) : CellQueue := { s.em.queue with
  oldest := (s.em.queue.oldest + 1) % 65536
  occupancy := s.em.queue.occupancy - 1
  high := s.em.queue.high && decide (s.setting SiteConfig.almostEmpty 4096 < s.em.queue.occupancy - 1) }

theorem freeSlot_queue (s : State) : (freeSlot s).em = { s.em with queue := freedQueue s } := by
  unfold freeSlot; dsimp only; rw [checkLow_em]; rfl

theorem freedQueue_congr (hqueue : t.em.queue = s.em.queue) (hinUse : t.sc.inUse = s.sc.inUse) :
    freedQueue t = freedQueue s := by
  unfold freedQueue State.setting; rw [hqueue, hinUse]

theorem checkLow_mon (s : State) : (checkLow s).mon
    = if (s.em.queue.high && decide (s.em.queue.occupancy ≤ s.setting SiteConfig.almostEmpty 4096)) = true
      then (raise (.queueLow s.em.queue.occupancy) s).mon else s.mon := by
  unfold checkLow; dsimp only; split <;> rfl

/-- The monitor port once the oldest slot is free: the fall of the high flag is reported (R47). -/
def freedMon (s : State) : Monitor :=
  if s.em.queue.high = true ∧ (freedQueue s).high = false then (raise (.queueLow (s.em.queue.occupancy - 1)) s).mon
  else s.mon

theorem freeSlot_eq (s : State) :
    freeSlot s = { s with em := { s.em with queue := freedQueue s }, mon := freedMon s } := by
  have hfalls : (s.em.queue.high && decide (s.em.queue.occupancy - 1 ≤ s.setting SiteConfig.almostEmpty 4096)) = true
      ↔ s.em.queue.high = true ∧ (freedQueue s).high = false := by
    simp only [freedQueue, Bool.and_eq_true, decide_eq_true_eq]
    refine and_congr_right fun hhigh => ?_
    rw [hhigh, Bool.true_and, decide_eq_false_iff_not, Nat.not_lt]
  have hem := freeSlot_queue s
  have hmon : (freeSlot s).mon = freedMon s := (checkLow_mon _).trans (if_congr hfalls rfl rfl)
  have hrest : freeSlot s = { s with em := (freeSlot s).em, mon := (freeSlot s).mon } := by
    unfold freeSlot checkLow; dsimp only; split <;> rfl
  rw [hem, hmon] at hrest; exact hrest

/-! ### The record of the current frame -/

theorem currentFrame_eq {n : Nat} (h : s.em.current = some n) : s.currentFrame = s.frame? n := by
  unfold State.currentFrame; rw [h]

/-- A change of the current frame's record that keeps its number. -/
theorem currentFrame_updateFrame (h : s.currentFrame = some r) {f : FrameRecord → FrameRecord}
    (hf : ∀ x, (f x).number = x.number) : (updateFrame r.number f s).currentFrame = some (f r) := by
  have hcurrent := currentFrame_number h
  rw [currentFrame_eq hcurrent] at h
  refine (currentFrame_eq (s := updateFrame r.number f s) hcurrent).trans ?_
  rw [frame?_updateFrame h r.number hf, if_pos rfl]

theorem currentFrame_of_em {m : Emission} (h : t.em = m) (htable : m.table = s.em.table)
    (hcurrent : m.current = s.em.current) : t.currentFrame = s.currentFrame := by
  unfold State.currentFrame State.frame?; rw [h, htable, hcurrent]

/-- The other records are the ones they were. -/
theorem filter_updateWhere (n : Nat) (f : FrameRecord → FrameRecord) (hf : ∀ x, (f x).number = x.number)
    (l : List FrameRecord) : (updateWhere (fun x => x.number == n) f l).filter (fun x => x.number != n)
      = l.filter fun x => x.number != n := by
  induction l with
  | nil => rfl
  | cons x l ih =>
    simp only [updateWhere, List.map_cons, List.filter_cons] at ih ⊢
    rw [ih]
    by_cases hx : x.number = n
    · simp [hx, hf]
    · simp [hx]

/-- With no cell left the record leaves the table and the current frame becomes none (R50). -/
theorem endIfDone_eq (h : s.currentFrame = some r) : endIfDone s = { s with em := { s.em with
    table := if r.left = 0 then s.em.table.filter fun x => x.number != r.number else s.em.table
    current := if r.left = 0 then none else s.em.current
    heldBack := if r.left = 0 then false else s.em.heldBack } } := by
  unfold endIfDone; rw [h]; dsimp only
  by_cases hleft : r.left = 0
  · simp only [if_pos hleft]; rfl
  · simp only [if_neg hleft]

/-- The record of a frame with one more cell sent, its slot free. -/
def FrameRecord.sentOne (r : FrameRecord) : FrameRecord := { r with sent := r.sent + 1, slotsHeld := r.slotsHeld - 1 }

/-- The record of a frame with one more cell consumed, its slot free. -/
def FrameRecord.consumedOne (r : FrameRecord) : FrameRecord :=
  { r with consumed := r.consumed + 1, slotsHeld := r.slotsHeld - 1 }

theorem left_sentOne (h : 1 ≤ r.left) : (FrameRecord.sentOne r).left = 0 ↔ r.left = 1 := by
  simp only [FrameRecord.left, FrameRecord.sentOne] at h ⊢; omega

theorem left_consumedOne (h : 1 ≤ r.left) : (FrameRecord.consumedOne r).left = 0 ↔ r.left = 1 := by
  simp only [FrameRecord.left, FrameRecord.consumedOne] at h ⊢; omega

/-! ### Output -/

/-- The emission controller once a filler has gone out with the carrier on or off. -/
def filled (carrier : Bool) (s : State) : Emission := { s.em with
  transfer := some ⟨fillerCell, carrier, s.osc + 100⟩
  carrier := carrier
  counters := { s.em.counters with fillers := bump s.em.counters.fillers } }

/-- A filler goes out in ON_AIR and MUTED, its carrier on in ON_AIR alone (R52). -/
theorem outputFiller_cases (s : State) :
    (s.em.state = .onAir ∨ s.em.state = .muted)
        ∧ outputFiller s = { s with em := filled (s.em.state == .onAir) s }
      ∨ ¬(s.em.state = .onAir ∨ s.em.state = .muted) ∧ outputFiller s = s := by
  unfold outputFiller
  cases h : s.em.state with
  | onAir => exact .inl ⟨.inl rfl, rfl⟩
  | muted => exact .inl ⟨.inr rfl, rfl⟩
  | standby => exact .inr ⟨(·.elim nofun nofun), rfl⟩
  | fault => exact .inr ⟨(·.elim nofun nofun), rfl⟩

/-- Outside ON_AIR a filler goes out in MUTED alone, its carrier off (R52, R57). -/
theorem outputFiller_off (h : s.em.state ≠ .onAir) : outputFiller s = { s with em := { s.em with
    transfer := if s.em.state = .muted then some ⟨fillerCell, false, s.osc + 100⟩ else s.em.transfer
    carrier := if s.em.state = .muted then false else s.em.carrier
    counters := if s.em.state = .muted then { s.em.counters with fillers := bump s.em.counters.fillers }
      else s.em.counters } } := by
  rcases outputFiller_cases s with ⟨hout, heq⟩ | ⟨hout, heq⟩
  · have hmuted := hout.resolve_left h
    have hoff : (s.em.state == .onAir) = false := beq_eq_false_iff_ne.2 h
    simp only [if_pos hmuted]
    rw [heq, hoff]; rfl
  · simp only [if_neg fun hmuted => hout (.inr hmuted)]
    exact heq

/-! ### The next release -/

/-- A cell at this instant would start less than 100 TU before the Q of the next record to be released (R50, R52). -/
theorem tooClose_iff (at_ : Time) (s : State) : tooClose at_ s = true
    ↔ ∃ x, s.em.table.find? (fun y => y.state == .assembling || y.state == .scheduled) = some x
      ∧ x.q < at_ + 100 := by
  unfold tooClose nextRelease
  cases hfind : s.em.table.find? fun r => r.state == .assembling || r.state == .scheduled with
  | none => simp
  | some x => simp [Config.cellTime]

end Sys2Proof.Proofs
end
section
/-! CELL_INSTANT, FILLER_INSTANT and TRANSFER_END (R46, R47, R50, R52, R57, R58, R167). -/

namespace Sys2Proof.Proofs

open Sys2Proof Sys2Proof.Machine Sys2Proof.Laws

variable {s : State} {r : FrameRecord} {at_ : Time}

/-! ### The cell of an EMITTING frame -/

theorem exec_cellInstant (hdue : instantDue s = some at_) (hr : s.currentFrame = some r) :
    exec .cellInstant s = .next (advanceInstant at_ (paceCell at_ r s)) := by
  simp only [exec, execCellInstant, hdue, hr]

/-- The state with the cell that the channels hand back under way, its slot free and its frame's record counted. -/
def cellOut (r : FrameRecord) (s : State) : State :=
  updateFrame r.number FrameRecord.sentOne (freeSlot (startTransfer (passChannels r.number s.em.queue.front s).1 true
    (passChannels r.number s.em.queue.front s).2))

theorem cellOut_em (r : FrameRecord) (s : State) : (cellOut r s).em = { s.em with
    transfer := some ⟨(passChannels r.number s.em.queue.front s).1, true, s.osc + 100⟩
    carrier := true
    queue := freedQueue s
    table := updateWhere (fun x => x.number == r.number) FrameRecord.sentOne s.em.table } := by
  have houter := outer_passChannels r.number s.em.queue.front s
  have hcalm := calm_passChannels r.number s.em.queue.front s
  generalize hout : passChannels r.number s.em.queue.front s = out at houter hcalm ⊢
  have hem : out.2.em = s.em := em_of_outer houter
  have hosc : out.2.osc = s.osc := congrArg Outer.osc houter
  have hinUse : out.2.sc.inUse = s.sc.inUse := inUse_of_still (still_of_calm hcalm)
  have hheld : out.2.em.queue = s.em.queue := congrArg Emission.queue hem
  have hqueue : freedQueue (startTransfer out.1 true out.2) = freedQueue s := freedQueue_congr hheld hinUse
  unfold cellOut
  rw [hout]; dsimp only [updateFrame]
  rw [freeSlot_queue, hqueue]; dsimp only [startTransfer]
  rw [hem, hosc]

theorem paceCell_emitting (hstate : r.state = .emitting) (hclose : ¬tooClose at_ s = true) :
    paceCell at_ r s = endIfDone (cellOut r s) := by
  unfold paceCell; rw [if_neg hclose, if_pos hstate]; rfl

theorem cellOut_currentFrame (hr : s.currentFrame = some r) :
    (cellOut r s).currentFrame = some (FrameRecord.sentOne r) := by
  have hkept : (updateFrame r.number FrameRecord.sentOne s).currentFrame = some (FrameRecord.sentOne r) :=
    currentFrame_updateFrame hr fun _ => rfl
  exact (currentFrame_of_em (s := updateFrame r.number FrameRecord.sentOne s) (cellOut_em r s) rfl rfl).trans hkept

/-- A cell that no plan takes goes out as it was stored, and leaves the channels and the store (R167). -/
theorem cellOut_untaken (h : takingChannel r.number s.em.queue.front s = none) :
    (passChannels r.number s.em.queue.front s).1 = s.em.queue.front ∧ aside (cellOut r s) = aside s := by
  have hpass : passChannels r.number s.em.queue.front s = (s.em.queue.front, s) := by unfold passChannels; rw [h]
  refine ⟨by rw [hpass], ?_⟩
  unfold cellOut
  rw [hpass, aside_updateFrame, aside_freeSlot]; rfl

theorem calm_cellOut (r : FrameRecord) (s : State) : calm (cellOut r s) = calm s := by
  simp [cellOut]

/-! ### The cell of a PASSED frame -/

/-- The state with a cell consumed: its slot free, a filler under way in MUTED, its frame's record counted. -/
def cellConsumed (r : FrameRecord) (s : State) : State := { s with
  mon := freedMon s
  em := { s.em with
    queue := freedQueue s
    table := updateWhere (fun x => x.number == r.number) FrameRecord.consumedOne s.em.table
    transfer := if s.em.state = .muted then some ⟨fillerCell, false, s.osc + 100⟩ else s.em.transfer
    carrier := if s.em.state = .muted then false else s.em.carrier
    counters := if s.em.state = .muted then { s.em.counters with fillers := bump s.em.counters.fillers }
      else s.em.counters } }

theorem consumeCell_eq (h : s.em.state ≠ .onAir) : consumeCell r s = cellConsumed r s := by
  unfold consumeCell; rw [freeSlot_eq]; dsimp only
  rw [outputFiller_off]
  · rfl
  · exact h

theorem cellConsumed_currentFrame (hr : s.currentFrame = some r) :
    (cellConsumed r s).currentFrame = some (FrameRecord.consumedOne r) :=
  currentFrame_updateFrame hr fun _ => rfl

theorem paceCell_passed (hstate : r.state = .passed) (hclose : ¬tooClose at_ s = true) (hair : s.em.state ≠ .onAir) :
    paceCell at_ r s = endIfDone (cellConsumed r s) := by
  have hemitting : r.state ≠ .emitting := by rw [hstate]; nofun
  unfold paceCell; rw [if_neg hclose, if_neg hemitting, consumeCell_eq hair]

/-- At the last cell the record leaves the table and the current frame becomes none; before it the record counts on. -/
theorem endIfDone_consumed (hr : s.currentFrame = some r) (hleft : 1 ≤ r.left) : endIfDone (cellConsumed r s)
    = { cellConsumed r s with em := { (cellConsumed r s).em with
        table := if r.left = 1 then s.em.table.filter fun x => x.number != r.number else s.em.table.map fun x =>
          if x.number = r.number then FrameRecord.consumedOne x else x
        current := if r.left = 1 then none else s.em.current
        heldBack := if r.left = 1 then false else s.em.heldBack } } := by
  have htable : (cellConsumed r s).em.table = s.em.table.map fun x =>
      if x.number = r.number then FrameRecord.consumedOne x else x := List.map_congr_left fun x _ => by simp
  have hothers : (cellConsumed r s).em.table.filter (fun x => x.number != r.number)
      = s.em.table.filter fun x => x.number != r.number :=
    filter_updateWhere r.number FrameRecord.consumedOne (fun _ => rfl) _
  rw [endIfDone_eq (cellConsumed_currentFrame hr)]
  simp only [left_consumedOne hleft]
  rw [show (FrameRecord.consumedOne r).number = r.number from rfl, hothers, htable]; rfl

/-! ### The filler grid -/

theorem exec_fillerInstant (hdue : instantDue s = some at_) (hr : s.currentFrame = none) : exec .fillerInstant s
    = .next (advanceInstant at_ (if tooClose at_ s then s else outputFiller s)) := by
  simp only [exec, execFillerInstant, hdue, hr]

/-! ### The statement -/

theorem cellInstant_emitting (hdue : instantDue s = some at_) (hr : s.currentFrame = some r)
    (hstate : r.state = .emitting) (hclose : ¬tooClose at_ s = true) :
    exec .cellInstant s = .next (advanceInstant at_ (endIfDone (cellOut r s))) := by
  rw [exec_cellInstant hdue hr, paceCell_emitting hstate hclose]

theorem endIfDone_cellOut_em (hr : s.currentFrame = some r) (hleft : 1 ≤ r.left) : (endIfDone (cellOut r s)).em
    = { s.em with
        transfer := some ⟨(passChannels r.number s.em.queue.front s).1, true, s.osc + 100⟩
        carrier := true
        queue := freedQueue s
        table := if r.left = 1 then s.em.table.filter fun x => x.number != r.number
          else updateWhere (fun x => x.number == r.number) FrameRecord.sentOne s.em.table
        current := if r.left = 1 then none else s.em.current
        heldBack := if r.left = 1 then false else s.em.heldBack } := by
  have hothers : (updateWhere (fun x => x.number == r.number) FrameRecord.sentOne s.em.table).filter
      (fun x => x.number != r.number) = s.em.table.filter fun x => x.number != r.number :=
    filter_updateWhere r.number FrameRecord.sentOne (fun _ => rfl) _
  rw [endIfDone_eq (cellOut_currentFrame hr)]
  simp only [left_sentOne hleft, cellOut_em]
  rw [show (FrameRecord.sentOne r).number = r.number from rfl, hothers]

/-- What a cell of an EMITTING frame leaves alone. -/
theorem kept_cellOut (r : FrameRecord) (s : State) : (endIfDone (cellOut r s)).tb = s.tb
    ∧ (endIfDone (cellOut r s)).intake = s.intake ∧ (endIfDone (cellOut r s)).ros = s.ros
    ∧ (endIfDone (cellOut r s)).store.memory = s.store.memory ∧ (endIfDone (cellOut r s)).sc.inUse = s.sc.inUse :=
  kept_of_calm ((calm_endIfDone _).trans (calm_cellOut r s))

/-- The records beside the current frame's stay as they are. -/
theorem others_cellOut {u : State} (hem : u.em.table = if r.left = 1
      then s.em.table.filter fun x => x.number != r.number
      else updateWhere (fun x => x.number == r.number) FrameRecord.sentOne s.em.table) (h : r.left ≠ 1) :
    (u.em.table.filter fun x => x.number != r.number) = s.em.table.filter fun x => x.number != r.number := by
  rw [hem, if_neg h]; exact filter_updateWhere r.number FrameRecord.sentOne (fun _ => rfl) _

/-- A cell of an EMITTING frame goes out through the channels, and pacing goes on (R50, R52). -/
theorem cellInstant_emitting_out (hdue : instantDue s = some at_) (hr : s.currentFrame = some r)
    (hstate : r.state = .emitting) (hclose : ¬tooClose at_ s = true) (hleft : 1 ≤ r.left) :
    ∃ t, exec .cellInstant s = .next t
      ∧ t.em.transfer = some ⟨(passChannels r.number s.em.queue.front s).1, true, s.osc + 100⟩
      ∧ (takingChannel r.number s.em.queue.front s = none →
          t.em.transfer = some ⟨s.em.queue.front, true, s.osc + 100⟩ ∧ t.chans = s.chans ∧ t.store = s.store)
      ∧ t.em.carrier = true ∧ t.em.queue = freedQueue s ∧ t.em.nextCell = some (at_ + s.setting SiteConfig.interval 800)
      ∧ (2 ≤ r.left → t.em.current = s.em.current ∧ t.currentFrame = some (FrameRecord.sentOne r)
        ∧ (t.em.table.filter fun x => x.number != r.number) = s.em.table.filter fun x => x.number != r.number)
      ∧ (r.left = 1 → t.em.current = none
        ∧ t.em.table = (s.em.table.filter fun x => x.number != r.number) ∧ t.em.heldBack = false)
      ∧ t.em.state = s.em.state ∧ t.tb = s.tb ∧ t.intake = s.intake ∧ t.store.memory = s.store.memory := by
  refine ⟨_, cellInstant_emitting hdue hr hstate hclose, ?_⟩
  have hem := endIfDone_cellOut_em hr hleft
  obtain ⟨htb, hintake, -, hmemory, hinUse⟩ := kept_cellOut r s
  have huntaken : takingChannel r.number s.em.queue.front s = none →
      (passChannels r.number s.em.queue.front s).1 = s.em.queue.front
        ∧ aside (endIfDone (cellOut r s)) = aside s := fun h => by
    rw [aside_endIfDone]; exact cellOut_untaken h
  have hframe : r.left ≠ 1 → (endIfDone (cellOut r s)).currentFrame = some (FrameRecord.sentOne r) := fun h => by
    refine Eq.trans ?_ (cellOut_currentFrame hr)
    exact currentFrame_of_em (s := cellOut r s) hem (by rw [cellOut_em]; exact if_neg h)
      (by rw [cellOut_em]; exact if_neg h)
  generalize endIfDone (cellOut r s) = u at *
  have htable : u.em.table = _ := congrArg Emission.table hem
  have hcurrent : u.em.current = _ := congrArg Emission.current hem
  have hkept : u.em.state = s.em.state := by rw [hem]
  refine ⟨congrArg Emission.transfer hem, fun h => ⟨?_, ?_, ?_⟩, congrArg Emission.carrier hem,
    congrArg Emission.queue hem, ?_, fun hmore => ⟨hcurrent.trans (if_neg (by omega)), hframe (by omega), ?_⟩,
    fun hlast => ⟨hcurrent.trans (if_pos hlast), htable.trans (if_pos hlast), ?_⟩, hkept, htb, hintake, hmemory⟩
  · rw [← (huntaken h).1]; exact congrArg Emission.transfer hem
  · exact show (aside u).chans = (aside s).chans by rw [(huntaken h).2]
  · exact show (aside u).store = (aside s).store by rw [(huntaken h).2]
  · unfold advanceInstant State.interval State.setting; rw [hinUse]
  · exact others_cellOut htable (by omega)
  · exact (congrArg Emission.heldBack hem).trans (if_pos hlast)

/-- Settles O19: each instant is one equation of its command, and an EMITTING frame's goes through the channels. -/
theorem cellsAndFillersGoOutAndTransfersEnd : Obligations.CellsAndFillersGoOutAndTransfersEnd := by
  unfold Obligations.CellsAndFillersGoOutAndTransfersEnd
  refine ⟨fun at_ r s hdue hr hahead => ?_, fun at_ r s hdue hr hstate hahead => ?_,
    fun at_ r s hdue hr hstate hahead hleft hair => ?_, fun at_ s hdue hr => ⟨fun hahead => ?_, fun hahead => ?_⟩,
    fun x s hx hends => ?_⟩
  · have hheld : paceCell at_ r s = { s with em := { s.em with heldBack := true } } :=
      if_pos ((tooClose_iff at_ s).2 hahead)
    rw [exec_cellInstant hdue hr, hheld]; rfl
  · exact cellInstant_emitting_out hdue hr hstate (mt (tooClose_iff at_ s).1 hahead)
  · rw [exec_cellInstant hdue hr, paceCell_passed hstate (mt (tooClose_iff at_ s).1 hahead) hair,
      endIfDone_consumed hr hleft]
    rfl
  · rw [exec_fillerInstant hdue hr, if_pos ((tooClose_iff at_ s).2 hahead)]; rfl
  · rw [exec_fillerInstant hdue hr, if_neg (mt (tooClose_iff at_ s).1 hahead)]
    rcases outputFiller_cases s with ⟨hout, heq⟩ | ⟨hout, heq⟩
    · rw [heq, if_pos hout]; rfl
    · rw [heq, if_neg hout]; rfl
  · have hdue : transferDue s = true := by unfold transferDue; rw [hx]; exact decide_eq_true hends
    exact congrArg Host.Outcome.next (if_pos hdue)

end Sys2Proof.Proofs
end

section
/-! SUPPORT. The steps of a release (R49): the cut, the causes, the decision, and what follows the decision. -/

namespace Sys2Proof.Proofs

open Sys2Proof Sys2Proof.Machine Sys2Proof.Laws

variable {s t : State} {r x : FrameRecord} {rest : List FrameRecord}

/-! ### The pass point -/

/-- No record passes at the pass point while the first one that has not passed is ASSEMBLING or SCHEDULED (R54). -/
theorem judgePassPoint_held (h : ∀ x, s.em.table.find? FrameRecord.unpassed = some x →
    x.state = .scheduled ∨ x.state = .assembling) : judgePassPoint s = s := by
  unfold judgePassPoint
  cases s.em.table.length with
  | zero => rfl
  | succ n =>
    unfold runPasses; split
    · next x hx =>
      split
      · next cause hcause => rcases h x hx with hx' | hx' <;> exact nomatch hcause.symm.trans hx'
      · rfl
    · rfl

/-- Behind a released record at the head of the table the first record is ASSEMBLING or SCHEDULED. -/
theorem judgePassPoint_released (htable : s.em.table = x :: rest) (hx : x.unpassed = false)
    (hrest : ∀ y ∈ rest, y.state = .scheduled ∨ y.state = .assembling) : judgePassPoint s = s := by
  refine judgePassPoint_held fun y hy => ?_
  rw [htable, List.find?_cons, hx] at hy
  exact hrest y (List.mem_of_find?_eq_some hy)

theorem judgePassPoint_scheduled (htable : s.em.table = r :: rest) (hr : r.state = .scheduled) :
    judgePassPoint s = s := by
  have hunpassed : r.unpassed = true := by unfold FrameRecord.unpassed; rw [hr]
  refine judgePassPoint_held fun y hy => ?_
  rw [htable, List.find?_cons, hunpassed] at hy
  cases hy; exact .inl hr

/-! ### The causes and the decision -/

theorem removeCause_em {c : MuteCause} (hf : s.em.state ≠ .fault) :
    (removeCause c s).em = { s.em with causes := s.em.causes.put c false } := by
  by_cases hc : s.em.causes.has c = true
  · rw [removeCause_standing hf hc]; rfl
  · have hout := Bool.eq_false_iff.2 hc
    rw [put_same hout]
    exact congrArg State.em (if_pos (.inr hout))

/-- Whether DISCARD_RUN stands after a release: one release must have come before (R62). -/
def runStands (m : Emission) : Bool := m.causes.discardRun && decide (m.releaseRun < 1)

/-- The cause set of a release (R61, R62). -/
def releasedCauses (m : Emission) : MuteSet := { m.causes with starve := false, discardRun := runStands m }

/-- A release removes STARVE, clears the discard run, and removes DISCARD_RUN at the second (R61, R62). -/
theorem releaseCauses_em (hf : s.em.state ≠ .fault) : ∃ k, (releaseCauses s).em
    = { s.em with causes := releasedCauses s.em, discardRun := 0, releaseRun := k } := by
  have hstarve := removeCause_em (c := .starve) hf
  unfold releaseCauses releasedCauses runStands; dsimp only
  generalize removeCause .starve s = u at hstarve
  have hrun : u.em.releaseRun = s.em.releaseRun := by rw [hstarve]
  have hcauses : u.em.causes = s.em.causes.put .starve false := by rw [hstarve]
  have hstands : u.em.causes.discardRun = s.em.causes.discardRun := by rw [hcauses]; rfl
  rw [hstands]
  by_cases hd : s.em.causes.discardRun = true
  · rw [if_pos hd]
    by_cases hlast : 2 ≤ u.em.releaseRun + 1
    · have hgone : (s.em.causes.discardRun && decide (s.em.releaseRun < 1)) = false := by
        rw [decide_eq_false (by omega), Bool.and_false]
      rw [if_pos hlast, removeCause_em (by rw [hstarve]; exact hf), hgone]
      dsimp only; rw [hstarve]; exact ⟨_, rfl⟩
    · have hkept : (s.em.causes.discardRun && decide (s.em.releaseRun < 1)) = s.em.causes.discardRun := by
        rw [decide_eq_true (by omega), Bool.and_true]
      rw [if_neg hlast, hkept]
      dsimp only; rw [hstarve]; exact ⟨_, rfl⟩
  · have hkept : (s.em.causes.discardRun && decide (s.em.releaseRun < 1)) = s.em.causes.discardRun := by
      rw [Bool.eq_false_iff.2 hd, Bool.false_and]
    rw [if_neg hd, hkept]
    dsimp only; rw [hstarve]; exact ⟨_, rfl⟩

theorem tally_releaseCauses (s : State) : tally (releaseCauses s) = tally s := by
  have hremoved : ∀ c (u : State), tally (removeCause c u) = tally u := fun c u => by
    unfold removeCause; split <;> rfl
  have hcounted : ∀ d k, tally { removeCause .starve s with
      em := { (removeCause .starve s).em with discardRun := d, releaseRun := k } } = tally s :=
    fun _ _ => hremoved .starve s
  unfold releaseCauses; dsimp only; split
  · split
    · rw [hremoved]; exact hcounted _ _
    · exact hcounted _ _
  · exact hcounted _ _

theorem tally_decideEmission (s : State) : tally (decideEmission s) = tally s := by
  unfold decideEmission; split
  · split
    · exact tally_changeEmission _ s
    · rfl
  · split
    · exact tally_changeEmission _ s
    · rfl
  · rfl
  · rfl

/-- A clean STANDBY goes ON_AIR (R56). -/
theorem decideEmission_standby_em (hs : s.em.state = .standby) (hvalid : s.sc.config = .valid)
    (htime : s.em.causes.time = false) (hinhibit : s.em.causes.inhibit = false) :
    (decideEmission s).em = { s.em with state := .onAir, carrier := true } := by
  have hclean : (s.isValid && !s.em.causes.time && !s.em.causes.inhibit) = true := by
    unfold State.isValid; rw [hvalid, htime, hinhibit]; rfl
  unfold decideEmission; rw [hs]; dsimp only
  rw [if_pos hclean, changeEmission_onAir_em]

/-- MUTED goes ON_AIR once no cause is left, and otherwise stays (R58). -/
theorem decideEmission_muted_em (hs : s.em.state = .muted) : (decideEmission s).em
    = if s.em.causes.isEmpty = true then { s.em with state := .onAir, carrier := true } else s.em := by
  unfold decideEmission; rw [hs]; dsimp only; split
  · exact changeEmission_onAir_em s
  · rfl

theorem decideEmission_onAir (hs : s.em.state = .onAir) : decideEmission s = s := by
  unfold decideEmission; rw [hs]

/-! ### After the decision -/

/-- The steps of a release that follow the decision of the emission state (R49). -/
def afterDecision (r : FrameRecord) (s : State) : State :=
  paceReleased r (judgePassPoint (makeCurrent r (passReleased r.number
    (markReleased r.number (judgePassPoint (loadStarve r.q s))))))

/-- The causes that a release changes, and the decision of the emission state (R49). -/
def decided (s : State) : State := decideEmission (releaseCauses s)

theorem releaseFrame_eq (r : FrameRecord) (s : State) : releaseFrame r s = afterDecision r (decided (cutCurrent s)) := rfl

/-- The state of a released record: EMITTING in ON_AIR, PASSED otherwise (R49). -/
def releasedState (e : EmissionState) : FrameState := if e = .onAir then .emitting else .passed

/-- The counters of the controller once a release in an emission state has been counted, and its pass (R49, R55). -/
def releaseCounted (e : EmissionState) (k : EmissionCounters) : EmissionCounters :=
  if e = .onAir then { k with toAir := bump k.toAir, passes := bump k.passes }
  else { k with consumedReleases := bump k.consumedReleases, passes := bump k.passes }

/-- The emission controller after a release of the first record of the table, the starve timer loaded. -/
def releasedEm (r : FrameRecord) (rest : List FrameRecord) (starve : Time) (m : Emission) : Emission := { m with
  starve := some starve
  table := { r with state := releasedState m.state } :: rest
  current := some r.number
  nextCell := some r.q
  heldBack := false
  counters := releaseCounted m.state m.counters }

theorem updateWhere_front (h : ∀ y ∈ rest, y.number ≠ r.number) (f : FrameRecord → FrameRecord) :
    updateWhere (fun y => y.number == r.number) f (r :: rest) = f r :: rest := by
  have hrest : updateWhere (fun y => y.number == r.number) f rest = rest :=
    (List.map_congr_left fun y hy => if_neg (by simpa using h y hy)).trans (List.map_id' rest)
  unfold updateWhere at hrest ⊢
  rw [List.map_cons, hrest]; simp

/-- The marked record at the head of the table passes with its C (R49, R55). -/
theorem passReleased_front (htable : s.em.table = x :: rest) : ∃ d, passReleased x.number s = handPass x d s := by
  have hframe : s.frame? x.number = some x := by unfold State.frame?; rw [htable]; simp
  unfold passReleased; rw [hframe]; exact ⟨_, rfl⟩

theorem handPass_em (r : FrameRecord) (d : Disposition) (s : State) : (handPass r d s).em
    = { s.em with counters := { s.em.counters with passes := bump s.em.counters.passes } } := by
  have hpassed : (framePass ⟨r.number, r.c, r.counts, r.status, d⟩ s).em = s.em := em_of_outer (outer_framePass _ s)
  unfold handPass
  generalize framePass _ s = u at hpassed
  unfold countEm; dsimp only; rw [hpassed]

theorem tally_handPass (r : FrameRecord) (d : Disposition) (s : State) : tally (handPass r d s)
    = (s.cues.counters, some r.c, s.chans.lastGap, bump s.chans.passCount) := by
  have hpassed := tally_framePass ⟨r.number, r.c, r.counts, r.status, d⟩ s
  unfold handPass
  generalize framePass _ s = u at hpassed ⊢
  exact hpassed

theorem markReleased_em (htable : s.em.table = r :: rest) (hrest : ∀ y ∈ rest, y.number ≠ r.number) :
    (markReleased r.number s).em = { s.em with
      table := { r with state := releasedState s.em.state } :: rest
      counters := if s.em.state = .onAir then { s.em.counters with toAir := bump s.em.counters.toAir }
        else { s.em.counters with consumedReleases := bump s.em.counters.consumedReleases } } := by
  unfold markReleased releasedState
  by_cases hair : s.em.state = .onAir
  · simp only [if_pos hair]; dsimp only [countEm, updateFrame]
    rw [htable, updateWhere_front hrest]
  · simp only [if_neg hair]; dsimp only [countEm, updateFrame]
    rw [htable, updateWhere_front hrest]

theorem unpassed_releasedState (r : FrameRecord) (e : EmissionState) :
    FrameRecord.unpassed { r with state := releasedState e } = false := by
  unfold FrameRecord.unpassed releasedState; dsimp only
  by_cases hair : e = .onAir
  · rw [if_pos hair]
  · rw [if_neg hair]

/-- After the decision in ON_AIR or MUTED: the controller, and the pass of the record. -/
theorem afterDecision_parts (htable : s.em.table = r :: rest) (hr : r.state = .scheduled)
    (hrest : ∀ y ∈ rest, (y.state = .scheduled ∨ y.state = .assembling) ∧ y.number ≠ r.number)
    (hstep : s.em.stepRun = none) (hstate : s.em.state = .onAir ∨ s.em.state = .muted) :
    (afterDecision r s).em = releasedEm r rest (r.q + s.setting SiteConfig.starveMs 2000 * 10000) s.em
      ∧ (afterDecision r s).chans.lastPass = some r.c
      ∧ (afterDecision r s).chans.passCount = bump s.chans.passCount := by
  have hloaded : loadStarve r.q s = { s with em := { s.em with
      starve := some (r.q + s.setting SiteConfig.starveMs 2000 * 10000) } } := if_pos hstate
  have hmarkedTally : tally (markReleased r.number (loadStarve r.q s)) = tally s := by
    rw [hloaded]; unfold markReleased; split <;> rfl
  have hmarked := markReleased_em (s := loadStarve r.q s) (r := r) (rest := rest) (by rw [hloaded]; exact htable)
    fun y hy => (hrest y hy).2
  unfold afterDecision
  rw [judgePassPoint_scheduled (s := loadStarve r.q s) (by rw [hloaded]; exact htable) hr]
  generalize markReleased r.number (loadStarve r.q s) = u at hmarked hmarkedTally
  rw [hloaded] at hmarked
  dsimp only at hmarked
  obtain ⟨d, hpass⟩ := passReleased_front (s := u) (congrArg Emission.table hmarked)
  rw [show passReleased r.number u = _ from hpass]
  have hem := handPass_em { r with state := releasedState s.em.state } d u
  have htally := tally_handPass { r with state := releasedState s.em.state } d u
  generalize handPass _ d u = v at hem htally
  have hv : (makeCurrent r v).em = releasedEm r rest (r.q + s.setting SiteConfig.starveMs 2000 * 10000) s.em := by
    unfold makeCurrent releasedEm releaseCounted; dsimp only
    rw [hem, hmarked]
    by_cases hair : s.em.state = .onAir
    · simp only [if_pos hair]
    · simp only [if_neg hair]
  have hjudged : judgePassPoint (makeCurrent r v) = makeCurrent r v :=
    judgePassPoint_released (congrArg Emission.table hv) (unpassed_releasedState r _) fun y hy => (hrest y hy).1
  have hpaced : paceReleased r (makeCurrent r v) = makeCurrent r v := by
    unfold paceReleased; rw [show (makeCurrent r v).em.stepRun = none by rw [hv]; exact hstep]
  rw [hjudged, hpaced]
  refine ⟨hv, congrArg (fun p => p.2.1) htally, ?_⟩
  have hcount : u.chans.passCount = s.chans.passCount := congrArg (fun p => p.2.2.2) hmarkedTally
  rw [← hcount]
  exact congrArg (fun p => p.2.2.2) htally

/-! ### The cut of the frame before -/

/-- Slots freed in order, from a number of them on (R46, R51). -/
theorem freeSlots_queue (n : Nat) (s : State) : ∃ high, (freeSlots (n + 1) s).em = { s.em with queue := { s.em.queue with
    oldest := (s.em.queue.oldest + (n + 1)) % 65536, occupancy := s.em.queue.occupancy - (n + 1), high := high } } := by
  induction n generalizing s with
  | zero => exact ⟨_, freeSlot_queue s⟩
  | succ n ih =>
    obtain ⟨high, h⟩ := ih (freeSlot s)
    have hiter : freeSlots (n + 1 + 1) s = freeSlots (n + 1) (freeSlot s) := rfl
    have holdest : ((s.em.queue.oldest + 1) % 65536 + (n + 1)) % 65536 = (s.em.queue.oldest + (n + 1 + 1)) % 65536 := by
      omega
    have hoccupancy : s.em.queue.occupancy - 1 - (n + 1) = s.em.queue.occupancy - (n + 1 + 1) := by omega
    rw [hiter, h, freeSlot_queue]
    dsimp only [freedQueue]
    rw [holdest, hoccupancy]
    exact ⟨high, rfl⟩

/-- The cells that the current frame has left at a release are cut, and its record leaves the table (R51). -/
theorem cutCurrent_em (hx : s.currentFrame = some x) (hleft : 0 < x.left) : ∃ high, (cutCurrent s).em = { s.em with
    queue := { s.em.queue with
      oldest := (s.em.queue.oldest + x.left) % 65536, occupancy := s.em.queue.occupancy - x.left, high := high }
    table := s.em.table.filter fun y => y.number != x.number
    counters := { s.em.counters with
      cutCells := bumpBy s.em.counters.cutCells x.left, cutFrames := bump s.em.counters.cutFrames }
    current := none
    heldBack := false } := by
  obtain ⟨n, hn⟩ := Nat.exists_eq_succ_of_ne_zero hleft.ne'
  obtain ⟨high, hfreed⟩ := freeSlots_queue n s
  rw [← Nat.succ_eq_add_one, ← hn] at hfreed
  refine ⟨high, ?_⟩
  unfold cutCurrent; rw [hx]; dsimp only
  rw [if_neg hleft.ne']
  unfold cutCells endEmission leaveTable countEm updateFrame; dsimp only [raise_em]
  rw [hfreed]; dsimp only
  rw [filter_updateWhere x.number (fun y => { y with cut := y.cut + x.left, slotsHeld := y.slotsHeld - x.left })
    fun _ => rfl]

theorem cutCurrent_none (h : s.em.current = none) : cutCurrent s = s := by
  unfold cutCurrent State.currentFrame; rw [h]

theorem tally_cutCurrent (s : State) : tally (cutCurrent s) = tally s := by
  have hcut : ∀ n r, aside (cutCells n r s) = aside s := fun n r => aside_cutCells n r s
  have htally : ∀ {u : State}, aside u = aside s → tally u = tally s := fun {u} h =>
    show tally (aside u) = tally (aside s) by rw [h]
  have hended : ∀ n e f (u : State), tally (endEmission n (raise e (countEm f u))) = tally u := fun _ _ _ _ => rfl
  unfold cutCurrent; split
  · rfl
  · split
    · rfl
    · dsimp only; rw [hended]; exact htally (hcut _ _)

end Sys2Proof.Proofs
end

section
/-! FRAME_RELEASE and the discard run (R49, R51, R55, R56, R58, R61, R62). -/

namespace Sys2Proof.Proofs

open Sys2Proof Sys2Proof.Machine Sys2Proof.Laws

variable {s u : State} {r x : FrameRecord} {rest : List FrameRecord}

/-! ### The decision of a release -/

theorem calm_decided (s : State) : calm (decided s) = calm s := by simp [decided]

theorem tally_decided (s : State) : tally (decided s) = tally s :=
  (tally_decideEmission _).trans (tally_releaseCauses s)

theorem releasedCauses_clean {m : Emission} (h : m.causes = ⟨false, false, false, false⟩) :
    releasedCauses m = m.causes := by
  unfold releasedCauses runStands; rw [h]; rfl

/-- A clean STANDBY goes ON_AIR (R56). -/
theorem decided_standby_em (hs : s.em.state = .standby) (hvalid : s.sc.config = .valid)
    (hcauses : s.em.causes = ⟨false, false, false, false⟩) : ∃ k, (decided s).em
      = { s.em with state := .onAir, carrier := true, discardRun := 0, releaseRun := k } := by
  obtain ⟨k, hk⟩ := releaseCauses_em (s := s) (by rw [hs]; nofun)
  rw [releasedCauses_clean hcauses] at hk
  have hconfig : (releaseCauses s).sc.config = s.sc.config :=
    item_of_latchless (·.config) (fun _ => rfl) (congrArg Still.control (still_of_calm (calm_releaseCauses s)))
  refine ⟨k, ?_⟩
  unfold decided
  rw [decideEmission_standby_em (by rw [hk]; exact hs) (hconfig.trans hvalid) (by rw [hk, hcauses]) (by rw [hk, hcauses]),
    hk]

/-- MUTED goes ON_AIR when TIME, INHIBIT and DISCARD_RUN are out (R58). -/
theorem decided_muted_em (hs : s.em.state = .muted) : ∃ k, (decided s).em = { s.em with
    causes := releasedCauses s.em
    discardRun := 0
    releaseRun := k
    state := if (s.em.causes.time || s.em.causes.inhibit || runStands s.em) = true then .muted else .onAir
    carrier := if (s.em.causes.time || s.em.causes.inhibit || runStands s.em) = true then s.em.carrier else true } := by
  obtain ⟨k, hk⟩ := releaseCauses_em (s := s) (by rw [hs]; nofun)
  have hempty : (releasedCauses s.em).isEmpty = !(s.em.causes.time || s.em.causes.inhibit || runStands s.em) := by
    simp only [MuteSet.isEmpty, releasedCauses, Bool.or_false]
  refine ⟨k, ?_⟩
  unfold decided
  rw [decideEmission_muted_em (by rw [hk]; exact hs), hk]; dsimp only
  rw [hempty]
  by_cases hcause : (s.em.causes.time || s.em.causes.inhibit || runStands s.em) = true
  · simp only [hcause, Bool.not_true, if_true, ← hs]; rfl
  · simp only [Bool.eq_false_iff.2 hcause, Bool.not_false, if_true]; rfl

/-- ON_AIR stays, and no cause stands (R56). -/
theorem decided_onAir_em (hs : s.em.state = .onAir) (hcauses : s.em.causes = ⟨false, false, false, false⟩) :
    ∃ k, (decided s).em = { s.em with discardRun := 0, releaseRun := k } := by
  obtain ⟨k, hk⟩ := releaseCauses_em (s := s) (by rw [hs]; nofun)
  rw [releasedCauses_clean hcauses] at hk
  refine ⟨k, ?_⟩
  unfold decided
  rw [decideEmission_onAir (by rw [hk]; exact hs), hk]

/-! ### A release -/

theorem exec_frameRelease (h : releaseDue s = some r) : exec .frameRelease s = .next (releaseFrame r s) := by
  simp only [exec, execFrameRelease, h]

theorem releaseDue_front (htable : s.em.table = r :: rest) (hr : r.state = .scheduled) (hq : r.q ≤ s.tb.now) :
    releaseDue s = some r := by
  have hdue : (r.state == .scheduled && decide (r.q ≤ s.tb.now)) = true := by rw [hr, decide_eq_true hq]; rfl
  unfold releaseDue; rw [htable, List.find?_cons, hdue]

theorem releaseDue_second (htable : s.em.table = x :: r :: rest) (hx : x.state = .emitting ∨ x.state = .passed)
    (hr : r.state = .scheduled) (hq : r.q ≤ s.tb.now) : releaseDue s = some r := by
  have hdue : (r.state == .scheduled && decide (r.q ≤ s.tb.now)) = true := by rw [hr, decide_eq_true hq]; rfl
  have hnot : (x.state == .scheduled && decide (x.q ≤ s.tb.now)) = false := by rcases hx with h | h <;> rw [h] <;> rfl
  unfold releaseDue; rw [htable, List.find?_cons, hnot, List.find?_cons, hdue]

theorem calm_afterDecision (r : FrameRecord) (s : State) : calm (afterDecision r s) = calm s := by
  have hcurrent : ∀ t : State, calm (makeCurrent r t) = calm t := fun _ => rfl
  simp [afterDecision, hcurrent]

/-- What every release makes of the state: the current frame, the starve timer, the record, its pass. -/
def Released (r : FrameRecord) (rest : List FrameRecord) (s t : State) : Prop :=
  t.em.current = some r.number ∧ t.em.nextCell = some r.q
    ∧ t.em.starve = some (r.q + s.setting SiteConfig.starveMs 2000 * 10000)
    ∧ t.em.table = { r with state := if t.em.state = .onAir then .emitting else .passed } :: rest
    ∧ t.em.counters.passes = min (s.em.counters.passes + 1) 4294967295
    ∧ t.chans.lastPass = some r.c ∧ t.chans.passCount = min (s.chans.passCount + 1) 4294967295
    ∧ t.tb = s.tb ∧ t.intake = s.intake ∧ t.ros = s.ros ∧ t.store.memory = s.store.memory

theorem passes_releaseCounted (e : EmissionState) (k : EmissionCounters) :
    (releaseCounted e k).passes = bump k.passes := by
  unfold releaseCounted; split <;> rfl

/-- The release of the first record of the table, from the state in which the emission state has been decided. -/
theorem released_of_decided (htable : u.em.table = r :: rest) (hr : r.state = .scheduled)
    (hrest : ∀ y ∈ rest, (y.state = .scheduled ∨ y.state = .assembling) ∧ y.number ≠ r.number)
    (hstep : u.em.stepRun = none) (hstate : u.em.state = .onAir ∨ u.em.state = .muted) (hcalm : calm u = calm s)
    (htally : tally u = tally s) (hpasses : u.em.counters.passes = s.em.counters.passes) :
    (afterDecision r u).em = releasedEm r rest (r.q + s.setting SiteConfig.starveMs 2000 * 10000) u.em
      ∧ Released r rest s (afterDecision r u) := by
  obtain ⟨hem, hlast, hcount⟩ := afterDecision_parts htable hr hrest hstep hstate
  obtain ⟨htb, hintake, hros, hmemory, -⟩ := kept_of_calm ((calm_afterDecision r u).trans hcalm)
  have hsetting : u.setting SiteConfig.starveMs 2000 = s.setting SiteConfig.starveMs 2000 := by
    unfold State.setting; rw [inUse_of_still (still_of_calm hcalm)]
  have hpassCount : u.chans.passCount = s.chans.passCount := congrArg (fun p => p.2.2.2) htally
  rw [hpassCount] at hcount
  rw [hsetting] at hem
  generalize afterDecision r u = t at *
  refine ⟨hem, by rw [hem]; rfl, by rw [hem]; rfl, by rw [hem]; rfl, by rw [hem]; rfl, ?_, hlast, hcount, htb, hintake,
    hros, hmemory⟩
  rw [hem, ← hpasses]; exact passes_releaseCounted _ _

/-- FRAME_RELEASE, from what the cut and the decision make of the controller. -/
theorem exec_release {m : Emission} (hdue : releaseDue s = some r) (hm : (decided (cutCurrent s)).em = m)
    (htable : m.table = r :: rest) (hr : r.state = .scheduled)
    (hrest : ∀ y ∈ rest, (y.state = .scheduled ∨ y.state = .assembling) ∧ y.number ≠ r.number)
    (hstep : m.stepRun = none) (hstate : m.state = .onAir ∨ m.state = .muted)
    (hpasses : m.counters.passes = s.em.counters.passes) :
    ∃ t, exec .frameRelease s = .next t ∧ Released r rest s t
      ∧ t.em = releasedEm r rest (r.q + s.setting SiteConfig.starveMs 2000 * 10000) m := by
  subst hm
  obtain ⟨hem, hreleased⟩ := released_of_decided htable hr hrest hstep hstate
    ((calm_decided _).trans (calm_cutCurrent s)) ((tally_decided _).trans (tally_cutCurrent s)) hpasses
  exact ⟨_, (exec_frameRelease hdue).trans (congrArg _ (releaseFrame_eq r s)), hreleased, hem⟩

/-- A release in MUTED (R55, R56, R58). -/
theorem release_muted (htable : s.em.table = r :: rest) (hr : r.state = .scheduled) (hq : r.q ≤ s.tb.now)
    (hrest : ∀ y ∈ rest, (y.state = .scheduled ∨ y.state = .assembling) ∧ y.number ≠ r.number)
    (hstep : s.em.stepRun = none) (hcurrent : s.em.current = none) (hs : s.em.state = .muted) :
    ∃ t, exec .frameRelease s = .next t ∧ Released r rest s t ∧ t.em.causes = releasedCauses s.em
      ∧ t.em.discardRun = 0
      ∧ t.em.state = (if (s.em.causes.time || s.em.causes.inhibit || runStands s.em) = true then .muted else .onAir)
      ∧ (t.em.state = .onAir → t.em.carrier = true
        ∧ t.em.counters.toAir = min (s.em.counters.toAir + 1) 4294967295)
      ∧ (t.em.state = .muted → t.em.carrier = s.em.carrier
        ∧ t.em.counters.consumedReleases = min (s.em.counters.consumedReleases + 1) 4294967295)
      ∧ t.em.queue = s.em.queue := by
  have hdue := releaseDue_front htable hr hq
  obtain ⟨k, hk⟩ := decided_muted_em hs
  rw [← congrArg (fun u => (decided u).em) (cutCurrent_none hcurrent)] at hk
  by_cases hcause : (s.em.causes.time || s.em.causes.inhibit || runStands s.em) = true
  · simp only [if_pos hcause] at hk ⊢
    obtain ⟨t, hexec, hreleased, hem⟩ := exec_release hdue hk htable hr hrest hstep (.inr rfl) rfl
    have hstate : t.em.state = .muted := by rw [hem]; rfl
    exact ⟨t, hexec, hreleased, by rw [hem]; rfl, by rw [hem]; rfl, hstate, fun h => (nomatch hstate.symm.trans h),
      fun _ => ⟨by rw [hem]; rfl, by rw [hem]; rfl⟩, by rw [hem]; rfl⟩
  · simp only [if_neg hcause] at hk ⊢
    obtain ⟨t, hexec, hreleased, hem⟩ := exec_release hdue hk htable hr hrest hstep (.inl rfl) rfl
    have hstate : t.em.state = .onAir := by rw [hem]; rfl
    exact ⟨t, hexec, hreleased, by rw [hem]; rfl, by rw [hem]; rfl, hstate,
      fun _ => ⟨by rw [hem]; rfl, by rw [hem]; rfl⟩, fun h => (nomatch hstate.symm.trans h), by rw [hem]; rfl⟩

/-! ### The discard run -/

theorem addCause_runs (c : MuteCause) (s : State) : (addCause c s).em.discardRun = s.em.discardRun
    ∧ (addCause c s).em.releaseRun = s.em.releaseRun := by
  have hmuted : ∀ v : State, (enterMuted v).em.discardRun = v.em.discardRun
      ∧ (enterMuted v).em.releaseRun = v.em.releaseRun := fun v => by
    unfold enterMuted changeEmission; dsimp only
    rw [em_of_outer (outer_setLatch _ _), em_of_outer (outer_urgent _), em_of_outer (outer_refresh _)]
    dsimp only [raise_em]; rw [passCurrent_em]; exact ⟨rfl, rfl⟩
  unfold addCause; dsimp only; split
  · exact ⟨rfl, rfl⟩
  · split
    · exact hmuted _
    · exact ⟨rfl, rfl⟩

/-- The first and the second discarded pass in a row are counted (R62). -/
theorem discardPassed_counts (hstate : s.em.state = .onAir ∨ s.em.state = .muted)
    (hcause : s.em.causes.discardRun = false) (hrun : s.em.discardRun < 2) :
    discardPassed s = { s with em := { s.em with discardRun := s.em.discardRun + 1 } } := by
  have hmin : min (s.em.discardRun + 1) 3 = s.em.discardRun + 1 := by omega
  have hnot : ¬s.em.discardRun + 1 = 3 := by omega
  unfold discardPassed; dsimp only
  rw [if_pos hstate, hmin, if_neg hnot, if_neg (by rw [hcause]; simpa using hnot)]

/-- The third one adds DISCARD_RUN (R62). -/
theorem discardPassed_third (hstate : s.em.state = .onAir ∨ s.em.state = .muted) (hrun : s.em.discardRun = 2) :
    discardPassed s = addCause .discardRun { s with em := { s.em with discardRun := 3, releaseRun := 0 } } := by
  unfold discardPassed; dsimp only
  rw [if_pos hstate, hrun]; rfl

theorem discardPassed_mutes (hstate : s.em.state = .onAir ∨ s.em.state = .muted)
    (hcause : s.em.causes.discardRun = false) (hrun : s.em.discardRun = 2) :
    (discardPassed s).em.state = .muted ∧ (discardPassed s).em.discardRun = 3 ∧ (discardPassed s).em.releaseRun = 0
      ∧ (discardPassed s).em.causes = { s.em.causes with discardRun := true }
      ∧ (s.em.state = .onAir → (discardPassed s).sc.latchAir = true) ∧ (discardPassed s).tb = s.tb := by
  have htb := tb_of_calm (calm_discardPassed s)
  have hf : s.em.state ≠ .fault := by rcases hstate with h | h <;> rw [h] <;> nofun
  rw [discardPassed_third hstate hrun] at htb ⊢
  generalize hv : ({ s with em := { s.em with discardRun := 3, releaseRun := 0 } } : State) = v at htb ⊢
  have hem : v.em = { s.em with discardRun := 3, releaseRun := 0 } := by subst hv; rfl
  have hvf : v.em.state ≠ .fault := by rw [hem]; exact hf
  have hvc : v.em.causes.has .discardRun = false := by rw [hem]; exact hcause
  obtain ⟨hcauses, hmuted, -⟩ := addCause_new_signals hvf hvc
  obtain ⟨hdiscard, hrelease⟩ := addCause_runs .discardRun v
  have hlatch := addCause_new_latchAir hvf hvc
  refine ⟨?_, by rw [hdiscard, hem], by rw [hrelease, hem], by rw [hcauses, hem]; rfl, fun hair => ?_, htb⟩
  · rw [hmuted, hem]; rcases hstate with h | h <;> dsimp only <;> rw [h] <;> rfl
  · refine hlatch.trans ?_
    rw [hem, hair]; simp

/-! ### The statement -/

/-- Settles O18: a release is the cut, the decision and the pass of its record, and each clause is one state at the
decision. -/
theorem releasesDecideTheEmissionState : Obligations.ReleasesDecideTheEmissionState := by
  unfold Obligations.ReleasesDecideTheEmissionState
  refine ⟨fun r rest s htable ⟨hr, hq, hrest, hstep⟩ hcurrent hs hvalid hcauses => ?_,
    fun r rest s htable ⟨hr, hq, hrest, hstep⟩ hcurrent hs => ?_,
    fun x r rest s htable ⟨hr, hq, hrest, hstep⟩ hx hcurrent hothers hleft hs hcauses => ?_,
    fun s hstate hcause => ⟨discardPassed_counts hstate hcause, discardPassed_mutes hstate hcause⟩⟩
  · obtain ⟨k, hk⟩ := decided_standby_em hs hvalid hcauses
    obtain ⟨t, hexec, hreleased, hem⟩ := exec_release (releaseDue_front htable hr hq)
      ((congrArg (fun u => (decided u).em) (cutCurrent_none hcurrent)).trans hk) htable hr hrest hstep (.inl rfl) rfl
    exact ⟨t, hexec, hreleased, by rw [hem]; rfl, by rw [hem]; rfl, by rw [hem]; rfl, by rw [hem]; rfl, by rw [hem]; rfl⟩
  · exact release_muted htable hr hq hrest hstep hcurrent hs
  · have hframe : s.currentFrame = some x := by
      rw [currentFrame_eq hcurrent]; unfold State.frame?; rw [htable]; simp
    obtain ⟨high, hcut⟩ := cutCurrent_em hframe hleft
    have hleaves : (s.em.table.filter fun y => y.number != x.number) = r :: rest := by
      rw [htable, List.filter_cons, if_neg (by simp)]
      exact List.filter_eq_self.2 fun y hy => by simpa using hothers y hy
    rw [hleaves] at hcut
    obtain ⟨k, hk⟩ := decided_onAir_em (s := cutCurrent s) (by rw [hcut]; exact hs) (by rw [hcut]; exact hcauses)
    rw [hcut] at hk
    obtain ⟨t, hexec, hreleased, hem⟩ := exec_release (releaseDue_second htable hx hr hq) hk rfl hr hrest hstep
      (.inl hs) rfl
    rw [releasedEm, releaseCounted, if_pos hs] at hem
    exact ⟨t, hexec, hreleased, by rw [hem]; exact hs, by rw [hem]; rfl, by rw [hem]; rfl, by rw [hem], by rw [hem],
      by rw [hem], by rw [hem]⟩

end Sys2Proof.Proofs
end

section
/-! SUPPORT. The pages of the spot store: what a segment list gives back and takes up, and the law of the pages over the
store alone with a lemma for each change that the store's operations make. -/

namespace Sys2Proof.Proofs

open Sys2Proof Sys2Proof.Machine Sys2Proof.Laws

-- As in the tests: one theorem after another, within the memory that the check leaves for threads.
set_option Elab.async false

/-! ### The pages of a segment list -/

/-- A segment that is made missing gives its page back, if it is held. -/
theorem filterMap_set_none (segs : List (Option Nat)) (k : Nat) :
    ((segs.set k none).filterMap id ++ (segs.getD k none).toList).Perm (segs.filterMap id) := by
  induction segs generalizing k with
  | nil => exact .of_eq (by simp)
  | cons x segs ih =>
    cases k with
    | zero => cases x <;> simp [List.perm_append_singleton]
    | succ k => cases x <;> simpa using ih k

/-- A missing segment that becomes held takes its page up. -/
theorem filterMap_set_some {segs : List (Option Nat)} {k : Nat} (h : segs[k]? = some none) (page : Nat) :
    ((segs.set k (some page)).filterMap id).Perm (page :: segs.filterMap id) := by
  induction segs generalizing k with
  | nil => cases h
  | cons x segs ih =>
    cases k with
    | zero => obtain rfl : x = none := by simpa using h
              simp
    | succ k =>
      have ih := ih (show segs[k]? = some none by simpa using h)
      cases x with
      | none => simpa using ih
      | some p => simpa using (ih.cons p).trans (.swap page p _)

theorem pagesOf_set_other {k : Nat} {l : List Nat} (h : k ∉ l) (segs : List (Option Nat)) (x : Option Nat) :
    pagesOf (segs.set k x) l = pagesOf segs l := by
  refine List.filterMap_congr fun j hj => ?_
  have hne : k ≠ j := fun he => h (he ▸ hj)
  simp [List.getD_eq_getElem?_getD, List.getElem?_set_ne hne]

/-- Segments made missing give back the pages that they hold (R77, R80). -/
theorem missing_perm {l : List Nat} (hl : l.Nodup) (segs : List (Option Nat)) :
    ((missing segs l).filterMap id ++ pagesOf segs l).Perm (segs.filterMap id) := by
  induction l generalizing segs with
  | nil => exact .of_eq (by simp [missing, pagesOf])
  | cons k l ih =>
    obtain ⟨hk, hl⟩ := List.nodup_cons.1 hl
    have hrest := ih hl (segs.set k none)
    rw [pagesOf_set_other hk] at hrest
    have hsplit : pagesOf segs (k :: l) = (segs.getD k none).toList ++ pagesOf segs l := by
      unfold pagesOf; rw [List.filterMap_cons]; cases segs.getD k none <;> rfl
    calc (missing segs (k :: l)).filterMap id ++ pagesOf segs (k :: l)
        = (missing (segs.set k none) l).filterMap id ++ ((segs.getD k none).toList ++ pagesOf segs l) := by
          rw [hsplit]; rfl
      List.Perm _ ((missing (segs.set k none) l).filterMap id ++ pagesOf segs l ++ (segs.getD k none).toList) := by
          rw [List.append_assoc]; exact List.perm_append_comm.append_left _
      List.Perm _ ((segs.set k none).filterMap id ++ (segs.getD k none).toList) := hrest.append_right _
      List.Perm _ (segs.filterMap id) := filterMap_set_none segs k

theorem length_missing (l : List Nat) (segs : List (Option Nat)) : (missing segs l).length = segs.length := by
  induction l generalizing segs with
  | nil => rfl
  | cons k l ih => exact (ih _).trans List.length_set

/-- A segment that is missing stays so when others are made missing. -/
theorem missing_keeps_none {k : Nat} (l : List Nat) {segs : List (Option Nat)} (h : segs[k]? = some none) :
    (missing segs l)[k]? = some none := by
  induction l generalizing segs with
  | nil => exact h
  | cons j l ih =>
    refine ih ?_
    by_cases hj : j = k
    · subst hj; rw [List.getElem?_set_self']; simp [h]
    · rw [List.getElem?_set_ne hj, h]

/-- All of an entry's segments, in ascending number, give back all of its pages (R74). -/
theorem pagesOf_range (segs : List (Option Nat)) : pagesOf segs (List.range segs.length) = segs.filterMap id := by
  have hmap : (List.range segs.length).map (fun k => segs.getD k none) = segs := by
    refine List.ext_getElem (by simp) fun i _ h => ?_
    simp [List.getD_eq_getElem?_getD, List.getElem?_eq_getElem h]
  calc pagesOf segs (List.range segs.length)
      = ((List.range segs.length).map fun k => segs.getD k none).filterMap id := by rw [List.filterMap_map]; rfl
    _ = segs.filterMap id := by rw [hmap]

/-! ### One entry of the directory -/

/-- The directory about the one entry of a spot id: a change of that entry, and its removal. -/
theorem directory_split {st : SpotStore} (hn : (st.directory.map fun e => e.spot.id).Nodup) {id : Nat} {e : Entry}
    (he : st.entry? id = some e) : ∃ l r, st.directory = l ++ e :: r
      ∧ (∀ f, updateWhere (fun x => x.spot.id == id) f st.directory = l ++ f e :: r)
      ∧ st.directory.filter (fun x => x.spot.id != id) = l ++ r := by
  obtain ⟨hmem, rfl⟩ := entry?_mem he
  obtain ⟨l, r, hsplit⟩ := List.append_of_mem hmem
  have hothers : ∀ x ∈ l ++ r, x.spot.id ≠ e.spot.id := by
    rw [hsplit, List.map_append, List.map_cons, List.nodup_middle, ← List.map_append] at hn
    exact fun x hx hid => (List.nodup_cons.1 hn).1 (List.mem_map.2 ⟨x, hx, hid⟩)
  have hsame : ∀ k : List Entry, (∀ x ∈ k, x.spot.id ≠ e.spot.id) →
      ∀ f : Entry → Entry, updateWhere (fun x => x.spot.id == e.spot.id) f k = k := fun k hk f =>
    (List.map_congr_left fun x hx => if_neg (by simpa using hk x hx)).trans (List.map_id' k)
  refine ⟨l, r, hsplit, fun f => ?_, ?_⟩
  · have hl := hsame l (fun x hx => hothers x (List.mem_append_left _ hx)) f
    have hr := hsame r (fun x hx => hothers x (List.mem_append_right _ hx)) f
    unfold updateWhere at hl hr ⊢
    rw [hsplit, List.map_append, List.map_cons, hl, hr, if_pos (by simp)]
  · rw [hsplit, List.filter_append, List.filter_cons, if_neg (by simp), ← List.filter_append]
    exact List.filter_eq_self.2 fun x hx => by simpa using hothers x hx

/-! ### The law over the store alone -/

/-- The law of the pages; and, if `spare` is asked, that no page is out in CAPTURE, which no hand-off changes. -/
structure Paged (spare : Prop) (s : State) : Prop where
  law : PageLaw s
  rests : spare → s.store.capturePage = []

variable {s t : State} {spare : Prop}

theorem pageLaw_of_store (h : PageLaw s) (ht : t.store = s.store) : PageLaw t := by
  obtain ⟨hpages, hids, hsegments, hpending, hcapture⟩ := h
  exact ⟨ht ▸ hpages, ht ▸ hids, ht ▸ hsegments, ht ▸ hpending, ht ▸ hcapture⟩

theorem Paged.of_store (h : Paged spare s) (ht : t.store = s.store := by rfl) : Paged spare t :=
  ⟨pageLaw_of_store h.law ht, ht ▸ h.rests⟩

theorem Paged.of_ledger (h : Paged spare s) (ht : ledger t = ledger s) : Paged spare t :=
  h.of_store (congrArg Prod.fst ht)

theorem Paged.of_aside (h : Paged spare s) (ht : aside t = aside s) : Paged spare t :=
  h.of_store (show (aside t).store = (aside s).store by rw [ht])

theorem Paged.forEach {α : Type} {f : α → State → State} (hf : ∀ a {s : State}, Paged spare s → Paged spare (f a s))
    (l : List α) (h : Paged spare s) : Paged spare (forEach f l s) := forEach_holds (fun a _ _ => hf a) h

/-- The law of the pages without the demand on the assembler. -/
theorem Paged.weaken (h : Paged spare s) : Paged False s := ⟨h.law, False.elim⟩

theorem Paged.of_true (h : Paged True s) : Paged spare s := ⟨h.law, fun _ => h.rests trivial⟩

/-- Changes of entries that leave their spots, segment lists and segment counts, and list no failure twice. -/
theorem Paged.entries (h : Paged spare s) {d : List Entry} {g : Entry → Entry} (hd : d = s.store.directory.map g)
    (hg : ∀ e, (g e).spot = e.spot ∧ (g e).segs = e.segs ∧ (g e).segCount = e.segCount)
    (hp : ∀ e ∈ s.store.directory, e.pending.Nodup → (g e).pending.Nodup) :
    Paged spare { s with store := { s.store with directory := d } } := by
  subst hd
  refine ⟨⟨?_, ?_, fun x hx => ?_, fun x hx => ?_, fun a page running check ha => ?_⟩, h.rests⟩
  · have hpages : (s.store.directory.map g).flatMap Entry.pages = s.store.directory.flatMap Entry.pages := by
      rw [List.flatMap_map]
      exact List.flatMap_congr fun e _ => by unfold Entry.pages; rw [(hg e).2.1]
    show ((s.store.directory.map g).flatMap Entry.pages ++ _ ++ _).Perm _
    rw [hpages]; exact h.law.pages
  · have hids : (s.store.directory.map g).map (fun e => e.spot.id) = s.store.directory.map fun e => e.spot.id := by
      rw [List.map_map]; exact List.map_congr_left fun e _ => congrArg Spot.id (hg e).1
    show ((s.store.directory.map g).map fun e => e.spot.id).Nodup
    rw [hids]; exact h.law.ids
  · obtain ⟨e, he, rfl⟩ := List.mem_map.1 hx
    obtain ⟨-, hsegs, hcount⟩ := hg e
    rw [hsegs, hcount]; exact h.law.segments e he
  · obtain ⟨e, he, rfl⟩ := List.mem_map.1 hx
    exact hp e he (h.law.pending e he)
  · obtain ⟨e, he, hspot, hmissing⟩ := h.law.capture a page running check ha
    obtain ⟨hspot', hsegs, -⟩ := hg e
    exact ⟨g e, List.mem_map_of_mem he, hspot'.trans hspot, by rw [hsegs]; exact hmissing⟩

/-- A change of one entry's flags, counts or pending failures. -/
theorem Paged.updateEntry (h : Paged spare s) (id : Nat) {f : Entry → Entry}
    (hf : ∀ e, (f e).spot = e.spot ∧ (f e).segs = e.segs ∧ (f e).segCount = e.segCount := by
      exact fun _ => ⟨rfl, rfl, rfl⟩)
    (hp : ∀ e ∈ s.store.directory, e.spot.id = id → e.pending.Nodup → (f e).pending.Nodup := by
      exact fun _ _ _ hn => hn) :
    Paged spare (updateEntry id f s) := by
  refine h.entries rfl (fun e => ?_) fun e he hn => ?_
  · split
    · exact hf e
    · exact ⟨rfl, rfl, rfl⟩
  · split
    · next hid => exact hp e he (by simpa using hid) hn
    · exact hn

/-- Changes that leave the directory, the free list and the assembler. -/
theorem Paged.beside (h : Paged spare s) (hd : t.store.directory = s.store.directory := by rfl)
    (hf : t.store.freePages = s.store.freePages := by rfl) (ha : t.store.assembler = s.store.assembler := by rfl) :
    Paged spare t := by
  have hpage : t.store.capturePage = s.store.capturePage := by unfold SpotStore.capturePage; rw [ha]
  obtain ⟨⟨hpages, hids, hsegments, hpending, hcapture⟩, hrests⟩ := h
  exact ⟨⟨hd ▸ hf ▸ hpage ▸ hpages, hd ▸ hids, hd ▸ hsegments, hd ▸ hpending, hd ▸ ha ▸ hcapture⟩, hpage ▸ hrests⟩

/-- A change of the assembler, its page and the free list together. -/
theorem Paged.assembly {spare' : Prop} (h : Paged spare s) (hd : t.store.directory = s.store.directory)
    (hperm : (t.store.capturePage ++ t.store.freePages).Perm (s.store.capturePage ++ s.store.freePages))
    (hcapture : ∀ g page running check, t.store.assembler = .capture g page running check →
      ∃ e ∈ s.store.directory, e.spot = g.spot ∧ e.segs[g.segment]? = some none)
    (hrests : spare' → t.store.capturePage = []) : Paged spare' t := by
  refine ⟨⟨?_, ?_, ?_, ?_, ?_⟩, hrests⟩
  · show (t.store.directory.flatMap Entry.pages ++ t.store.capturePage ++ t.store.freePages).Perm _
    rw [hd, List.append_assoc]
    exact (hperm.append_left _).trans ((List.append_assoc _ _ _).symm ▸ h.law.pages)
  · exact hd ▸ h.law.ids
  · exact hd ▸ h.law.segments
  · exact hd ▸ h.law.pending
  · exact hd ▸ hcapture

/-- A change of one entry, with the pages that it gives up or takes up. -/
theorem Paged.replaceEntry (h : Paged spare s) {id : Nat} {e : Entry} {f : Entry → Entry} (he : s.store.entry? id = some e)
    (hd : t.store.directory = updateWhere (fun x => x.spot.id == id) f s.store.directory) (hspot : (f e).spot = e.spot)
    (hlength : (f e).segs.length = (f e).segCount) (hpending : (f e).pending.Nodup)
    (hperm : ((f e).pages ++ t.store.capturePage ++ t.store.freePages).Perm
      (e.pages ++ s.store.capturePage ++ s.store.freePages))
    (hcapture : ∀ g page running check, t.store.assembler = .capture g page running check →
      s.store.assembler = .capture g page running check
        ∧ (e.segs[g.segment]? = some none → (f e).segs[g.segment]? = some none))
    (hrests : s.store.capturePage = [] → t.store.capturePage = []) : Paged spare t := by
  obtain ⟨l, r, hsplit, hupdated, -⟩ := directory_split h.law.ids he
  rw [hupdated f] at hd
  have hmem : ∀ {x}, x ∈ t.store.directory → x = f e ∨ x ∈ s.store.directory := fun {x} hx => by
    rw [hd] at hx; rw [hsplit]
    rcases List.mem_append.1 hx with hx | hx
    · exact .inr (List.mem_append_left _ hx)
    · rcases List.mem_cons.1 hx with rfl | hx
      · exact .inl rfl
      · exact .inr (List.mem_append_right _ (List.mem_cons_of_mem _ hx))
  have hfront : ∀ (a c d : List Nat), (l.flatMap Entry.pages ++ (a ++ r.flatMap Entry.pages) ++ c ++ d).Perm
      (l.flatMap Entry.pages ++ r.flatMap Entry.pages ++ (a ++ c ++ d)) := fun a c d => by
    simp only [List.append_assoc]
    exact (List.perm_append_comm_assoc _ _ _).append_left _
  refine ⟨⟨?_, ?_, fun x hx => ?_, fun x hx => ?_, fun g page running check ha => ?_⟩, fun hs => hrests (h.rests hs)⟩
  · show (t.store.directory.flatMap Entry.pages ++ t.store.capturePage ++ t.store.freePages).Perm _
    have hold : (s.store.directory.flatMap Entry.pages ++ s.store.capturePage ++ s.store.freePages).Perm _ := h.law.pages
    rw [hd, List.flatMap_append, List.flatMap_cons]
    rw [hsplit, List.flatMap_append, List.flatMap_cons] at hold
    exact ((hfront _ _ _).trans (hperm.append_left _)).trans ((hfront _ _ _).symm.trans hold)
  · show (t.store.directory.map fun e => e.spot.id).Nodup
    have hids : (s.store.directory.map fun e => e.spot.id).Nodup := h.law.ids
    rw [hsplit] at hids
    rw [hd]; simpa [hspot] using hids
  · rcases hmem hx with rfl | hx
    · exact hlength
    · exact h.law.segments x hx
  · rcases hmem hx with rfl | hx
    · exact hpending
    · exact h.law.pending x hx
  · obtain ⟨hsame, hstays⟩ := hcapture g page running check ha
    obtain ⟨x, hx, hxspot, hmissing⟩ := h.law.capture g page running check hsame
    replace hx : x ∈ s.store.directory := hx
    show ∃ e ∈ t.store.directory, _
    rw [hsplit] at hx
    rw [hd]
    rcases List.mem_append.1 hx with hx | hx
    · exact ⟨x, List.mem_append_left _ hx, hxspot, hmissing⟩
    · rcases List.mem_cons.1 hx with rfl | hx
      · exact ⟨f x, List.mem_append_right _ List.mem_cons_self, hspot.trans hxspot, hstays hmissing⟩
      · exact ⟨x, List.mem_append_right _ (List.mem_cons_of_mem _ hx), hxspot, hmissing⟩

/-- The removal of an entry, its pages going back, while no segment of it is in CAPTURE (R74). -/
theorem Paged.dropEntry (h : Paged spare s) {id : Nat} {e : Entry} (he : s.store.entry? id = some e)
    (hd : t.store.directory = s.store.directory.filter fun x => x.spot.id != id)
    (hf : t.store.freePages = s.store.freePages ++ e.pages) (ha : t.store.assembler = s.store.assembler)
    (hother : ∀ g page running check, s.store.assembler = .capture g page running check → g.spot.id ≠ id) :
    Paged spare t := by
  have hpage : t.store.capturePage = s.store.capturePage := by unfold SpotStore.capturePage; rw [ha]
  obtain ⟨l, r, hsplit, -, hdropped⟩ := directory_split h.law.ids he
  have hmem : ∀ {x}, x ∈ t.store.directory → x ∈ s.store.directory := fun {x} hx => by
    rw [hd] at hx; exact (List.mem_filter.1 hx).1
  refine ⟨⟨?_, ?_, fun x hx => h.law.segments x (hmem hx), fun x hx => h.law.pending x (hmem hx),
    fun g page running check hc => ?_⟩, hpage ▸ h.rests⟩
  · show (t.store.directory.flatMap Entry.pages ++ t.store.capturePage ++ t.store.freePages).Perm _
    have hold : (s.store.directory.flatMap Entry.pages ++ s.store.capturePage ++ s.store.freePages).Perm _ := h.law.pages
    rw [hd, hdropped, hpage, hf, List.flatMap_append]
    rw [hsplit, List.flatMap_append, List.flatMap_cons] at hold
    refine List.Perm.trans ?_ hold
    simp only [List.append_assoc]
    refine List.Perm.append_left _ ?_
    rw [← List.append_assoc, ← List.append_assoc]
    simpa only [List.append_assoc] using
      List.perm_append_comm (l₁ := r.flatMap Entry.pages ++ (s.store.capturePage ++ s.store.freePages)) (l₂ := e.pages)
  · show (t.store.directory.map fun e => e.spot.id).Nodup
    rw [hd]; exact (List.filter_sublist.map _).nodup h.law.ids
  · obtain ⟨x, hx, hspot, hmissing⟩ := h.law.capture g page running check (ha ▸ hc)
    refine ⟨x, ?_, hspot, hmissing⟩
    show x ∈ t.store.directory
    rw [hd]
    exact List.mem_filter.2 ⟨hx, by simpa [hspot] using hother g page running check (ha ▸ hc)⟩

theorem insertEntry_perm (e : Entry) (l : List Entry) : (insertEntry e l).Perm (e :: l) := by
  induction l with
  | nil => exact .refl _
  | cons x l ih =>
    unfold insertEntry; split
    · exact .refl _
    · exact (ih.cons x).trans (.swap e x l)

/-- A new entry with no segment held (R69). -/
theorem Paged.insertEntry (h : Paged spare s) {e : Entry} (hnew : s.store.entry? e.spot.id = none) (hpages : e.pages = [])
    (hlength : e.segs.length = e.segCount) (hpending : e.pending.Nodup) :
    Paged spare { s with store := { s.store with directory := insertEntry e s.store.directory } } := by
  have hperm := insertEntry_perm e s.store.directory
  have hmem : ∀ {x}, x ∈ Machine.insertEntry e s.store.directory → x = e ∨ x ∈ s.store.directory := fun hx =>
    List.mem_cons.1 (hperm.mem_iff.1 hx)
  refine ⟨⟨?_, ?_, fun x hx => ?_, fun x hx => ?_, fun g page running check ha => ?_⟩, h.rests⟩
  · have hsame : ((Machine.insertEntry e s.store.directory).flatMap Entry.pages).Perm
        (s.store.directory.flatMap Entry.pages) := by
      refine (hperm.flatMap_right _).trans (.of_eq ?_)
      rw [List.flatMap_cons, hpages]; rfl
    exact ((hsame.append_right _).append_right _).trans h.law.pages
  · refine (hperm.map _).nodup_iff.2 (List.nodup_cons.2 ⟨fun hid => ?_, h.law.ids⟩)
    obtain ⟨x, hx, hxid⟩ := List.mem_map.1 hid
    exact List.find?_eq_none.1 hnew x hx (by simpa using hxid)
  · rcases hmem hx with rfl | hx
    · exact hlength
    · exact h.law.segments x hx
  · rcases hmem hx with rfl | hx
    · exact hpending
    · exact h.law.pending x hx
  · obtain ⟨x, hx, hspot, hmissing⟩ := h.law.capture g page running check ha
    exact ⟨x, hperm.mem_iff.2 (List.mem_cons_of_mem _ hx), hspot, hmissing⟩

end Sys2Proof.Proofs
end

section
/-! SUPPORT. Every operation that reaches the spot store keeps the law of the pages: the store's own operations, the
agreement unit's hand-offs, the channels, and the cue decoder. -/

namespace Sys2Proof.Proofs

open Sys2Proof Sys2Proof.Machine Sys2Proof.Laws

-- As in the tests: one theorem after another, within the memory that the check leaves for threads.
set_option Elab.async false

variable {s : State} {spare : Prop}

/-! ### The segment in assembly -/

/-- The end of a segment: a page in CAPTURE goes back, and no segment is in assembly (R66, R72). -/
theorem Paged.endSegment (h : Paged spare s) : Paged True (endSegment s) := by
  have hnone : ∀ g page running check, (Machine.endSegment s).store.assembler ≠ .capture g page running check := nofun
  refine h.assembly ?_ ?_ (fun g page running check hc => absurd hc (hnone g page running check)) fun _ => rfl
  all_goals unfold Machine.endSegment dropCapture
  all_goals cases ha : s.store.assembler with
    | idle | skip g => simp [SpotStore.capturePage, ha]
    | capture g page running check => simp [SpotStore.capturePage, ha, List.perm_append_singleton]

theorem Paged.dropAssembly (h : Paged spare s) (id : Nat) : Paged spare (dropAssembly id s) := by
  unfold Proofs.dropAssembly; split
  · split
    · exact h.endSegment.of_true
    · exact h
  · exact h
  · exact h

/-- No segment of the spot id is in CAPTURE after a removal's part at the assembler (R74). -/
theorem dropAssembly_other {id : Nat} {g : SegmentInFlight} {page : Nat} {running check : Word32}
    (h : (dropAssembly id s).store.assembler = .capture g page running check) : g.spot.id ≠ id := by
  unfold dropAssembly at h
  cases ha : s.store.assembler with
  | idle | skip x => simp [ha] at h
  | capture x p r c =>
    simp only [ha] at h
    split at h
    · cases h
    · next hne =>
      rw [ha] at h
      cases h; exact hne

theorem entry?_dropAssembly (id : Nat) (s : State) (n : Nat) :
    (dropAssembly id s).store.entry? n = s.store.entry? n := by
  unfold SpotStore.entry?; rw [dropAssembly_directory]

/-! ### The spot store -/

theorem Paged.protectSpot (x : Spot) (h : Paged spare s) : Paged spare (protectSpot x s) := by
  unfold Machine.protectSpot; split
  · exact h
  · exact h.updateEntry _
theorem Paged.freezeSpot (x : Spot) (h : Paged spare s) : Paged spare (freezeSpot x s) := by
  unfold Machine.freezeSpot; split
  · exact h
  · exact h.updateEntry _

section Notify

variable {notify : State → State} (hn : ∀ {s : State}, Paged spare s → Paged spare (notify s))
include hn

/-- Listed segments that become missing give back what they hold (R77, R80). -/
theorem Paged.makeMissing (src : Option DamageSource) (n : Nat) {l : List Nat} (hl : l.Nodup) (h : Paged spare s) :
    Paged spare (makeMissing notify src n l s) := by
  cases he : s.store.entry? n with
  | none => unfold Machine.makeMissing; rw [he]; exact h
  | some e =>
    have hmem := (entry?_mem he).1
    have hperm : ((missing e.segs l).filterMap id ++ s.store.capturePage
        ++ (s.store.freePages ++ pagesOf e.segs l)).Perm (e.pages ++ s.store.capturePage ++ s.store.freePages) := by
      have hpages := (missing_perm hl e.segs).append_right (s.store.capturePage ++ s.store.freePages)
      refine List.Perm.trans ?_ (hpages.trans (.of_eq (List.append_assoc _ _ _).symm))
      simp only [List.append_assoc]
      refine List.Perm.append_left _ ?_
      simpa only [List.append_assoc] using List.perm_append_comm (l₁ := s.store.capturePage ++ s.store.freePages)
    have hmissed : ∀ {t : State}, t.store.directory = updateWhere (fun x => x.spot.id == n)
        (fun x => { x with segs := missing x.segs l, state := .filling }) s.store.directory →
        t.store.freePages = s.store.freePages ++ pagesOf e.segs l → t.store.assembler = s.store.assembler → Paged spare t :=
      fun {t} hd hf ha => by
        have hpage : t.store.capturePage = s.store.capturePage := by unfold SpotStore.capturePage; rw [ha]
        refine h.replaceEntry he hd rfl ((length_missing l e.segs).trans (h.law.segments e hmem)) (h.law.pending e hmem) ?_
          (fun g page running check hc => ⟨ha ▸ hc, missing_keeps_none l⟩) fun hs => hpage.trans hs
        rw [hf, hpage]; exact hperm
    unfold Machine.makeMissing; rw [he]
    cases src with
    | none => exact hn (hmissed rfl rfl rfl)
    | some src => exact hn (hmissed rfl rfl rfl)

/-- An entry that is removed gives back the pages of its segments and of the one in CAPTURE (R74). -/
theorem Paged.removeEntry (id : Nat) (h : Paged spare s) : Paged spare (removeEntry notify id s) := by
  cases he : s.store.entry? id with
  | none => rw [removeEntry_none he]; exact h
  | some e =>
    rw [removeEntry_some he]
    have hpages : pagesOf e.segs (List.range e.segs.length) = e.pages := pagesOf_range e.segs
    refine hn ((h.dropAssembly id).dropEntry ((entry?_dropAssembly id s id).trans he) rfl ?_ rfl fun _ _ _ _ hc =>
      dropAssembly_other hc)
    rw [← hpages]; rfl

theorem Paged.tryExpire (id : Nat) (h : Paged spare s) : Paged spare (tryExpire notify id s) := by
  unfold Machine.tryExpire; split
  · exact h
  · split
    · exact .of_store (Paged.removeEntry hn id h)
    · exact h
theorem Paged.releaseSpot (x : Spot) (h : Paged spare s) : Paged spare (releaseSpot notify x s) := by
  unfold Machine.releaseSpot; split
  · exact h
  · exact Paged.tryExpire hn _ (h.updateEntry _)
theorem Paged.applyPending (src : Option DamageSource) (id : Nat) (h : Paged spare s) :
    Paged spare (applyPending notify src id s) := by
  unfold Machine.applyPending; split
  · exact h
  · next e he =>
    split
    · exact h
    · exact Paged.makeMissing hn _ _ (h.law.pending e (entry?_mem he).1)
        (h.updateEntry id (f := fun y => { y with pending := [] }) (hp := fun _ _ _ _ => List.nodup_nil))
theorem Paged.unfreezeSpot (x : Spot) (h : Paged spare s) : Paged spare (unfreezeSpot notify x s) := by
  unfold Machine.unfreezeSpot; split
  · exact h
  · dsimp only; split
    · exact Paged.tryExpire hn _ (Paged.applyPending hn _ _ (h.updateEntry _))
    · exact h.updateEntry _
theorem Paged.startCheck (h : Paged spare s) : Paged spare (startCheck notify s) := by
  unfold Machine.startCheck; split
  · next id rest _ _ =>
    split
    · exact h.beside
    · next e _ =>
      have hstarted : Paged spare (Machine.updateStoreCounters (fun k => { k with checksRun := bump k.checksRun })
          { s with store := { s.store with checkQueue := rest, check := some ⟨id, s.tb.now + 10000 * e.segCount⟩ } }) :=
        h.beside
      exact hn (hstarted.updateEntry _)
  · exact h

/-- A failure handed back by a channel: listed once, or its segment made missing (R78). -/
theorem Paged.storeFailure (id k : Nat) (h : Paged spare s) : Paged spare (storeFailure notify id k s) := by
  unfold Machine.storeFailure; split
  · exact h
  · next e he =>
    split
    · split
      · exact h
      · next hnew =>
        refine h.updateEntry id (f := fun y => { y with pending := y.pending ++ [k] }) (hp := fun x hx hid hnodup => ?_)
        obtain rfl := entry?_unique h.law.ids he hx hid
        have hk : k ∉ x.pending := by simpa using hnew
        exact List.nodup_append.2 ⟨hnodup, List.nodup_singleton k, fun a ha b hb hab =>
          hk (List.mem_singleton.1 hb ▸ hab ▸ ha)⟩
    · exact Paged.makeMissing hn _ _ (List.nodup_singleton k) h
theorem Paged.unbindChannel (k : Nat) (h : Paged spare s) : Paged spare (unbindChannel notify k s) := by
  unfold Machine.unbindChannel; split
  · exact h
  · next c _ =>
    have hstart : Paged spare (notify (updateRecord c.breakId (fun r => { r with channel := none })
        (updateChan k Channel.unbound s))) := hn h.of_store
    dsimp only; split
    · exact .of_store (Paged.forEach (fun x _ => Paged.releaseSpot hn x) _
        (Paged.forEach (fun x _ => Paged.unfreezeSpot hn x) _ hstart))
    · exact .of_store (Paged.forEach (fun x _ => Paged.releaseSpot hn x) _ hstart)

end Notify

/-! ### The agreement unit -/

theorem Paged.raise (e : Event) (h : Paged spare s) : Paged spare (raise e s) := h.of_store
theorem Paged.urgent (h : Paged spare s) : Paged spare (urgent s) := h.of_ledger (ledger_urgent s)
theorem Paged.setLatch (l : Latch) (h : Paged spare s) : Paged spare (setLatch l s) := h.of_ledger (ledger_setLatch l s)
theorem Paged.updateRecord (id : Nat) (f : BreakRecord → BreakRecord) (h : Paged spare s) : Paged spare (updateRecord id f s) :=
  h.of_store
theorem Paged.updateChan (k : Nat) (f : Channel → Channel) (h : Paged spare s) : Paged spare (updateChan k f s) :=
  h.of_store
theorem Paged.countChan (k : Nat) (f : ChannelCounters → ChannelCounters) (h : Paged spare s) : Paged spare (countChan k f s) :=
  h.of_store
theorem Paged.countAgree (f : AgreementCounters → AgreementCounters) (h : Paged spare s) : Paged spare (countAgree f s) := h.of_store
theorem Paged.reportStance (id : Nat) (o : Option Stance) (n : Stance) (h : Paged spare s) : Paged spare (reportStance id o n s) :=
  h.of_store
theorem Paged.moveState (id : Nat) (n : BreakState) (h : Paged spare s) : Paged spare (moveState id n s) :=
  h.of_ledger (ledger_moveState id n s)
theorem Paged.refreshOpen (h : Paged spare s) : Paged spare (refreshOpen s) := h.of_ledger (ledger_refreshOpen s)
theorem Paged.refreshRecord (id : Nat) (h : Paged spare s) : Paged spare (refreshRecord id s) :=
  h.of_ledger (ledger_refreshRecord id s)
theorem Paged.holdRecord (id : Nat) (r : HoldReason) (h : Paged spare s) : Paged spare (holdRecord id r s) := by
  unfold Machine.holdRecord; split
  · exact h
  · have hmoved := fun f => (h.moveState id .decidedHold).updateRecord id f
    dsimp only
    refine Paged.refreshOpen ?_
    split <;> refine Paged.countAgree _ (Paged.urgent (Paged.reportStance _ _ _ ?_)) <;> split
    · exact Paged.unbindChannel Paged.refreshOpen _ (hmoved _)
    · exact hmoved _
    · exact Paged.unbindChannel Paged.refreshOpen _ (hmoved _)
    · exact hmoved _
theorem Paged.reconcileBut (x n : Nat) (h : Paged spare s) : Paged spare (reconcileBut x n s) := by
  induction n generalizing s with
  | zero => exact h.refreshOpen
  | succ n ih =>
    unfold Machine.reconcileBut; split
    · exact ih (h.holdRecord _ _)
    · exact h.refreshOpen
theorem Paged.refreshBut (x : Nat) (h : Paged spare s) : Paged spare (refreshBut x s) := h.reconcileBut _ _
theorem Paged.refresh (h : Paged spare s) : Paged spare (refresh s) := h.refreshBut _
theorem Paged.unbind (k : Nat) (h : Paged spare s) : Paged spare (unbind k s) := Paged.unbindChannel Paged.refresh k h

@[simp] theorem ledger_comparePeer (id : Nat) (p : Peer) (s : State) : ledger (comparePeer id p s) = ledger s := by
  unfold comparePeer; split
  · rfl
  · dsimp only; split
    · simp
    · rfl
@[simp] theorem ledger_compareAll (id : Nat) (s : State) : ledger (compareAll id s) = ledger s :=
  forEach_keeps ledger _ (ledger_comparePeer id) _ s
@[simp] theorem ledger_channelMove (id : Nat) (n : BreakState) (c : Option AbandonCause) (s : State) :
    ledger (channelMove id n c s) = ledger s := by
  unfold channelMove; split
  · rfl
  · split
    · dsimp only; split <;> simp
    · rfl

theorem Paged.compareAll (id : Nat) (h : Paged spare s) : Paged spare (compareAll id s) :=
  h.of_ledger (ledger_compareAll id s)
theorem Paged.channelMove (id : Nat) (n : BreakState) (c : Option AbandonCause) (h : Paged spare s) :
    Paged spare (channelMove id n c s) := h.of_ledger (ledger_channelMove id n c s)
theorem Paged.removeRecord (id : Nat) (h : Paged spare s) : Paged spare (removeRecord id s) := by
  unfold Machine.removeRecord; split
  · exact h
  · have hleft : ∀ {u : State} (l : List Spot), Paged spare u → Paged spare (Machine.refresh (Machine.urgent
        { Machine.forEach (Machine.releaseSpot (Machine.refreshBut id)) l u with
          cues := { (Machine.forEach (Machine.releaseSpot (Machine.refreshBut id)) l u).cues with
            table := (Machine.forEach (Machine.releaseSpot (Machine.refreshBut id)) l u).cues.table.filter
              fun x => x.id != id } })) := fun l hu =>
      have hreleased := Paged.forEach (fun x _ => Paged.releaseSpot (Paged.refreshBut id) x) l hu
      (Paged.urgent hreleased.of_store).refresh
    dsimp only; split
    · exact (hleft _ (Paged.unbindChannel (Paged.refreshBut id) _ h)).of_store
    · exact (hleft _ h).of_store
theorem Paged.settleRemoval (id : Nat) (h : Paged spare s) : Paged spare (settleRemoval id s) := by
  unfold Machine.settleRemoval; split
  · exact h
  · split
    · exact h.removeRecord _
    · exact h

/-! ### The insertion channels -/

theorem Paged.bindChannel (k : Nat) (r : BreakRecord) (h : Paged spare s) : Paged spare (bindChannel k r s) :=
  .of_store (Paged.forEach (fun x _ => Paged.protectSpot x) _ (h.updateChan _ _))
theorem Paged.giveUp (c : AbandonCause) (k : Nat) (h : Paged spare s) : Paged spare (giveUp c k s) := by
  unfold Machine.giveUp; split
  · exact h
  · have hleft := fun f id n d e l => (((((h.updateChan k f).channelMove id n d).unbind k).raise e).setLatch l)
    cases c with
    | lostStep => exact ((hleft _ _ _ _ _ _).countChan _ _).settleRemoval _
    | override => exact ((hleft _ _ _ _ _ _).countChan _ _).settleRemoval _
theorem Paged.endPlay (k : Nat) (h : Paged spare s) : Paged spare (endPlay k s) := by
  unfold Machine.endPlay; split
  · exact h
  · exact (((h.channelMove _ _ _).unbind k).countChan _ _).settleRemoval _
theorem Paged.armChannel (k : Nat) (h : Paged spare s) : Paged spare (armChannel k s) := by
  unfold Machine.armChannel; split
  · exact h
  · split
    · exact h
    · have hfrozen := fun f e l g => (Paged.forEach (fun x _ => Paged.freezeSpot x) l
        ((h.updateChan k f).raise e)).updateChan k g
      dsimp only; split
      · exact hfrozen _ _ _ _
      · split
        · exact (hfrozen _ _ _ _).giveUp _ _
        · exact hfrozen _ _ _ _
theorem Paged.setChannelState (k : Nat) (n : ChannelState) (position : Nat) (h : Paged spare s) :
    Paged spare (setChannelState k n position s) := by
  unfold Machine.setChannelState; split
  · exact h
  · exact (h.updateChan _ _).raise _
theorem Paged.planFrame (p : FramePass) (k : Nat) (h : Paged spare s) : Paged spare (planFrame p k s) := by
  unfold Machine.planFrame; split
  · exact h
  · have hplanned := fun f g => (h.updateChan k f).countChan k g
    dsimp only; unfold padReached; split
    · exact hplanned _ _
    · split
      · exact (hplanned _ _).setChannelState _ _ _
      · exact hplanned _ _
theorem Paged.playPass (p : FramePass) (k : Nat) (b : BoundBreak) (h : Paged spare s) :
    Paged spare (playPass p k b s) := by
  unfold Machine.playPass; split
  · exact h.endPlay _
  · split
    · exact h.giveUp _ _
    · split
      · exact h
      · exact h.planFrame _ _
theorem Paged.armedPass (p : FramePass) (k : Nat) (b : BoundBreak) (h : Paged spare s) :
    Paged spare (armedPass p k b s) := by
  unfold Machine.armedPass; split
  · exact h.endPlay _
  · split
    · exact h
    · split
      · exact h.giveUp _ _
      · exact ((h.setChannelState _ _ _).channelMove _ _ _).planFrame _ _
theorem Paged.channelPass (p : FramePass) (k : Nat) (h : Paged spare s) : Paged spare (channelPass p k s) := by
  unfold Machine.channelPass; split
  · exact h
  · split
    · exact h
    · split
      · exact h
      · exact h
      · exact h.armedPass _ _ _
      · exact h.playPass _ _ _
      · exact h.playPass _ _ _
theorem Paged.channelGap (c : Time) (k : Nat) (h : Paged spare s) : Paged spare (channelGap c k s) := by
  unfold Machine.channelGap; split
  · exact h
  · split
    · exact h
    · exact h
    · split
      · split
        · exact h.giveUp _ _
        · exact h
      · exact h
    · exact h.giveUp _ _
    · exact h.giveUp _ _
theorem Paged.overrideChannels (h : Paged spare s) : Paged spare (overrideChannels s) := by
  refine .forEach (fun k s h => ?_) _ h
  unfold channelOverride; split
  · exact h
  · split
    · exact h.giveUp _ _
    · exact h
theorem Paged.framePass (p : FramePass) (h : Paged spare s) : Paged spare (framePass p s) := by
  refine .of_store (Paged.forEach (fun k _ => Paged.channelPass p k) channelNumbers (s := if p.released then dropPlans s
    else s) ?_)
  split
  · exact h.of_store
  · exact h
theorem Paged.frameGapToChannels (c : Time) (h : Paged spare s) : Paged spare (frameGapToChannels c s) :=
  .forEach (fun k _ => Paged.channelGap c k) _ h.of_store
theorem Paged.readFailed (k : Nat) (p : FramePlan) (id g : Nat) (h : Paged spare s) :
    Paged spare (readFailed k p id g s) := by
  have hfailed := fun (f : StoreCounters → StoreCounters) (e : ChannelCounters → ChannelCounters) =>
    Paged.storeFailure Paged.refresh id g
      (Paged.countChan k e (h.beside (t := Machine.updateStoreCounters f s)))
  unfold Machine.readFailed; dsimp only; split
  · exact hfailed _ _
  · split
    · exact hfailed _ _
    · exact ((hfailed _ _).updateChan _ _).raise _
theorem Paged.passChannels (n : Nat) (c : Cell) (h : Paged spare s) : Paged spare (passChannels n c s).2 := by
  unfold Machine.passChannels; split
  · exact h
  · refine Paged.of_store (s := (substitutedCell _ _ c s).2) ?_
    unfold substitutedCell; split
    · exact h.of_store
    · dsimp only; split <;> split
      · exact h.of_store
      · exact h
      · exact (h.countChan _ _).readFailed _ _ _ _
      · exact h.readFailed _ _ _ _

/-! ### The cue decoder and the break table -/

theorem Paged.countCues (f : CueCounters → CueCounters) (h : Paged spare s) : Paged spare (countCues f s) := h.of_store
theorem Paged.refuseCue (id version : Nat) (c : RefusalCause) (h : Paged spare s) : Paged spare (refuseCue id version c s) :=
  h.of_store
theorem Paged.acceptBreak (c : SiteConfig) (b : BreakCue) (cOut cIn : Time) (h : Paged spare s) :
    Paged spare (acceptBreak c b cOut cIn s) := by
  have hin : ∀ l r, Paged spare (Machine.forEach Machine.protectSpot l { s with cues := { s.cues with table := r } }) :=
    fun l r => Paged.forEach (fun x _ => Paged.protectSpot x) l h.of_store
  unfold Machine.acceptBreak
  exact (((hin _ _).urgent.reportStance _ _ _).raise _).countCues _
theorem Paged.updateBreak (c : SiteConfig) (b : BreakCue) (cOut cIn : Time) (old : BreakRecord) (h : Paged spare s) :
    Paged spare (updateBreak c b cOut cIn old s) :=
  .of_store (Paged.refreshRecord _ (Paged.forEach (fun x _ => Paged.releaseSpot Paged.refresh x) _
    (Paged.forEach (fun x _ => Paged.protectSpot x) _ (h.updateRecord _ _))))
theorem Paged.judgeCandidate (c : SiteConfig) (b : BreakCue) (a : Time) (h : Paged spare s) :
    Paged spare (judgeCandidate c b a s) := by
  unfold Machine.judgeCandidate; split
  · exact h.refuseCue _ _ _
  · dsimp only; split
    · exact h.refuseCue _ _ _
    · split
      · exact h.updateBreak _ _ _ _ _
      · exact h.acceptBreak _ _ _ _
theorem Paged.takeBreak (c : SiteConfig) (b : BreakCue) (a : Time) (h : Paged spare s) :
    Paged spare (takeBreak c b a s) := by
  unfold Machine.takeBreak; split
  · exact h.judgeCandidate _ _ _
  · split
    · exact h.countCues _
    · split
      · exact h.judgeCandidate _ _ _
      · exact h.refuseCue _ _ _
theorem Paged.takeCancel (id : Nat) (h : Paged spare s) : Paged spare (takeCancel id s) := by
  unfold Machine.takeCancel; split
  · exact h.countCues _
  · split
    · exact (h.removeRecord id).of_store
    · exact h.refuseCue _ _ _
theorem Paged.takeAction (c : SiteConfig) (x : CueAction) (a : Time) (h : Paged spare s) :
    Paged spare (takeAction c x a s) := by
  unfold Machine.takeAction; dsimp only; split
  · split
    · exact h.countCues _
    · exact h.takeBreak _ _ _
  · split
    · exact h.countCues _
    · exact h.takeCancel _
theorem Paged.cueTaken (c : SiteConfig) (b : List Byte) (a : Time) (h : Paged spare s) :
    Paged spare (cueTaken c b a s) := by
  unfold Machine.cueTaken; split
  · exact h.countCues _
  · dsimp only; split
    · exact (h.countCues _).takeAction _ _ _
    · exact h.of_store

theorem Paged.decideHold (r : BreakRecord) (reason : HoldReason) (p : Option Nat) (h : Paged spare s) :
    Paged spare (decideHold r reason p s) := by
  have hdecided : Paged spare (reportDecision r (some reason) p (moveDecided r .decidedHold (.hold reason) s)) :=
    Paged.urgent (Paged.of_store (h.moveState r.id .decidedHold))
  unfold Machine.decideHold countHold; split <;> exact hdecided.of_store
theorem Paged.decideGo (r : BreakRecord) (k : Nat) (h : Paged spare s) : Paged spare (decideGo r k s) := by
  have hdecided : Paged spare (moveDecided r .decidedGo .go s) := (h.moveState r.id .decidedGo).of_store
  have hreported : Paged spare (reportDecision r none none (Machine.bindChannel k r (moveDecided r .decidedGo .go s))) :=
    Paged.urgent (hdecided.bindChannel k r).of_store
  exact Paged.refresh hreported.of_store
theorem Paged.decideRecord (r : BreakRecord) (h : Paged spare s) : Paged spare (decideRecord r s) := by
  unfold Machine.decideRecord; split
  · exact h.decideHold _ _ _
  · exact (h.countAgree _).decideHold _ _ _
  · exact h.decideGo _ _
theorem Paged.lockGo (r : BreakRecord) (h : Paged spare s) : Paged spare (lockGo r s) := by
  have hlocked := fun f => ((h.moveState r.id .lockedGo).updateRecord r.id f).compareAll r.id
  unfold Machine.lockGo; dsimp only; split
  · exact (hlocked _).armChannel _
  · exact hlocked _
theorem Paged.lockHold (r : BreakRecord) (h : Paged spare s) : Paged spare (lockHold r s) :=
  ((h.moveState _ _).updateRecord _ _).compareAll _

end Sys2Proof.Proofs
end

section
/-! SUPPORT. The commands of the spot store, of the emission controller and of feed intake keep the law of the pages. -/

namespace Sys2Proof.Proofs

open Sys2Proof Sys2Proof.Machine Sys2Proof.Laws

-- As in the tests: one theorem after another, within the memory that the check leaves for threads.
set_option Elab.async false

variable {s : State} {spare : Prop}

/-! ### Segments (R64 to R72) -/

theorem Paged.updateStoreCounters (f : StoreCounters → StoreCounters) (h : Paged spare s) :
    Paged spare (updateStoreCounters f s) := h.beside

/-- With no page out, the assembler may be put into any state but CAPTURE. -/
theorem Paged.setIdle (h : Paged True s) {a : Assembler} (ha : ∀ g page running check,
    a ≠ .capture g page running check) : Paged True (setAssembler a s) := by
  have hnone : (setAssembler a s).store.capturePage = [] := by
    cases a with
    | idle | skip g => rfl
    | capture g page running check => exact absurd rfl (ha g page running check)
  exact h.assembly rfl (.of_eq (by rw [hnone, h.rests trivial]; rfl))
    (fun g page running check hc => absurd hc (ha g page running check)) fun _ => hnone

theorem Paged.skipHead (x : SegmentHead) (h : Paged True s) : Paged True (skipHead x s) :=
  h.setIdle fun _ _ _ _ => Assembler.noConfusion

/-- A page leaves the free list for a missing segment of the head's spot (R67). -/
theorem Paged.captureHead {x : SegmentHead} (h : Paged True s)
    (hx : ∃ e ∈ s.store.directory, e.spot = x.spot ∧ e.segs[x.segment]? = some none) : Paged False (captureHead x s) := by
  unfold Machine.captureHead; split
  · exact ((h.skipHead x).raise _).weaken
  · next page rest hfree =>
    refine h.assembly rfl (.of_eq ?_) (fun g page' running check hc => ?_) False.elim
    · rw [h.rests trivial, hfree]; rfl
    · cases hc; exact hx

theorem named?_mem {st : SpotStore} {x : Spot} {e : Entry} (h : st.named? x = some e) :
    e ∈ st.directory ∧ e.spot = x := ⟨List.mem_of_find?_eq_some h, by simpa using List.find?_some h⟩

/-- A head that agrees with its entry has the entry's segment count (R67). -/
theorem segCount_of_consistent {x : SegmentHead} {e : Entry} (h : ¬headInconsistent x e = true) :
    x.segCount = e.segCount := by
  simp only [headInconsistent, Bool.or_eq_true, not_or] at h
  simpa using h.1

/-- The segment of a head is missing in a segment list that has a place for it. -/
theorem missing_of_getD {segs : List (Option Nat)} {k : Nat} (hk : k < segs.length)
    (h : ¬(segs.getD k none).isSome = true) : segs[k]? = some none := by
  rw [List.getD_eq_getElem?_getD, List.getElem?_eq_getElem hk] at h
  rw [List.getElem?_eq_getElem hk]
  simpa using h

theorem Paged.takeHead {x : SegmentHead} (h : Paged True s) (hx : x.segment < x.segCount) :
    Paged False (takeHead x s) := by
  unfold Machine.takeHead; split
  · exact h.weaken
  · next e he =>
    obtain ⟨hmem, hspot⟩ := named?_mem he
    split
    · exact ((h.skipHead x).raise _).weaken
    · next hconsistent =>
      have hlength : x.segment < e.segs.length := by
        rw [h.law.segments e hmem, ← segCount_of_consistent hconsistent]; exact hx
      have hlast : ∀ (b : Prop) [Decidable b] n, Paged True (if b then Machine.updateEntry n
          (fun y => { y with lastCells := some x.cells }) s else s) := fun b _ n => by
        split
        · exact h.updateEntry _
        · exact h
      dsimp only; split
      · exact (((hlast _ _).skipHead x).updateStoreCounters _).weaken
      · next hmissing =>
        have hnone := missing_of_getD hlength hmissing
        refine (hlast _ _).captureHead ?_
        split
        · exact ⟨_, mem_updateWhere.2 ⟨e, hmem, rfl⟩, by split <;> exact hspot, by split <;> exact hnone⟩
        · exact ⟨e, hmem, hspot, hnone⟩

theorem pages_freshEntry (x : SegmentHead) (s : State) : (freshEntry x s).pages = [] := by
  simp [Entry.pages, freshEntry, List.filterMap_replicate_of_none]

theorem Paged.createEntry {x : SegmentHead} (h : Paged True s) (hnew : s.store.entry? x.spot.id = none)
    (hx : x.segment < x.segCount) : Paged False (createEntry x s) := by
  unfold Machine.createEntry; split
  · exact (h.insertEntry (e := freshEntry x s) hnew (pages_freshEntry x s) List.length_replicate
      List.nodup_nil).refresh.takeHead hx
  · exact ((h.skipHead x).raise _).weaken

/-- Entries leave the directory in a hand-off; none comes in. -/
theorem entry?_refresh_none {id : Nat} (h : s.store.entry? id = none) : (refresh s).store.entry? id = none := by
  by_contra hsome
  obtain ⟨e, he⟩ := Option.ne_none_iff_exists'.1 hsome
  have hid : id ∈ s.store.ids := (refresh_keeps (second := 0) s).ids.subset (entry?_isSome_iff.1 ⟨e, he⟩)
  obtain ⟨x, hx⟩ := entry?_isSome_iff.2 hid
  exact nomatch h.symm.trans hx

theorem entry?_dropEntry (id : Nat) (s : State) : (dropEntry id s).store.entry? id = none :=
  List.find?_eq_none.2 fun x hx => by simpa using (List.mem_filter.1 hx).2

theorem entry?_removeEntry (id : Nat) (s : State) : (removeEntry refresh id s).store.entry? id = none := by
  cases he : s.store.entry? id with
  | none => rw [removeEntry_none he]; exact he
  | some e => rw [removeEntry_some he]; exact entry?_refresh_none (entry?_dropEntry id _)

theorem Paged.directoryHead {x : SegmentHead} (h : Paged True s) (hx : x.segment < x.segCount) :
    Paged False (directoryHead x s) := by
  unfold Machine.directoryHead; split
  · next hnew => exact h.createEntry hnew hx
  · next e he =>
    split
    · exact h.takeHead hx
    · unfold newVersion; split
      · rw [(entry?_mem he).2]
        exact ((Paged.removeEntry Paged.refresh x.spot.id h).raise _).createEntry (entry?_removeEntry _ _) hx
      · exact ((h.skipHead x).raise _).weaken

theorem segment_lt_of_ok {x : SegmentHead} (h : x.ok = true) : x.segment < x.segCount := by
  simp only [SegmentHead.ok, Bool.and_eq_true, decide_eq_true_eq] at h
  exact h.1.1.1.2

theorem Paged.segmentHead (c : SiteConfig) (b : List Byte) (h : Paged spare s) :
    Paged False (segmentHead c b s) := by
  unfold Machine.segmentHead; dsimp only; split
  · exact (h.endSegment.updateStoreCounters _).weaken
  · next hok =>
    split
    · exact ((h.endSegment.updateStoreCounters _).skipHead _).weaken
    · split
      · exact ((h.endSegment.updateStoreCounters _).skipHead _).weaken
      · exact h.endSegment.directoryHead (segment_lt_of_ok (by simpa using hok))

/-- A captured segment that is held takes its page from the assembler to its entry (R71). -/
theorem Paged.completeSegment {g : SegmentInFlight} {page : Nat} {running check : Word32} {running' check' : Word32}
    {n : Nat} (h : Paged spare s) (ha : s.store.assembler = .capture { g with received := n } page running' check') :
    Paged True (completeSegment g page running check s) := by
  have hpage : s.store.capturePage = [page] := by unfold SpotStore.capturePage; rw [ha]
  unfold Machine.completeSegment; dsimp only; split
  · obtain ⟨e, hmem, hspot, hmissing⟩ := h.law.capture _ _ _ _ ha
    have hfound : s.store.entry? g.spot.id = some e := hspot ▸ entry?_of_mem h.law.ids hmem
    have hheld : Paged True (Machine.updateEntry g.spot.id (fun e => { e with segs := e.segs.set g.segment (some page) })
        (Machine.setAssembler .idle s)) := by
      have h' : Paged False s := h.weaken
      have hmoved := h'.replaceEntry (t := Machine.updateEntry g.spot.id
        (fun e => { e with segs := e.segs.set g.segment (some page) }) (Machine.setAssembler .idle s)) hfound rfl rfl
        (List.length_set.trans (h.law.segments e hmem)) (h.law.pending e hmem) ?_ (fun _ _ _ _ => Assembler.noConfusion)
        fun _ => rfl
      · exact ⟨hmoved.law, fun _ => rfl⟩
      · have hperm := (filterMap_set_some hmissing page).append_right s.store.freePages
        refine (List.Perm.of_eq (congrArg (· ++ _) (List.append_nil _))).trans (hperm.trans ?_)
        rw [hpage, List.append_assoc]
        exact List.perm_middle.symm
    unfold holdSegment; dsimp only; split
    · exact hheld
    · split
      · have hcomplete := hheld.updateEntry g.spot.id (f := fun x => { x with state := .complete })
        exact Paged.startCheck Paged.refresh (Paged.refresh hcomplete.beside)
      · exact hheld
  · refine h.assembly rfl ?_ (fun _ _ _ _ => Assembler.noConfusion) fun _ => rfl
    rw [hpage]
    exact List.perm_append_singleton page s.store.freePages

/-- A segment body leaves the page where it is, but for the last of its segment and one that breaks it off (R70, R72). -/
theorem Paged.segmentBody (b : List Byte) (continuous : Bool) (h : Paged spare s) :
    Paged False (segmentBody b continuous s) := by
  unfold Machine.segmentBody; split
  · exact (h.updateStoreCounters _).weaken
  · next g ha =>
    have hspare : Paged True s := ⟨h.law, fun _ => by unfold SpotStore.capturePage; rw [ha]⟩
    dsimp only; split <;> exact (hspare.setIdle fun _ _ _ _ => Assembler.noConfusion).weaken
  · next g page running check ha =>
    split
    · dsimp only; split
      · have hwritten : Paged spare (writeSlot (slotAddress page g.received) b s) := h.beside
        exact (hwritten.completeSegment (g := { g with received := g.received + 1 }) ha).weaken
      · refine h.assembly rfl (.of_eq ?_) (fun g' page' running' check' hc => ?_) False.elim
        · unfold SpotStore.capturePage; rw [ha]; rfl
        · cases hc; exact h.law.capture g page running check ha
    · exact h.endSegment.weaken

/-! ### Checks, expiry and the RESTART line (R79 to R84) -/

theorem nodup_badSegments (st : SpotStore) (e : Entry) : (badSegments st e).Nodup := List.nodup_range.filter _

theorem Paged.finishCheck (c : CheckInFlight) (h : Paged spare s) : Paged spare (finishCheck c s) := by
  have hjudged : ∀ e {t : State}, Paged spare t → Paged spare (judgeCheck e t) := fun e t ht => by
    unfold judgeCheck; dsimp only; split
    · split
      · exact ((ht.updateEntry _).raise _).refresh
      · exact ht
    · exact Paged.makeMissing Paged.refresh _ _ (nodup_badSegments _ e) (ht.updateStoreCounters _)
  have hdone : Paged spare { s with store := { s.store with check := none } } := h.beside
  unfold Machine.finishCheck; dsimp only; split
  · exact Paged.startCheck Paged.refresh hdone
  · exact Paged.startCheck Paged.refresh (Paged.tryExpire Paged.refresh _ (hjudged _ hdone))
theorem Paged.expireAll (second : Int) (h : Paged spare s) : Paged spare (expireAll second s) := by
  refine .forEach (fun id s h => ?_) _ h
  unfold expireEntry; split
  · exact h
  · split
    · exact h
    · split
      · exact (Paged.removeEntry Paged.refresh _ h).raise _
      · exact h.updateEntry _

theorem abortedEntry_figures (spot : Option Nat) (e : Entry) : (abortedEntry spot e).spot = e.spot
    ∧ (abortedEntry spot e).segs = e.segs ∧ (abortedEntry spot e).segCount = e.segCount
    ∧ (abortedEntry spot e).pending = e.pending := by
  unfold abortedEntry; split <;> exact ⟨rfl, rfl, rfl, rfl⟩

theorem Paged.restartStore (h : Paged spare s) : Paged True (restartStore s) := by
  have haborted : Paged True (abortCheck (Machine.endSegment s)) := by
    rw [abortCheck_eq]
    refine Paged.beside (h.endSegment.entries rfl (fun e => ?_) fun e _ hn => ?_)
    · obtain ⟨hspot, hsegs, hcount, -⟩ := abortedEntry_figures (aborted (Machine.endSegment s)) e
      exact ⟨hspot, hsegs, hcount⟩
    · obtain ⟨-, -, -, hpending⟩ := abortedEntry_figures (aborted (Machine.endSegment s)) e
      rw [hpending]; exact hn
  have hdropped : Paged True (dropHolds (abortCheck (Machine.endSegment s))) :=
    haborted.entries rfl (fun _ => ⟨rfl, rfl, rfl⟩) fun _ _ hn => hn
  have hpurged := fun {u : State} (hu : Paged True u) l =>
    Paged.forEach (fun id _ => Paged.removeEntry Paged.refresh id) l hu
  have happlied := Paged.forEach (fun id _ => Paged.applyPending Paged.refresh none id)
    (dropHolds (abortCheck (Machine.endSegment s))).store.ids hdropped
  have hcounted : ∀ {u : State}, Paged True u → Paged True { u with store := { u.store with
      counters := StoreCounters.zero } } := fun hu => hu.beside
  unfold Machine.restartStore; dsimp only
  exact Paged.startCheck Paged.refresh (hcounted (hpurged (hpurged happlied _) _))

/-! ### The emission controller -/

theorem Paged.changeEmission (new : EmissionState) (h : Paged spare s) : Paged spare (changeEmission new s) := by
  unfold Machine.changeEmission
  exact (Paged.refresh h.of_store).urgent
theorem Paged.addCause (c : MuteCause) (h : Paged spare s) : Paged spare (addCause c s) := by
  unfold Machine.addCause; split
  · exact h
  · dsimp only; split
    · exact (Paged.changeEmission _ (Paged.of_ledger h.of_store (ledger_passCurrent _))).setLatch _
    · exact h.of_store
theorem Paged.removeCause (c : MuteCause) (h : Paged spare s) : Paged spare (removeCause c s) :=
  h.of_ledger (ledger_removeCause c s)
theorem Paged.compareU (h : Paged spare s) : Paged spare (compareU s) := by
  unfold Machine.compareU; split
  · exact h.addCause _
  · exact h.removeCause _
theorem Paged.discardPassed (h : Paged spare s) : Paged spare (discardPassed s) := by
  unfold Machine.discardPassed; split
  · dsimp only; split
    · exact Paged.addCause _ h.of_store
    · exact h.of_store
  · exact h
theorem Paged.releaseCauses (h : Paged spare s) : Paged spare (releaseCauses s) := by
  have hreset := h.removeCause .starve
  unfold Machine.releaseCauses; dsimp only; split
  · split
    · exact Paged.removeCause _ hreset.of_store
    · exact hreset.of_store
  · exact hreset.of_store
theorem Paged.decideEmission (h : Paged spare s) : Paged spare (decideEmission s) := by
  unfold Machine.decideEmission; split
  · split
    · exact h.changeEmission _
    · exact h
  · split
    · exact h.changeEmission _
    · exact h
  · exact h
  · exact h
theorem Paged.handPass (r : FrameRecord) (d : Disposition) (h : Paged spare s) : Paged spare (handPass r d s) :=
  (h.framePass _).of_store
theorem Paged.passDiscarded (r : FrameRecord) (c : DiscardCause) (h : Paged spare s) :
    Paged spare (passDiscarded r c s) := by
  have hleft : ∀ {u : State}, Paged spare u → Paged spare (leaveTable r.number u) := fun hu => hu.of_store
  exact Paged.discardPassed (hleft (h.handPass r _))
theorem Paged.runPasses (n : Nat) (h : Paged spare s) : Paged spare (runPasses n s) := by
  induction n generalizing s with
  | zero => exact h
  | succ n ih =>
    unfold Machine.runPasses; split
    · split
      · split
        · exact h
        · exact ih (h.passDiscarded _ _)
      · exact h
    · exact h
theorem Paged.judgePassPoint (h : Paged spare s) : Paged spare (judgePassPoint s) := h.runPasses _

@[simp] theorem aside_outputFiller (s : State) : aside (outputFiller s) = aside s := by
  unfold outputFiller; split <;> rfl
@[simp] theorem aside_cutCurrent (s : State) : aside (cutCurrent s) = aside s := by
  unfold cutCurrent; split
  · rfl
  · next r _ =>
    split
    · rfl
    · have hcut := aside_cutCells r.left r s
      dsimp only
      generalize cutCells r.left r s = u at hcut ⊢
      exact hcut
@[simp] theorem aside_passOver (x : Time) (s : State) : aside (passOver x s) = aside s := by
  unfold passOver; split
  · rfl
  · dsimp only; split
    · rfl
    · split
      · rw [aside_endIfDone, aside_cutCells]; rfl
      · rfl
@[simp] theorem aside_stepPacing (old new : Time) (s : State) : aside (stepPacing old new s) = aside s := by
  unfold stepPacing; split
  · rw [aside_passOver]; rfl
  · rfl

theorem Paged.emitCell (r : FrameRecord) (h : Paged spare s) : Paged spare (emitCell r s) :=
  Paged.of_aside (h.passChannels r.number s.em.queue.front) (aside_freeSlot _)
theorem Paged.consumeCell (r : FrameRecord) (h : Paged spare s) : Paged spare (consumeCell r s) :=
  h.of_aside ((aside_outputFiller _).trans (aside_freeSlot s))
theorem Paged.paceCell (x : Time) (r : FrameRecord) (h : Paged spare s) : Paged spare (paceCell x r s) := by
  unfold Machine.paceCell; split
  · exact h.of_store
  · split
    · exact (h.emitCell r).of_aside (aside_endIfDone _)
    · exact (h.consumeCell r).of_aside (aside_endIfDone _)
theorem Paged.releaseFrame (r : FrameRecord) (h : Paged spare s) : Paged spare (releaseFrame r s) := by
  have hdecided := (h.of_aside (aside_cutCurrent s)).releaseCauses.decideEmission
  have hloaded : ∀ {u : State}, Paged spare u → Paged spare (loadStarve r.q u) := fun hu => by
    unfold loadStarve; split
    · exact hu.of_store
    · exact hu
  have hmarked : ∀ {u : State}, Paged spare u → Paged spare (markReleased r.number u) := fun hu => by
    unfold markReleased; split <;> exact hu.of_store
  have hpassed : ∀ {u : State}, Paged spare u → Paged spare (passReleased r.number u) := fun hu => by
    unfold passReleased; split
    · exact hu.handPass _ _
    · exact hu
  have hcurrent : ∀ {u : State}, Paged spare u → Paged spare (Machine.judgePassPoint (makeCurrent r u)) := fun hu =>
    Paged.judgePassPoint hu.of_store
  unfold Machine.releaseFrame paceReleased; dsimp only
  have hdone := hcurrent (hpassed (hmarked (hloaded hdecided).judgePassPoint))
  split
  · split
    · exact hdone.of_aside (aside_passOver _ _)
    · exact hdone
  · exact hdone

/-! ### Feed intake -/

theorem Paged.endShort (h : Paged spare s) : Paged spare (endShort s) := by
  unfold Machine.endShort; split
  · exact h
  · dsimp only; split
    · exact Paged.judgePassPoint h.of_store
    · exact Paged.judgePassPoint (Paged.of_store (h.of_aside (aside_shortRecord _ s)))
theorem Paged.checkNumbering (r : FrameRecord) (h : Paged spare s) : Paged spare (checkNumbering r s) := by
  unfold Machine.checkNumbering; dsimp only; split
  · exact h.of_store
  · split
    · exact h.of_store
    · exact Paged.of_store (Paged.frameGapToChannels r.c (s := countIntake (fun k => { k with gaps := bump k.gaps })
        (Machine.raise _ s)) h.of_store)
theorem Paged.handCompletion (n : Nat) (h : Paged spare s) : Paged spare (handCompletion n s) := by
  unfold Machine.handCompletion; split
  · exact h
  · split
    · exact h
    · split
      · exact h.of_aside (aside_discardAssembling _ _ s)
      · exact h.of_store
theorem Paged.completeFrame (n : Option Nat) (h : Paged spare s) : Paged spare (completeFrame n s) := by
  unfold Machine.completeFrame; dsimp only; split
  · exact h.of_store
  · split
    · exact h.of_store
    · exact ((Paged.checkNumbering _ h.of_store).handCompletion _).judgePassPoint
theorem Paged.placeCell (k : CellSort) (c : Cell) (a : Assembly) (h : Paged spare s) :
    Paged spare (placeCell k c a s) := by
  have hplaced : Paged spare (placed k c a.record s) := h.of_aside (aside_placed k c a.record s)
  by_cases hlast : a.remaining ≤ 1
  · rw [placeCell_last hlast]; exact hplaced.completeFrame _
  · rw [placeCell_more (by omega)]; exact hplaced.of_store
theorem Paged.takeFrameHead (c : SiteConfig) (x : FrameHead) (cell : Cell) (h : Paged spare s) :
    Paged spare (takeFrameHead c x cell s) := by
  unfold Machine.takeFrameHead; dsimp only; split
  · exact h.endShort.of_store
  · exact h.endShort.of_store
  · exact (h.endShort.of_store).of_aside (aside_storeFrameCell x.number cell _)
theorem Paged.malformedHead (h : Paged spare s) : Paged spare (malformedHead s) := Paged.endShort h.of_store
theorem Paged.loseFeed (h : Paged spare s) : Paged spare (loseFeed s) := by
  have hlost : Paged spare { s with intake := { s.intake with feed := .lost, lossTimer := none } } := h.of_store
  have hended : Paged spare (dropExpectations (Machine.endShort
      { s with intake := { s.intake with feed := .lost, lossTimer := none } })) := hlost.endShort.of_store
  exact hended.endSegment.of_true.of_store

/-- A sorted cell at its consumer (R28). -/
theorem Paged.handCell (c : SiteConfig) (k : CellSort) (cell : Cell) (continuous : Bool) (h : Paged False s) :
    Paged False (handCell c k cell continuous s) := by
  cases k with
  | filler | programme => exact h
  | cue => exact h.cueTaken _ _ _
  | segmentHead => exact h.segmentHead _ _
  | segmentBody => exact h.segmentBody _ _
  | misfit => exact h.of_store
theorem Paged.goodCell (cell : Cell) (h : Paged False s) : Paged False (goodCell cell s) := by
  unfold Machine.goodCell; split
  · exact h.of_store
  · dsimp only; split
    · unfold runningCell bodyCell; dsimp only; split
      · split
        · exact Paged.takeFrameHead _ _ _ h.of_store
        · exact Paged.malformedHead h.of_store
      · split
        · exact h.of_store
        · exact (Paged.handCell _ _ _ _ h.of_store).placeCell _ _ _
    · unfold lostCell resumeFeed; dsimp only; split
      · split
        · exact Paged.takeFrameHead _ _ _ h.of_store
        · exact (Paged.malformedHead (s := trackContinuity cell s) h.of_store).of_store
      · exact h.of_store

end Sys2Proof.Proofs
end

section
/-! Every step keeps the law of the pages (R75): the time base, site control, the zone line and the roster, and then the
commands one by one. -/

namespace Sys2Proof.Proofs

open Sys2Proof Sys2Proof.Machine Sys2Proof.Laws

-- As in the tests: one theorem after another, within the memory that the check leaves for threads.
set_option Elab.async false

variable {s t : State} {spare : Prop}

/-! ### The time base -/

/-- Site time moved by wraps of S moves the completion of the check alone. -/
theorem Paged.wrapTime (h : Paged spare s) : Paged spare s.wrapTime := by
  unfold State.wrapTime; split
  · exact h.beside
  · split
    · exact h.beside
    · exact h
theorem Paged.tick (h : Paged spare s) : Paged spare (tick s) :=
  Paged.wrapTime (s := { s with osc := s.osc + 1, tb := s.tb.tick }) h.of_store
theorem Paged.updateTime (f : TimeBase → TimeBase) (h : Paged spare s) : Paged spare (updateTime f s) := h.of_store
theorem Paged.updateRef (r : Ref) (f : RefRecord → RefRecord) (h : Paged spare s) : Paged spare (updateRef r f s) :=
  h.of_store
theorem Paged.settleTime (before : TimeBase) (h : Paged spare s) : Paged spare (settleTime before s) := by
  have hlatch : ∀ {u}, Paged spare u → Paged spare (if timeCause before u.tb then Machine.setLatch .time u else u) :=
    fun hu => by
      split
      · exact hu.setLatch _
      · exact hu
  have hcompare : ∀ {u}, Paged spare u → Paged spare (if u.tb.u = before.u then u else Machine.compareU u) :=
    fun hu => by
      split
      · exact hu
      · exact hu.compareU
  have hrefresh : ∀ {u}, Paged spare u →
      Paged spare (if u.tb.grade = before.grade then u else Machine.refresh (Machine.urgent u)) := fun hu => by
    split
    · exact hu
    · exact hu.urgent.refresh
  exact hrefresh (hcompare (hlatch ((h.updateTime _).of_ledger (ledger_regrade _))))
theorem Paged.boundary (h : Paged spare s) : Paged spare (boundary s) := by
  have hgrown : ∀ {u}, Paged spare u → Paged spare (growHoldover u) := fun hu => by
    unfold growHoldover; split
    · exact (hu.updateTime _).settleTime _
    · exact hu
  unfold Machine.boundary; split
  · exact (hgrown (((h.updateTime _).expireAll _).of_ledger (ledger_startSchedule _ _))).of_store
  · exact h
theorem Paged.replaceTime (new : Time) (h : Paged spare s) : Paged spare (replaceTime new s) :=
  ((h.updateTime _).of_aside (aside_stepPacing _ _ _)).wrapTime
theorem Paged.stepTime (label : Nat) (h : Paged spare s) : Paged spare (stepTime label s) :=
  ((h.replaceTime _).updateTime _).raise _
theorem Paged.moveDiscipline (new : Discipline) (h : Paged spare s) : Paged spare (moveDiscipline new s) :=
  (h.updateTime _).raise _
theorem Paged.enterAcquire (label : Nat) (h : Paged spare s) : Paged spare (enterAcquire label s) :=
  ((h.stepTime label).updateTime _).moveDiscipline _
theorem Paged.acquireMark (label : Nat) (e : Int) (h : Paged spare s) : Paged spare (acquireMark label e s) := by
  by_cases he : 10 < e.natAbs
  · rw [acquireMark_step he]; exact (h.stepTime label).updateTime _
  · by_cases hrun : s.tb.acquireRun = 7
    · rw [acquireMark_track (Nat.not_lt.1 he) label hrun]; exact (h.updateTime _).moveDiscipline _
    · rw [acquireMark_run (Nat.not_lt.1 he) label hrun]; exact h.updateTime _
theorem Paged.trackStateMark (label : Nat) (e : Int) (h : Paged spare s) : Paged spare (trackStateMark label e s) := by
  have hmarked : ∀ n f, Paged spare (if n = 3 then Machine.enterAcquire label s else Machine.updateTime f s) :=
    fun n f => by
      split
      · exact h.enterAcquire label
      · exact h.updateTime _
  exact hmarked _ _
theorem Paged.holdoverMark (label : Nat) (e : Int) (h : Paged spare s) : Paged spare (holdoverMark label e s) := by
  unfold Machine.holdoverMark; split
  · exact (h.updateTime _).moveDiscipline _
  · exact h.enterAcquire label
theorem Paged.disciplineMark (label : Nat) (h : Paged spare s) : Paged spare (disciplineMark label s) := by
  unfold Machine.disciplineMark; dsimp only; split
  · exact ((h.replaceTime _).updateTime _).moveDiscipline _
  · exact h.acquireMark _ _
  · exact h.trackStateMark _ _
  · exact h.holdoverMark _ _
theorem Paged.takeMark (r : Ref) (label : Nat) (h : Paged spare s) : Paged spare (takeMark r label s) := by
  have hsettled := fun f b => ((h.disciplineMark label).updateTime f).settleTime b
  unfold Machine.takeMark; dsimp only; split
  · split
    · exact ((hsettled _ _).updateRef _ _).boundary
    · exact (hsettled _ _).boundary
  · exact h
theorem Paged.answerSelection (new : Option Ref) (h : Paged spare s) : Paged spare (answerSelection new s) := by
  have hholdover : Paged spare (enterHoldover s) := (h.updateTime _).moveDiscipline _
  unfold Machine.answerSelection; split
  · split
    · exact hholdover
    · exact (h.updateTime _).moveDiscipline _
  · exact h.updateTime _
  · exact hholdover
  · exact h
  · exact h
  · exact h
theorem Paged.reselect (h : Paged spare s) : Paged spare (reselect s) := by
  unfold Machine.reselect; dsimp only; split
  · exact h
  · exact (((h.updateTime _).raise _).answerSelection _).settleTime _
theorem Paged.giveMarkVerdict (r : Ref) (v : Verdict) (h : Paged spare s) : Paged spare (giveMarkVerdict r v s) := by
  unfold Machine.giveMarkVerdict validityChanged; dsimp only; split
  · exact h.updateRef _ _
  · exact ((h.updateRef _ _).raise _).reselect
theorem Paged.markArrives (r : Ref) (h : Paged spare s) : Paged spare (markArrives r s) := by
  have hjudged := fun v => (h.updateRef r (marked s.tb)).giveMarkVerdict r v
  unfold Machine.markArrives; dsimp only; rw [recordMark_eq]; split
  · exact (hjudged _).takeMark _ _
  · exact hjudged _

/-! ### Site control -/

theorem Paged.takeUp (c : SiteConfig) (a b : Bool) (h : Paged spare s) : Paged spare (takeUp c a b s) := by
  have hunfit : ∀ r was {u}, Paged spare u → Paged spare (unfitRef r was u) := fun r was u hu => by
    unfold unfitRef; dsimp only; split
    · split <;> exact hu.of_store
    · exact hu
  have hfit : ∀ r was {u}, Paged spare u → Paged spare (fitRef r was u) := fun r was u hu => by
    unfold fitRef; split
    · exact hu.of_store
    · exact hu
  have htaken : Paged spare (takeRoster c (enableReceiver s)) := h.of_store
  have hcompared := (hfit .b b (hfit .a a (hunfit .b b (hunfit .a a htaken)))).reselect.compareU
  exact (hcompared.of_aside (aside_checkHigh _)).of_aside (aside_checkLow _)
theorem Paged.raiseAll (l : List Event) (h : Paged spare s) : Paged spare (raiseAll l s) :=
  .forEach (fun e _ => Paged.raise e) l h
theorem Paged.loadFault (cause : LoadFault) (h : Paged spare s) : Paged spare (loadFault cause s) := by
  have hfault : Paged spare (Machine.raise (.configFault cause) (updateControl (fun c => { c with
      config := .fault, loader := .waiting, faultCause := some cause, faults := bump c.faults }) s)) := h.of_store
  exact ((hfault.setLatch .fault).changeEmission .fault).setLatch .air
theorem Paged.loadRecord (record : List Byte) (h : Paged spare s) : Paged spare (loadRecord record s) := by
  have hraised := fun l => h.raiseAll l
  unfold Machine.loadRecord; split
  · exact Paged.takeUp _ _ _ (hraised _).of_store
  · exact (hraised _).loadFault _

/-! ### The zone line and the roster -/

@[simp] theorem ledger_updateZone (f : ZoneLine → ZoneLine) (s : State) : ledger (updateZone f s) = ledger s := rfl
@[simp] theorem ledger_countZone (f : LineCounters → LineCounters) (s : State) : ledger (countZone f s) = ledger s :=
  rfl
@[simp] theorem ledger_lineTransition (level : Bool) (s : State) : ledger (lineTransition level s) = ledger s := by
  unfold lineTransition deferAttempt; dsimp only; (repeat' split) <;> simp
@[simp] theorem ledger_breakMessage (s : State) : ledger (breakMessage s) = ledger s := by
  unfold breakMessage giveVerdict hunt; dsimp only; (repeat' split) <;> simp
@[simp] theorem ledger_beginAttempt (c : SiteConfig) (k : AnnouncementKind) (a : Attempt) (s : State) :
    ledger (beginAttempt c k a s) = ledger s := rfl

theorem Paged.hearPeer (p : Peer) (a : Announcement) (id : Nat) (h : Paged spare s) :
    Paged spare (hearPeer p a id s) := by
  have hrefused : Paged spare (hearRefusal p.site a id s) := by
    unfold hearRefusal; split
    · exact h
    · split
      · exact h
      · split
        · exact (h.holdRecord _ _).refresh
        · unfold lateHold; split
          · exact h
          · exact h.of_store
        · exact h
  exact hrefused.of_ledger (ledger_comparePeer _ _ _)
theorem Paged.peerMessage (c : SiteConfig) (a : Announcement) (x : Time) (h : Paged spare s) :
    Paged spare (peerMessage c a x s) := by
  unfold Machine.peerMessage; split
  · exact h
  · refine .forEach (fun id _ => Paged.hearPeer _ a id) _ ?_
    split <;> exact h.of_store
theorem Paged.duplicateHeard (x : Time) (h : Paged spare s) : Paged spare (duplicateHeard x s) := by
  unfold Machine.duplicateHeard; dsimp only; split
  · exact h.of_store
  · have hraised : ∀ f g, Paged spare (Machine.raise (.duplicateSite x) (updateRoster g (updateRoster f s))) :=
      fun _ _ => h.of_store
    exact ((hraised _ _).setLatch _).urgent.refresh
theorem Paged.takeMessage (c : SiteConfig) (b : List Byte) (x : Time) (echo : Bool) (h : Paged spare s) :
    Paged spare (takeMessage c b x echo s) := by
  unfold Machine.takeMessage sortMessage; split
  · split
    · exact h.of_store
    · split
      · split
        · exact h.of_store
        · exact h.duplicateHeard _
      · split
        · exact h.peerMessage _ _ _
        · exact h.of_store
  · exact h.of_store
theorem Paged.endMessage (c : SiteConfig) (b : List Byte) (x : Time) (echo : Bool) (h : Paged spare s) :
    Paged spare (endMessage c b x echo s) := by
  have hdiscarded : ∀ {u}, Paged spare u → Paged spare (discardMessage echo u) := fun hu => by
    unfold discardMessage; split
    · exact hu.of_store
    · exact hu
  unfold Machine.endMessage; dsimp only; split
  · exact hdiscarded h.of_store
  · split
    · exact hdiscarded h.of_store
    · refine Paged.takeMessage _ _ _ _ ?_
      split <;> exact h.of_store

/-! ### Every step -/

theorem Paged.restartBlocks (h : Paged spare s) : Paged spare (restartBlocks s) := by
  have hblanked : Paged spare (blanked s) := h.of_store
  have hstore := hblanked.restartStore
  rw [restartBlocks_eq]
  generalize Machine.restartStore (blanked s) = u at hstore ⊢
  exact hstore.of_true.of_store

/-- Each command keeps the law of the pages: it resets the machine, or it reaches the store by the operations above. -/
theorem exec_keepsPages {c : Instr} (h : Paged False s) (hexec : exec c s = .next t) : Paged False t := by
  cases c with
  | powerOnReset =>
    rw [next_inj hexec]; exact ⟨pageLaw_of_store pageLaw_reset rfl, False.elim⟩
  | restart =>
    rw [next_inj hexec]; split
    · exact h
    · dsimp only; split
      · exact h.of_store
      · exact Paged.restartBlocks h.of_store
  | loadStart =>
    rw [next_inj hexec]; split
    · exact h
    · unfold startRead; split <;> exact h.of_store
  | configReadComplete record =>
    simp only [exec, execConfigReadComplete] at hexec
    split at hexec
    · rw [next_inj hexec]; split
      · exact h.loadRecord record
      · exact h
    · cases hexec
  | noRecord firstByte =>
    rw [next_inj hexec]; split
    · exact h.loadFault _
    · exact h
  | inhibitChange active =>
    have hraised : ∀ f, Paged False (raise (.siteLine .inhibit active) (updateControl f s)) := fun _ => h.of_store
    rw [next_inj hexec]; split
    · exact h
    · dsimp only; split
      · exact (hraised _).addCause _
      · exact (hraised _).removeCause _
  | overrideChange active =>
    have hraised : ∀ f, Paged False (raise (.siteLine .override active) (updateControl f s)) := fun _ => h.of_store
    rw [next_inj hexec]; split
    · exact h
    · dsimp only; split
      · exact (hraised _).refresh.urgent.overrideChannels
      · exact (hraised _).refresh.urgent
  | latchClear =>
    rw [next_inj hexec]; split
    · exact h
    · refine .forEach (fun l _ hu => ?_) _ h.of_store
      unfold judgeLatch; split
      · exact hu.of_ledger (ledger_putLatch _ _ _)
      · exact hu
  | latchClearRelease =>
    rw [next_inj hexec]; split
    · exact h.of_store
    · exact h
  | labelRecord r record =>
    simp only [exec, execLabelRecord] at hexec
    split at hexec
    · rw [next_inj hexec]; split
      · exact h.of_store
      · exact h
    · cases hexec
  | markArrival r =>
    rw [next_inj hexec]; split
    · exact h.markArrives r
    · exact h
  | missingVerdict r =>
    rw [next_inj hexec]; split
    · exact (h.updateRef _ _).giveMarkVerdict _ _
    · exact h
  | secondBoundary => rw [next_inj hexec]; exact h.boundary
  | reportSpanExpiry =>
    rw [next_inj hexec]; split
    · exact h.of_store
    · exact h
  | runtCell => rw [next_inj hexec]; exact h.of_store
  | cellTaken cell =>
    simp only [exec, execCellTaken] at hexec
    split at hexec
    · rw [next_inj hexec]; split
      · exact Paged.goodCell cell h.of_store
      · exact h.of_store
    · cases hexec
  | feedLoss =>
    rw [next_inj hexec]; split
    · exact h.loseFeed
    · exact h
  | assemblingLate =>
    rw [next_inj hexec]; split
    · exact (h.of_aside (aside_discardAssembling _ _ s)).judgePassPoint
    · exact h
  | frameRelease =>
    rw [next_inj hexec]; split
    · exact h.releaseFrame _
    · exact h
  | cellInstant =>
    rw [next_inj hexec]; split
    · exact (h.paceCell _ _).of_store
    · exact h
  | fillerInstant =>
    rw [next_inj hexec]; split
    · split
      · exact h.of_store
      · exact (h.of_aside (aside_outputFiller s)).of_store
    · exact h
  | starveExpiry =>
    rw [next_inj hexec]; split
    · exact Paged.addCause _ h.of_store
    · exact h
  | transferEnd =>
    rw [next_inj hexec]; split
    · exact h.of_store
    · exact h
  | checkComplete =>
    rw [next_inj hexec]; split
    · exact h.finishCheck _
    · exact h
  | decisionInstant =>
    rw [next_inj hexec]; split
    · exact h.decideRecord _
    · exact h
  | lockInstant id =>
    rw [next_inj hexec]; split
    · split
      · exact h.lockGo _
      · exact h.lockHold _
    · exact h
  | endInstant id =>
    rw [next_inj hexec]; split
    · split
      · exact h.endPlay _
      · exact (h.channelMove _ _ _).settleRemoval _
    · exact h
  | removalInstant id =>
    rw [next_inj hexec]; split
    · exact h.removeRecord _
    · exact h
  | watchOpen id =>
    rw [next_inj hexec]; split
    · split
      · exact h.updateRecord _ _
      · exact (h.updateRecord _ _).compareAll _
    · exact h
  | watchClose id =>
    rw [next_inj hexec]; split
    · exact h.updateRecord _ _
    · exact h
  | attemptStart =>
    rw [next_inj hexec]; split
    · exact h.of_ledger (ledger_beginAttempt _ _ _ s)
    · exact h
  | deferral level =>
    rw [next_inj hexec]; split
    · exact h.of_ledger (ledger_lineTransition _ s)
    · exact h
  | echoWindowOpen =>
    rw [next_inj hexec]; split
    · exact h.of_store
    · exact h
  | echoWindowClose =>
    rw [next_inj hexec]; split
    · dsimp only; split <;> exact h.of_store
    · exact h
  | attemptEnd =>
    rw [next_inj hexec]; split
    · exact h.of_store
    · split <;> exact h.of_store
    · exact h
  | retryStart =>
    rw [next_inj hexec]; split
    · unfold retryKind; split <;> exact h.of_store
    · exact h
  | lineIdle =>
    rw [next_inj hexec]; split
    · exact Paged.of_ledger (s := updateZone _ s) h.of_store (ledger_breakMessage _)
    · exact h
  | periodicDue =>
    rw [next_inj hexec]; split
    · exact (h.of_ledger (ledger_joinSlot _ s)).of_store
    · exact h
  | zoneMessage bytes =>
    simp only [exec, execZoneMessage] at hexec
    split at hexec
    · rw [next_inj hexec]; split
      · exact h.endMessage _ _ _ _
      · exact h
    · cases hexec
  | messageBroken => rw [next_inj hexec]; exact h.of_ledger (ledger_breakMessage s)
  | silenceTimerExpiry site =>
    rw [next_inj hexec]; split
    · exact h.of_store
    · exact h
  | monitorRecordEnd =>
    rw [next_inj hexec]; split
    · exact h.of_store
    · exact h
  | lineBusy level =>
    rw [next_inj hexec]; split
    · exact h
    · exact h.of_ledger (ledger_lineTransition _ s)
  | openingMark high =>
    have hlow : Paged False (if s.zone.rxLevel then lineTransition false s else s) := by
      split
      · exact h.of_ledger (ledger_lineTransition _ s)
      · exact h
    have hopened : ∀ {u}, Paged False u → Paged False (if isOpeningMark high = true ∧ u.zone.receiver ≠ .off
        then enterMessage (u.tb.now - high) (breakMessage u) else u) := fun {u} hu => by
      split
      · exact (hu.of_ledger (ledger_breakMessage u)).of_store
      · exact hu
    rw [next_inj hexec]; exact hopened hlow

/-- Settles O26: a step is a command, run with the queue's rest or after a free choice, or a TU of the oscillator. -/
theorem everyPageStaysInOnePlace : Obligations.EveryPageStaysInOnePlace := by
  unfold Obligations.EveryPageStaysInOnePlace
  intro s t hlaw hstep
  have h : Paged False s := ⟨hlaw, False.elim⟩
  unfold step at hstep; split at hstep
  · exact (exec_keepsPages h.of_store hstep).law
  · unfold idle at hstep; split at hstep
    · exact (exec_keepsPages h.of_store hstep).law
    · rw [next_inj hstep]; exact h.tick.law

end Sys2Proof.Proofs
end

section
/-! A bad read under a kept plan may end another channel's play (R77, R78, R148, R176, R177): the spot that it damages is
one that a DECIDED_GO break names, whose channel then unbinds. -/

namespace Sys2Proof.Proofs

open Sys2Proof Sys2Proof.Machine Sys2Proof.Laws

-- As in the tests: one theorem after another, within the memory that the check leaves for threads.
set_option Elab.async false

/-- A plan of channel 0 on frame 9, for a spot of one segment of two cells. -/
def keptPlan : FramePlan :=
  ⟨9, 1, 0, 2, 0, Cursor.start [⟨⟨5, 9#32⟩, 1, 2⟩], 7, [⟨⟨5, 9#32⟩, 1, 2⟩], none⟩

/-- Channel 0 after the end of break 7, its plan kept (R177). -/
def endedChannel : Channel := { Channel.reset with plan := some keptPlan }

/-- The spot, VERIFIED and protected by break 8 and its channel; it is not frozen. -/
def sharedEntry : Entry := ⟨⟨5, 9#32⟩, 1, some 2, 1000, .verified, [some 0], 2, 0, [], false⟩

/-- Break 8 DECIDED_GO on channel 1, for the same spot. -/
def sharingBreak : BreakRecord where
  id := 8
  version := 1
  check := 0#32
  tag := 2
  cOut := 1100000000
  cIn := 1200000000
  spots := [⟨5, 9#32⟩]
  pad := none
  state := .decidedGo
  stance := .go
  decisionAt := 1070000000
  lockAt := 1090000000
  endAt := none
  removalAt := none
  channel := some 1
  abandonCause := none
  splitReported := []
  lateReported := []
  watch := some .waiting

/-- Channel 1 RESERVED for break 8. -/
def sharingChannel : Channel := { Channel.reset with
  state := .reserved
  bound := some ⟨8, 1100000000, 1200000000⟩
  tag := some 2
  items := [⟨⟨5, 9#32⟩, 0, 0⟩] }

/-- ON_AIR at grade A, with both channels; the first slot of the spot does not agree with its slot check code. -/
def sharingState : State := { State.reset with
  tb := { TimeBase.reset with grade := .a }
  em := { Emission.resetWith ⟨false, false, false, false⟩ with state := .onAir }
  store := { SpotStore.reset with memory := [(0, ⟨[1], ~~~Config.slotCheck [1]⟩)], directory := [sharedEntry] }
  cues := { CueDecoder.reset with table := [sharingBreak] }
  chans := { Channels.reset with chan := [endedChannel, sharingChannel, Channel.reset, Channel.reset] } }

/-- The programme cell of frame 9 that the kept plan takes. -/
def plannedCell : Cell := makeCell 1 1 3 []

theorem takingChannel_sharing : takingChannel 9 plannedCell sharingState = some (0, keptPlan) := by decide

/-- The read of the spot's first cell is bad (R78). -/
theorem read_sharing : sharingState.store.read 5 0 0 = none := by
  have hentry : sharingState.store.entry? 5 = some sharedEntry := by decide
  have hslot : sharingState.store.slotAt (slotAddress 0 0) = ⟨[1], ~~~Config.slotCheck [1]⟩ := rfl
  have hbad : (⟨[1], ~~~Config.slotCheck [1]⟩ : Slot).good = false := by simp [Slot.good]
  unfold SpotStore.read
  rw [hentry]
  show (if (sharingState.store.slotAt (slotAddress 0 0)).good then some (sharingState.store.slotAt (slotAddress 0 0)).body
    else none) = none
  rw [hslot, hbad]; rfl

/-- The failure makes the segment missing, break 8 goes to HOLD, and its channel unbinds. -/
theorem readFailed_sharing :
    ((readFailed 0 keptPlan 5 0 sharingState).chans.chan[1]?).map Channel.state = some .idle := by decide

theorem passChannels_sharing : ((passChannels 9 plannedCell sharingState).2.chans.chan[1]?).map Channel.state
    = some .idle := by
  have hcell : substitutedCell 0 keptPlan plannedCell sharingState
      = (fillerCell, readFailed 0 keptPlan 5 0 sharingState) := by
    show (match sharingState.store.read 5 0 0 with
      | some body => (makeCell 1 1 3 body, sharingState)
      | none => (fillerCell, readFailed 0 keptPlan 5 0 sharingState)) = _
    rw [read_sharing]
  unfold passChannels
  rw [takingChannel_sharing]
  dsimp only
  rw [hcell]
  simpa [countChan, List.getElem?_modify] using readFailed_sharing

/-- Refutes O40: its clause on the other channels asks neither a frozen entry nor that no record be DECIDED_GO, and in
`sharingState` the bad read of channel 0 unbinds channel 1. -/
theorem not_substitutionFollowsThePlan : ¬ Obligations.SubstitutionFollowsThePlan := by
  unfold Obligations.SubstitutionFollowsThePlan
  intro h
  obtain ⟨-, -, -, -, hothers, -⟩ :=
    (h 9 0 plannedCell keptPlan endedChannel sharingState).2 takingChannel_sharing rfl
  have hbefore : (sharingState.chans.chan[1]?).map Channel.state = some .reserved := rfl
  have hafter := passChannels_sharing
  rw [hothers 1 (by decide), hbefore] at hafter
  exact absurd hafter (by decide)

end Sys2Proof.Proofs
end

section
/-! SUPPORT. The spot store's operations while no record is DECIDED_GO: a hand-off to the agreement unit then leaves the
store and the channels, and each operation makes the store that its own steps name. -/

namespace Sys2Proof.Proofs

open Sys2Proof Sys2Proof.Machine Sys2Proof.Laws

-- As in the tests: one theorem after another, within the memory that the check leaves for threads.
set_option Elab.async false

/-! ### No record DECIDED_GO -/

/-- No record of the break table is DECIDED_GO. -/
def Undecided (s : State) : Prop := ∀ r ∈ s.cues.table, r.state ≠ .decidedGo

/-- The store, the channels and the states of the break records. -/
def reach (s : State) : SpotStore × Channels × List BreakState := (s.store, s.chans, s.cues.table.map BreakRecord.state)

theorem undecided_iff {s : State} : Undecided s ↔ .decidedGo ∉ (reach s).2.2 := by
  simp [Undecided, reach]

@[simp] theorem reach_raise (e : Event) (s : State) : reach (raise e s) = reach s := rfl
@[simp] theorem reach_urgent (s : State) : reach (urgent s) = reach s := by
  unfold urgent joinSlot; (repeat' split) <;> rfl
@[simp] theorem reach_reportStance (id : Nat) (o : Option Stance) (n : Stance) (s : State) :
    reach (reportStance id o n s) = reach s := rfl
@[simp] theorem reach_refreshRecord (id : Nat) (s : State) : reach (refreshRecord id s) = reach s := by
  have hstance : ∀ n, reach (updateRecord id (fun x => { x with stance := n }) s) = reach s := fun n =>
    congrArg (fun l => (s.store, s.chans, l))
      (map_updateWhere BreakRecord.state _ (fun x => { x with stance := n }) (fun _ => rfl) s.cues.table)
  unfold refreshRecord setStance; (repeat' split) <;> simp [hstance]
@[simp] theorem reach_refreshOpen (s : State) : reach (refreshOpen s) = reach s :=
  forEach_keeps reach _ reach_refreshRecord _ s

variable {s t : State}

/-- With no record DECIDED_GO a hand-off recomputes the OPEN stances alone (R137, R148). -/
theorem refresh_of_undecided (h : Undecided s) : refresh s = refreshOpen s := by
  have hnone : (s.cues.table.find? fun r => r.id != 0 && reconcileFails s r) = none :=
    List.find?_eq_none.2 fun r hr => by simp [reconcileFails, h r hr]
  have hrounds : ∀ n, reconcileBut 0 n s = refreshOpen s := fun n => by
    cases n with
    | zero => rfl
    | succ n => unfold reconcileBut; rw [hnone]
  exact hrounds _

theorem reach_refresh (h : Undecided s) : reach (refresh s) = reach s := by
  rw [refresh_of_undecided h, reach_refreshOpen]

/-! ### What the store's operations make of the store -/

/-- From `s`, the store has become `st`, the channels are as they were, and no record is DECIDED_GO. -/
structure Acts (s : State) (st : SpotStore) (t : State) : Prop where
  store : t.store = st
  chans : t.chans = s.chans
  undecided : Undecided t

variable {st : SpotStore} {id : Nat} {e : Entry}

theorem Acts.refl (h : Undecided s) : Acts s s.store s := ⟨rfl, rfl, h⟩

theorem Acts.trans {u : State} {x : SpotStore} (h : Acts s st t) (h' : Acts t x u) : Acts s x u :=
  ⟨h'.store, h'.chans.trans h.chans, h'.undecided⟩

theorem Acts.of_store (h : Acts s st t) (x : SpotStore) : Acts s x { t with store := x } := ⟨rfl, h.chans, h.undecided⟩

theorem Acts.raise (e : Event) (h : Acts s st t) : Acts s st (raise e t) :=
  ⟨h.store, h.chans, h.undecided⟩

theorem Acts.refresh (h : Acts s st t) : Acts s st (refresh t) := by
  have hreach := reach_refresh h.undecided
  simp only [reach, Prod.mk.injEq] at hreach
  obtain ⟨hstore, hchans, -⟩ := hreach
  exact ⟨hstore.trans h.store, hchans.trans h.chans, undecided_iff.2 (by
    rw [reach_refresh h.undecided]; exact undecided_iff.1 h.undecided)⟩

theorem Acts.updateEntry (id : Nat) (f : Entry → Entry) (h : Acts s st t) :
    Acts s { st with directory := updateWhere (fun x => x.spot.id == id) f st.directory } (updateEntry id f t) := by
  obtain ⟨rfl, hchans, hundecided⟩ := h
  exact ⟨rfl, hchans, hundecided⟩

/-- The entry of a spot id in a store whose entries of that id have changed. -/
theorem entry?_of_updateWhere {x : SpotStore} {f : Entry → Entry} (he : st.entry? id = some e)
    (hx : x.directory = updateWhere (fun y => y.spot.id == id) f st.directory) (hf : ∀ y, (f y).spot = y.spot) :
    x.entry? id = some (f e) := by
  unfold SpotStore.entry?; rw [hx]
  exact find?_updateWhere (fun y => by rw [hf]) he

/-- The store once listed segments of an entry have become missing (R77, R80). -/
def missedStore (id : Nat) (l : List Nat) (e : Entry) (st : SpotStore) : SpotStore :=
  { st with
    freePages := st.freePages ++ pagesOf e.segs l
    directory := updateWhere (fun x => x.spot.id == id) (fun x => { x with segs := missing x.segs l, state := .filling })
      st.directory
    checkQueue := st.checkQueue.filter fun q => q != id }

theorem Acts.makeMissing (h : Acts s st t) (he : st.entry? id = some e) (src : Option DamageSource) (l : List Nat) :
    Acts s (missedStore id l e st) (makeMissing Machine.refresh src id l t) := by
  obtain ⟨rfl, hchans, hundecided⟩ := h
  have hmissed : Acts s (missedStore id l e t.store) { t with store := missedStore id l e t.store } :=
    ⟨rfl, hchans, hundecided⟩
  unfold Machine.makeMissing; rw [he]
  cases src with
  | none => exact hmissed.refresh
  | some src => exact (hmissed.raise _).refresh

theorem entry?_missedStore (he : st.entry? id = some e) (l : List Nat) : (missedStore id l e st).entry? id
    = some { e with segs := missing e.segs l, state := .filling } :=
  entry?_of_updateWhere (f := fun x => { x with segs := missing x.segs l, state := .filling }) he rfl fun _ => rfl

/-- The page of the segment in CAPTURE, if it is one of the spot id's. -/
def capturedOf (st : SpotStore) (id : Nat) : List Nat :=
  match st.assembler with
  | .capture g page _ _ => if g.spot.id = id then [page] else []
  | _ => []

theorem dropAssembly_freePages (id : Nat) (s : State) :
    (dropAssembly id s).store.freePages = s.store.freePages ++ capturedOf s.store id := by
  unfold dropAssembly capturedOf
  cases ha : s.store.assembler with
  | idle | skip g => simp
  | capture g page running check =>
    dsimp only; split
    · simp [endSegment, dropCapture, ha]
    · simp

theorem reach_dropAssembly (id : Nat) (s : State) : (reach (dropAssembly id s)).2 = (reach s).2 := by
  unfold dropAssembly endSegment dropCapture; (repeat' split) <;> rfl

/-- The store once an entry has been removed (R74). -/
theorem Acts.removeEntry (h : Acts s st t) (he : st.entry? id = some e) :
    ∃ x, Acts s x (removeEntry Machine.refresh id t) ∧ x.entry? id = none
      ∧ x.directory = st.directory.filter (fun y => y.spot.id != id)
      ∧ x.freePages = st.freePages ++ capturedOf st id ++ pagesOf e.segs (List.range e.segs.length)
      ∧ x.checkQueue = st.checkQueue.filter (fun q => q != id) ∧ x.check = st.check ∧ x.memory = st.memory
      ∧ (st.assembler = .idle → x.assembler = .idle) := by
  obtain ⟨rfl, hchans, hundecided⟩ := h
  obtain ⟨hchans', hstates⟩ := Prod.mk.inj (reach_dropAssembly id t)
  have hdropped : Acts s _ (dropEntry id (returnPages (pagesOf e.segs (List.range e.segs.length)) (dropAssembly id t))) :=
    ⟨rfl, hchans'.trans hchans, undecided_iff.2 (by
      show BreakState.decidedGo ∉ (dropAssembly id t).cues.table.map BreakRecord.state
      rw [hstates]; exact undecided_iff.1 hundecided)⟩
  have hblocks := blocks_dropAssembly id t
  rw [removeEntry_some he]
  refine ⟨_, hdropped.refresh, entry?_dropEntry id _, ?_, ?_, ?_, check_of_blocks hblocks, memory_of_blocks hblocks, ?_⟩
  · show (dropAssembly id t).store.directory.filter _ = _
    rw [dropAssembly_directory]
  · show (dropAssembly id t).store.freePages ++ _ = _
    rw [dropAssembly_freePages]
  · show (dropAssembly id t).store.checkQueue.filter _ = _
    congr 1
    unfold dropAssembly endSegment dropCapture; (repeat' split) <;> rfl
  · intro hidle
    show (dropAssembly id t).store.assembler = _
    rw [dropAssembly_idle hidle]; exact hidle

/-- An entry that is not expire-pending, or whose protection has not ended, stays (R82). -/
theorem tryExpire_stays (he : t.store.entry? id = some e) (hstays : ¬(e.expirePending && t.store.unprotected e) = true)
    (notify : State → State) : tryExpire notify id t = t := by
  unfold tryExpire; rw [he]; exact if_neg hstays

theorem tryExpire_removes (he : t.store.entry? id = some e) (hends : (e.expirePending && t.store.unprotected e) = true)
    (notify : State → State) :
    tryExpire notify id t = raise (.spotRemoved e.spot .expired) (removeEntry notify id t) := by
  unfold tryExpire; rw [he]; exact if_pos hends

/-- No check starts while one is in flight or none waits (R79). -/
theorem startCheck_waits (h : t.store.check ≠ none ∨ t.store.checkQueue = []) (notify : State → State) :
    startCheck notify t = t := by
  unfold startCheck; split
  · next hcheck hqueue =>
    rcases h with h | h
    · exact absurd hcheck h
    · exact nomatch hqueue.symm.trans h
  · rfl

/-- A check starts on the entry at the front of the queue (R79). -/
theorem Acts.startCheck {rest : List Nat} (h : Acts s st t) (hcheck : st.check = none)
    (hqueue : st.checkQueue = id :: rest) (he : st.entry? id = some e) :
    Acts s { st with
      checkQueue := rest
      check := some ⟨id, t.tb.now + 10000 * e.segCount⟩
      counters := { st.counters with checksRun := bump st.counters.checksRun }
      directory := updateWhere (fun x => x.spot.id == id) (fun y => { y with state := .checking }) st.directory }
      (startCheck Machine.refresh t) := by
  obtain ⟨rfl, hchans, hundecided⟩ := h
  unfold Machine.startCheck
  rw [hcheck, hqueue]; dsimp only; rw [he]
  exact Acts.refresh ⟨rfl, hchans, hundecided⟩

end Sys2Proof.Proofs
end

section
/-! The completion of a check, damage and expiry (R73 to R78, R80, R82), with no record DECIDED_GO. -/

namespace Sys2Proof.Proofs

open Sys2Proof Sys2Proof.Machine Sys2Proof.Laws

-- As in the tests: one theorem after another, within the memory that the check leaves for threads.
set_option Elab.async false

variable {s t : State} {st : SpotStore} {id : Nat} {e : Entry}

/-! ### The completion of a check -/

/-- The store with no check in flight. -/
def uncheckedStore (s : State) : SpotStore := { s.store with check := none }

theorem acts_unchecked (h : Undecided s) : Acts s (uncheckedStore s) { s with store := uncheckedStore s } :=
  ⟨rfl, rfl, h⟩

theorem exec_checkComplete {x : CheckInFlight} (hcheck : s.store.check = some x) (hdue : x.completes ≤ s.tb.now)
    (he : s.store.entry? x.spotId = some e) : exec .checkComplete s = .next (startCheck refresh
      (tryExpire refresh x.spotId (judgeCheck e { s with store := uncheckedStore s }))) := by
  have hx : checkDue s = some x := by unfold checkDue; rw [hcheck]; exact if_pos hdue
  show Host.Outcome.next (match checkDue s with | some c => finishCheck c s | none => s) = _
  rw [hx]
  dsimp only [finishCheck]
  rw [show SpotStore.entry? { s.store with check := none } x.spotId = some e from he]
  rfl

/-- The state that a command leaves, from what it does to the blocks beside the spot store. -/
theorem Quiet.beside (q : Quiet s t) : t.tb = s.tb ∧ t.em = s.em ∧ t.intake = s.intake ∧ t.ros = s.ros
    ∧ t.store.memory = s.store.memory := by
  have h := q.outer
  simp only [outer, Outer.mk.injEq] at h
  obtain ⟨-, htb, hintake, hem, hros, -, -⟩ := h
  exact ⟨htb, hem, hintake, hros, q.memory⟩

theorem checkComplete_beside {x : CheckInFlight} (hcheck : s.store.check = some x) (hdue : x.completes ≤ s.tb.now)
    (h : exec .checkComplete s = .next t) : t.tb = s.tb ∧ t.em = s.em ∧ t.intake = s.intake ∧ t.ros = s.ros
      ∧ t.store.memory = s.store.memory := by
  have hx : checkDue s = some x := by unfold checkDue; rw [hcheck]; exact if_pos hdue
  have ht : t = finishCheck x s := by
    refine (next_inj h).trans ?_
    rw [hx]
  exact ht ▸ (Quiet.finishCheck x .refl).beside

/-- The store of an entry that a check has proved. -/
def verifiedStore (id : Nat) (st : SpotStore) : SpotStore :=
  { st with directory := updateWhere (fun x => x.spot.id == id) (fun x => { x with state := .verified }) st.directory }

theorem entry?_verifiedStore (he : st.entry? id = some e) :
    (verifiedStore id st).entry? id = some { e with state := .verified } :=
  entry?_of_updateWhere (f := fun x => { x with state := .verified }) he rfl fun _ => rfl

/-- A check that finds no bad slot proves the entry in CHECKING (R80). -/
theorem judgeCheck_good (h : Acts s st t) (hbad : badSegments st e = []) (hstate : e.state = .checking) :
    Acts s (verifiedStore e.spot.id st) (judgeCheck e t) := by
  unfold judgeCheck; rw [h.store]; dsimp only
  rw [if_pos hbad, if_pos hstate]
  exact ((h.updateEntry e.spot.id _).raise _).refresh

/-- The store of an entry in which a check has found bad segments. -/
def damagedStore (e : Entry) (st : SpotStore) : SpotStore :=
  missedStore e.spot.id (badSegments st e) e
    { st with counters := { st.counters with badSlots := bumpBy st.counters.badSlots (badSlots st e) } }

theorem judgeCheck_bad (h : Acts s st t) (he : st.entry? e.spot.id = some e) (hbad : badSegments st e ≠ []) :
    Acts s (damagedStore e st) (judgeCheck e t) := by
  obtain ⟨rfl, hchans, hundecided⟩ := h
  unfold judgeCheck; dsimp only
  rw [if_neg hbad]
  have hcounted : Acts s { t.store with counters := { t.store.counters with
      badSlots := bumpBy t.store.counters.badSlots (badSlots t.store e) } } (updateStoreCounters
      (fun k => { k with badSlots := bumpBy k.badSlots (badSlots t.store e) }) t) := ⟨rfl, hchans, hundecided⟩
  exact hcounted.makeMissing he _ _

theorem tryExpire_not_pending (h : Acts s st t) (he : st.entry? id = some e) (hp : e.expirePending = false) :
    tryExpire refresh id t = t :=
  tryExpire_stays (h.store ▸ he) (by simp [hp]) refresh

theorem Acts.startCheck_waits (h : Acts s st t) (hq : st.check ≠ none ∨ st.checkQueue = []) :
    Acts s st (Machine.startCheck Machine.refresh t) := by
  rw [Proofs.startCheck_waits (by rw [h.store]; exact hq)]; exact h

/-- Settles O23: the entry becomes VERIFIED, it does not expire, and no check follows. -/
theorem goodCheckVerifiesTheSpot : Obligations.GoodCheckVerifiesTheSpot := by
  unfold Obligations.GoodCheckVerifiesTheSpot
  intro x e s hcheck hdue he hstate hbad hpending hqueue hundecided
  have hid : e.spot.id = x.spotId := (entry?_mem he).2
  have hexec := exec_checkComplete hcheck hdue he
  have hjudged := judgeCheck_good (acts_unchecked hundecided) hbad hstate
  have hfound : (verifiedStore e.spot.id (uncheckedStore s)).entry? x.spotId = some { e with state := .verified } := by
    rw [hid]; exact entry?_verifiedStore he
  rw [tryExpire_not_pending hjudged hfound hpending] at hexec
  have hdone := hjudged.startCheck_waits (.inr hqueue)
  obtain ⟨htb, hem, hintake, hros, -⟩ := checkComplete_beside hcheck hdue hexec
  refine ⟨_, hexec, hdone.store.trans ?_, htb, hem, hintake, hdone.chans, hros⟩
  simp [verifiedStore, uncheckedStore, updateWhere]

/-! ### Damage and expiry -/

theorem frozen_iff : e.frozen = true ↔ 0 < e.freeze := by simp [Entry.frozen]

/-- A failure of an entry that is not frozen makes its segment missing at once (R78). -/
theorem storeFailure_thawed (h : Acts s st t) (he : st.entry? id = some e) (hf : e.freeze = 0) (k : Nat) :
    Acts s (missedStore id [k] e st) (storeFailure refresh id k t) := by
  unfold storeFailure; rw [h.store, he]; dsimp only
  rw [if_neg (by rw [frozen_iff]; omega)]
  exact h.makeMissing he _ _

/-- A failure of a frozen entry is listed, once; nothing else happens (R78). -/
theorem storeFailure_frozen (he : s.store.entry? id = some e) (hf : 0 < e.freeze) (notify : State → State) (k : Nat) :
    storeFailure notify id k s
      = if k ∈ e.pending then s else updateEntry id (fun y => { y with pending := y.pending ++ [k] }) s := by
  unfold storeFailure; rw [he]; dsimp only
  rw [if_pos (frozen_iff.2 hf)]; simp only [List.contains_iff_mem]

theorem entry?_storeFailure_frozen (he : s.store.entry? id = some e) (hf : 0 < e.freeze) (notify : State → State)
    (k : Nat) : (storeFailure notify id k s).store.entry? id
      = some { e with pending := if k ∈ e.pending then e.pending else e.pending ++ [k] } := by
  rw [storeFailure_frozen he hf]
  split
  · exact he
  · exact entry?_updateEntry (f := fun y => { y with pending := y.pending ++ [k] }) he fun _ => rfl

/-- An entry is named by its spot when its id is the spot's and its spot is it. -/
theorem named?_of_entry? {x : Spot} (he : st.entry? x.id = some e) (hx : e.spot = x) : st.named? x = some e := by
  obtain ⟨-, l, r, hsplit, hbefore⟩ := List.find?_eq_some_iff_append.1 he
  refine List.find?_eq_some_iff_append.2 ⟨by simpa using hx, l, r, hsplit, fun y hy => ?_⟩
  have hne := hbefore y hy
  simp only [Bool.not_eq_true', beq_eq_false_iff_ne] at hne ⊢
  exact fun h => hne (congrArg Spot.id h)

theorem unfreezeSpot_eq {x : Spot} (he : s.store.entry? x.id = some e) (hx : e.spot = x) (notify : State → State) :
    unfreezeSpot notify x s = if e.freeze = 1
      then tryExpire notify x.id (applyPending notify (some .playout) x.id
        (updateEntry x.id (fun y => { y with freeze := y.freeze - 1 }) s))
      else updateEntry x.id (fun y => { y with freeze := y.freeze - 1 }) s := by
  subst hx
  unfold unfreezeSpot; rw [named?_of_entry? he rfl]

/-- The store of an entry whose pending failures have been applied (R77). -/
theorem applyPending_acts (h : Acts s st t) (he : st.entry? id = some e) (hp : e.pending ≠ [])
    (src : Option DamageSource) : ∃ x, Acts s x (applyPending refresh src id t)
      ∧ x.entry? id = some { e with pending := [], segs := missing e.segs e.pending, state := .filling }
      ∧ x.freePages = st.freePages ++ pagesOf e.segs e.pending ∧ id ∉ x.checkQueue := by
  have hemptied := h.updateEntry id fun y => { y with pending := [] }
  have hfound := entry?_of_updateWhere (f := fun y => { y with pending := [] }) he (x := { st with
    directory := updateWhere (fun x => x.spot.id == id) (fun y => { y with pending := [] }) st.directory }) rfl
    fun _ => rfl
  unfold applyPending
  rw [h.store, he]; dsimp only
  rw [if_neg (by simpa using hp)]
  exact ⟨_, hemptied.makeMissing hfound src e.pending, entry?_missedStore hfound e.pending, rfl, by simp [missedStore]⟩

theorem applyPending_none (he : t.store.entry? id = some e) (hp : e.pending = []) (notify : State → State)
    (src : Option DamageSource) : applyPending notify src id t = t := by
  unfold applyPending; rw [he]; dsimp only; rw [if_pos (by simp [hp])]

theorem releaseSpot_eq {x : Spot} (he : s.store.entry? x.id = some e) (hx : e.spot = x) (notify : State → State) :
    releaseSpot notify x s = tryExpire notify x.id (updateEntry x.id (fun y => { y with prot := y.prot - 1 }) s) := by
  subst hx
  unfold releaseSpot; rw [named?_of_entry? he rfl]

theorem unprotected_iff : st.unprotected e = true ↔ e.prot = 0 ∧ e.freeze = 0 ∧ st.inCheck e.spot.id = false := by
  simp [SpotStore.unprotected, Entry.frozen, and_assoc]

/-- The obligation's clause on a check, with what every such check leaves alone. -/
theorem checkComplete_damage {x : CheckInFlight} (hcheck : s.store.check = some x) (hdue : x.completes ≤ s.tb.now)
    (he : s.store.entry? x.spotId = some e) (hstate : e.state = .checking) (hqueue : s.store.checkQueue = [])
    (hundecided : Undecided s) : ∃ st', ∃ t, exec .checkComplete s = .next t ∧ t.store = st' ∧ st'.check = none
      ∧ (badSegments s.store e ≠ [] → e.expirePending = false → st' = damagedStore e (uncheckedStore s))
      ∧ (badSegments s.store e = [] → e.expirePending = true → e.prot = 0 → e.freeze = 0 →
        st'.entry? x.spotId = none ∧ st'.freePages = s.store.freePages ++ capturedOf s.store x.spotId
          ++ pagesOf e.segs (List.range e.segs.length)) := by
  have hid : e.spot.id = x.spotId := (entry?_mem he).2
  have hexec := exec_checkComplete hcheck hdue he
  have hunchecked := acts_unchecked hundecided
  have hverified : (verifiedStore e.spot.id (uncheckedStore s)).entry? x.spotId = some { e with state := .verified } := by
    rw [hid]; exact entry?_verifiedStore he
  -- the check's result, and then what R82 makes of it
  have hjudged : ∃ st1, Acts s st1 (judgeCheck e { s with store := uncheckedStore s })
      ∧ st1.check = none ∧ st1.checkQueue = []
      ∧ (∃ e1, st1.entry? x.spotId = some e1 ∧ e1.expirePending = e.expirePending ∧ e1.spot = e.spot)
      ∧ (badSegments s.store e ≠ [] → st1 = damagedStore e (uncheckedStore s))
      ∧ (badSegments s.store e = [] → st1 = verifiedStore e.spot.id (uncheckedStore s)) := by
    by_cases hbad : badSegments s.store e = []
    · refine ⟨_, judgeCheck_good hunchecked hbad hstate, rfl, hqueue, ⟨_, hverified, rfl, rfl⟩,
        fun h => absurd hbad h, fun _ => rfl⟩
    · have hfound : (uncheckedStore s).entry? e.spot.id = some e := by rw [hid]; exact he
      refine ⟨_, judgeCheck_bad hunchecked hfound hbad, rfl, ?_, ?_, fun _ => rfl, fun h => absurd h hbad⟩
      · exact congrArg (List.filter _) hqueue
      · rw [← hid]; exact ⟨_, entry?_missedStore hfound _, rfl, rfl⟩
  obtain ⟨st1, hacts, hnone, hempty, ⟨e1, hfound, hpending, hspot⟩, hbad, hgood⟩ := hjudged
  generalize hj : judgeCheck e { s with store := uncheckedStore s } = u at hacts hexec
  by_cases hends : (e1.expirePending && st1.unprotected e1) = true
  · rw [tryExpire_removes (hacts.store ▸ hfound) (by rw [hacts.store]; exact hends)] at hexec
    obtain ⟨st2, hremoved, hgone, -, hfree, hq, hc, -⟩ := hacts.removeEntry hfound
    have hdone := (hremoved.raise (.spotRemoved e1.spot .expired)).startCheck_waits (.inr (by rw [hq, hempty]; rfl))
    refine ⟨st2, _, hexec, hdone.store, hc.trans hnone, fun _ hp => ?_, fun hok _ _ _ => ⟨hgone, ?_⟩⟩
    · rw [hpending, hp] at hends; cases hends
    · obtain rfl := hgood hok
      obtain rfl := Option.some.inj (hfound.symm.trans hverified)
      exact hfree
  · rw [tryExpire_stays (hacts.store ▸ hfound) (by rw [hacts.store]; exact hends)] at hexec
    have hdone := hacts.startCheck_waits (.inr hempty)
    refine ⟨st1, _, hexec, hdone.store, hnone, fun h _ => hbad h, fun hok hp hprot hfreeze => absurd ?_ hends⟩
    obtain rfl := hgood hok
    obtain rfl := Option.some.inj (hfound.symm.trans hverified)
    exact Bool.and_eq_true_iff.2 ⟨hp, unprotected_iff.2 ⟨hprot, hfreeze, rfl⟩⟩

/-- The entry and the free list once a break's freeze ends (R77, R78), for an entry that is not expire-pending. -/
theorem unfreezeSpot_pending {x : Spot} (he : s.store.entry? x.id = some e) (hx : e.spot = x)
    (hp : e.expirePending = false) (hundecided : Undecided s) (h1 : e.freeze = 1) (hlist : e.pending ≠ []) :
    (unfreezeSpot refresh x s).store.entry? x.id
        = some { e with freeze := 0, pending := [], segs := missing e.segs e.pending, state := .filling }
      ∧ (unfreezeSpot refresh x s).store.freePages = s.store.freePages ++ pagesOf e.segs e.pending
      ∧ x.id ∉ (unfreezeSpot refresh x s).store.checkQueue := by
  have hthawed := entry?_updateEntry (f := fun y : Entry => { y with freeze := y.freeze - 1 }) he fun _ => rfl
  obtain ⟨st, hacts, hfound, hfree, hqueue⟩ := applyPending_acts ((Acts.refl hundecided).updateEntry x.id
    fun y => { y with freeze := y.freeze - 1 }) hthawed hlist (some .playout)
  rw [unfreezeSpot_eq he hx, if_pos h1, tryExpire_not_pending hacts hfound hp, hacts.store, hfound]
  exact ⟨by rw [h1], hfree, hqueue⟩

theorem unfreezeSpot_none {x : Spot} (he : s.store.entry? x.id = some e) (hx : e.spot = x)
    (hp : e.expirePending = false) (h : e.freeze = 1 → e.pending = []) (notify : State → State) :
    unfreezeSpot notify x s = updateEntry x.id (fun y => { y with freeze := y.freeze - 1 }) s := by
  have hthawed := entry?_updateEntry (f := fun y : Entry => { y with freeze := y.freeze - 1 }) he fun _ => rfl
  rw [unfreezeSpot_eq he hx]
  split
  · next h1 =>
    rw [applyPending_none hthawed (h h1)]
    exact tryExpire_stays hthawed (by simp [hp]) notify
  · rfl

/-- The entry and the free list once a protection ends (R76, R82). -/
theorem releaseSpot_ends {x : Spot} (he : s.store.entry? x.id = some e) (hx : e.spot = x) (hundecided : Undecided s)
    (hidle : s.store.assembler = .idle) (hp : e.expirePending = true)
    (hends : s.store.unprotected { e with prot := e.prot - 1 } = true) :
    (releaseSpot refresh x s).store.entry? x.id = none
      ∧ (releaseSpot refresh x s).store.freePages
        = s.store.freePages ++ pagesOf e.segs (List.range e.segs.length) := by
  have hreleased := entry?_updateEntry (f := fun y : Entry => { y with prot := y.prot - 1 }) he fun _ => rfl
  have hacts := (Acts.refl hundecided).updateEntry x.id fun y => { y with prot := y.prot - 1 }
  obtain ⟨st, hremoved, hgone, -, hfree, -⟩ := hacts.removeEntry hreleased
  have hnone : capturedOf s.store x.id = [] := by unfold capturedOf; rw [hidle]
  have hboth : (e.expirePending && s.store.unprotected { e with prot := e.prot - 1 }) = true :=
    Bool.and_eq_true_iff.2 ⟨hp, hends⟩
  rw [releaseSpot_eq he hx, tryExpire_removes hreleased hboth, (hremoved.raise _).store]
  refine ⟨hgone, hfree.trans ?_⟩
  show s.store.freePages ++ capturedOf s.store x.id ++ _ = _
  rw [hnone, List.append_nil]

theorem releaseSpot_stays {x : Spot} (he : s.store.entry? x.id = some e) (hx : e.spot = x)
    (hstays : ¬(e.expirePending && s.store.unprotected { e with prot := e.prot - 1 }) = true) (notify : State → State) :
    releaseSpot notify x s = updateEntry x.id (fun y => { y with prot := y.prot - 1 }) s := by
  rw [releaseSpot_eq he hx]
  exact tryExpire_stays (entry?_updateEntry (f := fun y : Entry => { y with prot := y.prot - 1 }) he fun _ => rfl) hstays
    notify

theorem unprotected_released {x : Spot} (hx : e.spot = x) : st.unprotected { e with prot := e.prot - 1 } = true
    ↔ e.prot ≤ 1 ∧ e.freeze = 0 ∧ st.inCheck x.id = false := by
  subst hx; rw [unprotected_iff]; dsimp only; rw [Nat.sub_eq_zero_iff_le]

/-- Settles O25, a clause for each way in which pages go back. -/
theorem damageAndExpiryGiveThePagesBack : Obligations.DamageAndExpiryGiveThePagesBack := by
  unfold Obligations.DamageAndExpiryGiveThePagesBack
  refine ⟨fun x e s hcheck hdue he hstate hqueue hundecided => ?_,
    fun id k e s he hundecided => ⟨fun hf => ?_, fun hf => ?_⟩,
    fun x e s he hx hp _ hundecided => ⟨fun h1 => ?_, fun h1 hlist => ?_, fun h1 hlist => ?_⟩,
    fun x e s he hx _ hundecided hidle => ⟨fun hp hends => ?_, fun hstays => ?_⟩⟩
  · obtain ⟨_, t, hexec, rfl, hnone, hbad, hgood⟩ := checkComplete_damage hcheck hdue he hstate hqueue hundecided
    obtain ⟨htb, -, -, -, hmemory⟩ := checkComplete_beside hcheck hdue hexec
    have hid : e.spot.id = x.spotId := (entry?_mem he).2
    refine ⟨t, hexec, hnone, htb, hmemory, fun h hp => ?_, fun h hp hprot hfreeze _ => ?_⟩
    · have hfound : (uncheckedStore s).entry? e.spot.id = some e := by rw [hid]; exact he
      rw [hbad h hp, ← hid]
      exact ⟨entry?_missedStore hfound _, rfl, rfl⟩
    · exact hgood h hp hprot hfreeze
  · exact entry?_storeFailure_frozen he hf refresh k
  · have hacts := storeFailure_thawed (Acts.refl hundecided) he hf k
    rw [hacts.store]
    exact ⟨entry?_missedStore he [k], rfl⟩
  · rw [unfreezeSpot_none he hx hp fun h => absurd h h1]
    exact ⟨entry?_updateEntry (f := fun y => { y with freeze := y.freeze - 1 }) he fun _ => rfl, rfl⟩
  · rw [unfreezeSpot_none he hx hp fun _ => hlist,
      entry?_updateEntry (f := fun y => { y with freeze := y.freeze - 1 }) he fun _ => rfl, h1]
  · exact unfreezeSpot_pending he hx hp hundecided h1 hlist
  · exact releaseSpot_ends he hx hundecided hidle hp ((unprotected_released hx).2 hends)
  · rw [releaseSpot_stays he hx fun h => by
      obtain ⟨hp, hends⟩ := Bool.and_eq_true_iff.1 h
      rcases hstays with hnot | hnot
      · exact nomatch hnot.symm.trans hp
      · exact hnot ((unprotected_released hx).1 hends)]
    exact ⟨entry?_updateEntry (f := fun y => { y with prot := y.prot - 1 }) he fun _ => rfl, rfl⟩

end Sys2Proof.Proofs
end

section
/-! Segment heads and the last body of a segment (R64 to R71, R74, R75, R79), with no record DECIDED_GO. -/

namespace Sys2Proof.Proofs

open Sys2Proof Sys2Proof.Machine Sys2Proof.Laws

-- As in the tests: one theorem after another, within the memory that the check leaves for threads.
set_option Elab.async false

variable {s t u : State} {st : SpotStore} {e : Entry} {x : SegmentHead} {c : SiteConfig} {cell : Cell} {a : Assembly}

/-! ### A head and the entry of its spot (R67, R68) -/

/-- A head agrees with an entry of its spot in the segment count, and in the last segment's cells if both give them. -/
def Agrees (x : SegmentHead) (e : Entry) : Prop :=
  e.segCount = x.segCount ∧ (x.isLast = true → e.lastCells = none ∨ e.lastCells = some x.cells)

theorem headInconsistent_eq_false_iff : headInconsistent x e = false ↔ Agrees x e := by
  unfold headInconsistent Agrees
  rw [Bool.or_eq_false_iff, bne_eq_false_iff_eq, eq_comm]
  refine and_congr_right fun _ => ?_
  cases x.isLast with
  | false => simp
  | true => cases e.lastCells <;> simp

/-- An entry that has taken the cells of its last segment from a head. -/
def heardEntry (x : SegmentHead) (e : Entry) : Entry :=
  { e with lastCells := if x.isLast = true then some x.cells else e.lastCells }

/-- The state in which a head that agrees with its entry is judged: the entry has heard it. -/
def heard (x : SegmentHead) (e : Entry) (s : State) : State :=
  if x.isLast ∧ e.lastCells = none then updateEntry x.spot.id (fun y => { y with lastCells := some x.cells }) s else s

theorem entry?_heard (he : s.store.entry? x.spot.id = some e) (hagrees : Agrees x e) :
    (heard x e s).store.entry? x.spot.id = some (heardEntry x e) := by
  unfold heard; split
  · next h =>
    rw [entry?_updateEntry (f := fun y => { y with lastCells := some x.cells }) he fun _ => rfl]
    unfold heardEntry; rw [if_pos h.1]
  · next h =>
    have hsame : heardEntry x e = e := by
      unfold heardEntry; split
      · next hlast =>
        have hcells := (hagrees.2 hlast).resolve_left fun hnone => h ⟨hlast, hnone⟩
        rw [← hcells]
      · rfl
    rw [hsame]; exact he

theorem heard_store (x : SegmentHead) (e : Entry) (s : State) :
    ∃ d, (heard x e s).store = { s.store with directory := d } ∧ d.length = s.store.directory.length := by
  unfold heard; split
  · exact ⟨_, rfl, by simp [updateWhere]⟩
  · exact ⟨_, rfl, rfl⟩

/-- The store of a head whose bodies are skipped, with its counters. -/
def skippedStore (x : SegmentHead) (k : StoreCounters) (st : SpotStore) : SpotStore :=
  { st with assembler := .skip ⟨x.spot, x.segment, x.cells, 0⟩, counters := k }

/-- A missing segment is captured on the front page of a free list, or skipped when there is none (R69). -/
def Captures (x : SegmentHead) (free : List Nat) (st : SpotStore) : Prop :=
  (∀ page rest, free = page :: rest →
    st.assembler = .capture ⟨x.spot, x.segment, x.cells, 0⟩ page crc32Start x.check ∧ st.freePages = rest)
  ∧ (free = [] → st.assembler = .skip ⟨x.spot, x.segment, x.cells, 0⟩)

theorem captureHead_captures (x : SegmentHead) (s : State) : Captures x s.store.freePages (captureHead x s).store
    ∧ (captureHead x s).store.directory = s.store.directory := by
  unfold captureHead; split
  · next hfree => exact ⟨⟨fun _ _ h => absurd (hfree.symm.trans h) (List.cons_ne_nil _ _).symm, fun _ => rfl⟩, rfl⟩
  · next page rest hfree =>
    refine ⟨⟨fun page' rest' h => ?_, fun h => nomatch hfree.symm.trans h⟩, rfl⟩
    obtain ⟨rfl, rfl⟩ := List.cons.inj (hfree.symm.trans h)
    exact ⟨rfl, rfl⟩

theorem takeHead_disagrees (he : s.store.entry? x.spot.id = some e) (hx : e.spot = x.spot) (h : ¬Agrees x e) :
    (takeHead x s).store = skippedStore x s.store.counters s.store := by
  unfold takeHead; rw [named?_of_entry? he hx]; dsimp only
  rw [if_pos (Bool.eq_true_of_not_eq_false fun hagrees => h (headInconsistent_eq_false_iff.1 hagrees))]; rfl

theorem takeHead_agrees (he : s.store.entry? x.spot.id = some e) (hx : e.spot = x.spot) (h : Agrees x e) :
    takeHead x s = if (e.segs.getD x.segment none).isSome
      then updateStoreCounters (fun k => { k with skipped := bump k.skipped }) (skipHead x (heard x e s))
      else captureHead x (heard x e s) := by
  unfold takeHead; rw [named?_of_entry? he hx]; dsimp only
  rw [headInconsistent_eq_false_iff.2 h]; rfl

theorem takeHead_held (he : s.store.entry? x.spot.id = some e) (hx : e.spot = x.spot) (h : Agrees x e) {page : Nat}
    (hheld : e.segs[x.segment]? = some (some page)) :
    (takeHead x s).store.directory.length = s.store.directory.length
      ∧ (takeHead x s).store.assembler = .skip ⟨x.spot, x.segment, x.cells, 0⟩
      ∧ (takeHead x s).store.freePages = s.store.freePages
      ∧ (takeHead x s).store.counters.skipped = bump s.store.counters.skipped := by
  obtain ⟨d, hstore, hlength⟩ := heard_store x e s
  have htaken : (takeHead x s).store = skippedStore x
      { (heard x e s).store.counters with skipped := bump (heard x e s).store.counters.skipped }
      (heard x e s).store := by
    rw [takeHead_agrees he hx h, if_pos (by rw [List.getD_eq_getElem?_getD, hheld]; rfl)]; rfl
  rw [htaken, hstore]
  exact ⟨hlength, rfl, rfl, rfl⟩

theorem takeHead_missing (he : s.store.entry? x.spot.id = some e) (hx : e.spot = x.spot) (h : Agrees x e)
    (hmissing : e.segs[x.segment]? = some none) :
    (takeHead x s).store.entry? x.spot.id = some (heardEntry x e)
      ∧ Captures x s.store.freePages (takeHead x s).store := by
  obtain ⟨hcaptures, hdirectory⟩ := captureHead_captures x (heard x e s)
  obtain ⟨d, hstore, -⟩ := heard_store x e s
  rw [takeHead_agrees he hx h, if_neg (by rw [List.getD_eq_getElem?_getD, hmissing]; exact Bool.false_ne_true)]
  refine ⟨?_, by rw [hstore] at hcaptures; exact hcaptures⟩
  unfold SpotStore.entry?; rw [hdirectory]
  exact entry?_heard he h

/-! ### A new spot and a new version (R74, R75) -/

theorem find?_insertEntry (e : Entry) {l : List Entry} (h : l.find? (fun y => y.spot.id == e.spot.id) = none) :
    (insertEntry e l).find? (fun y => y.spot.id == e.spot.id) = some e := by
  induction l with
  | nil => simp [insertEntry]
  | cons y l ih =>
    have hnone := List.find?_eq_none.1 h
    unfold insertEntry; split
    · simp
    · exact (List.find?_cons_of_neg (p := fun z : Entry => z.spot.id == e.spot.id) (hnone y List.mem_cons_self)).trans
        (ih (List.find?_eq_none.2 fun z hz => hnone z (List.mem_cons_of_mem y hz)))

theorem agrees_freshEntry (x : SegmentHead) (s : State) : Agrees x (freshEntry x s) := ⟨rfl, fun _ => .inl rfl⟩

/-- A spot with no entry gets one while the directory has room, and its segment is captured (R69, R75). -/
theorem createEntry_room (hundecided : Undecided s) (hnew : s.store.entry? x.spot.id = none)
    (hroom : s.store.directory.length < 48) (hx : x.segment < x.segCount) :
    (createEntry x s).store.entry? x.spot.id = some (heardEntry x (freshEntry x s))
      ∧ Captures x s.store.freePages (createEntry x s).store := by
  have hinserted := ((Acts.refl hundecided).of_store { s.store with
    directory := insertEntry (freshEntry x s) s.store.directory }).refresh
  have hcreated : createEntry x s = takeHead x (refresh { s with store := { s.store with
      directory := insertEntry (freshEntry x s) s.store.directory } }) := if_pos hroom
  rw [hcreated]
  generalize refresh _ = v at hinserted ⊢
  have hfound : v.store.entry? x.spot.id = some (freshEntry x s) := by
    rw [hinserted.store]; exact find?_insertEntry (freshEntry x s) hnew
  have hmissing : (freshEntry x s).segs[x.segment]? = some none := by simp [freshEntry, hx]
  have htaken := takeHead_missing hfound rfl (agrees_freshEntry x s) hmissing
  rw [show v.store.freePages = s.store.freePages by rw [hinserted.store]] at htaken
  exact htaken

theorem createEntry_full (h : 48 ≤ s.store.directory.length) :
    (createEntry x s).store = skippedStore x s.store.counters s.store := by
  have hfull : createEntry x s = raise (.storeFullDirectory x.spot.id) (skipHead x s) := if_neg (Nat.not_lt.2 h)
  rw [hfull]; rfl

/-- The directory of a spot store loses an entry to a filter on its id. -/
theorem length_without_lt {id : Nat} (he : st.entry? id = some e) :
    (st.directory.filter fun y => y.spot.id != id).length < st.directory.length := by
  obtain ⟨hmem, hid⟩ := entry?_mem he
  exact List.length_filter_lt_length_iff_exists.2 ⟨e, hmem, by simp [hid]⟩

/-- An entry of another version that nothing protects gives way to the head's (R74). -/
theorem newVersion_replaces (hundecided : Undecided s) (he : s.store.entry? x.spot.id = some e)
    (hfree : s.store.unprotected e = true) (hroom : s.store.directory.length ≤ 48) (hx : x.segment < x.segCount) :
    ∃ y, (newVersion x e s).store.entry? x.spot.id = some y ∧ y.spot = x.spot ∧ y.state = .filling := by
  obtain ⟨x', hremoved, hgone, hdirectory, -⟩ := (Acts.refl hundecided).removeEntry he
  have hraised := hremoved.raise (.spotRemoved e.spot .replaced)
  have hreplaced : newVersion x e s
      = createEntry x (raise (.spotRemoved e.spot .replaced) (removeEntry refresh x.spot.id s)) := by
    unfold newVersion; rw [if_pos hfree, (entry?_mem he).2]
  rw [hreplaced]
  generalize raise _ _ = v at hraised ⊢
  refine ⟨_, (createEntry_room hraised.undecided (by rw [hraised.store]; exact hgone) ?_ hx).1, rfl, rfl⟩
  rw [hraised.store, hdirectory]
  exact (length_without_lt he).trans_le hroom

theorem newVersion_deferred (hkept : s.store.unprotected e = false) :
    (newVersion x e s).store = skippedStore x s.store.counters s.store := by
  unfold newVersion; rw [hkept]; rfl

theorem directoryHead_new (h : s.store.entry? x.spot.id = none) : directoryHead x s = createEntry x s := by
  unfold directoryHead; rw [h]

theorem directoryHead_known (he : s.store.entry? x.spot.id = some e) :
    directoryHead x s = if e.spot = x.spot then takeHead x s else newVersion x e s := by
  unfold directoryHead; rw [he]

/-! ### A segment head within a frame -/

/-- A frame cell that is not the frame's last takes its place in the frame, which leaves the store and site time as the
cell's consumer left them. -/
theorem exec_handedCell {tag : Nat} {kind : CellKind} (h : FrameCell c cell tag kind a s) (hkind : kind ≠ .frameHead) :
    ∃ t, exec (.cellTaken cell) s = .next t
      ∧ t.store = (handCell c (sortCell c cell) cell (isContinuous cell s) (received c cell s)).store
      ∧ t.tb = (handCell c (sortCell c cell) cell (isContinuous cell s) (received c cell s)).tb := by
  refine ⟨_, exec_frameCell h.good (not_frameHead_of_kind (h.ofKind ▸ hkind)) h.assembly, ?_⟩
  rw [placeCell_more h.more]
  have haside := aside_placed (sortCell c cell) cell a.record
    (handCell c (sortCell c cell) cell (isContinuous cell s) (received c cell s))
  generalize placed _ _ _ _ = v at haside ⊢
  exact ⟨show (aside v).store = _ by rw [haside]; rfl, show (aside v).tb = _ by rw [haside]; rfl⟩

theorem sortCell_segmentHead (htag : cellTag cell = c.assetTag) (hkind : cellKind cell = .segmentHead) :
    sortCell c cell = .segmentHead := by
  unfold sortCell; rw [hkind]; exact if_pos htag

/-- A segment head within a frame ends the segment in assembly and is judged by the spot store alone. -/
theorem exec_segmentHead (h : FrameCell c cell c.assetTag .segmentHead a s) : ∃ t, exec (.cellTaken cell) s = .next t
    ∧ t.tb = s.tb ∧ t.store.memory = s.store.memory
    ∧ t.store = (segmentHead c (cellBody cell) (received c cell s)).store := by
  obtain ⟨t, hexec, hstore, htb⟩ := exec_handedCell h CellKind.noConfusion
  rw [sortCell_segmentHead h.onTag h.ofKind] at hstore htb
  have hquiet : Quiet (received c cell s) (segmentHead c (cellBody cell) (received c cell s)) := .segmentHead c _ .refl
  have hkept := tb_of_outer hquiet.outer
  exact ⟨t, hexec, htb.trans hkept, (congrArg SpotStore.memory hstore).trans hquiet.memory, hstore⟩

/-- The state in which a head is judged: the cell is received and the segment in assembly ended. -/
def judged (c : SiteConfig) (cell : Cell) (s : State) : State := endSegment (received c cell s)

theorem judged_parts (c : SiteConfig) (cell : Cell) (s : State) : (judged c cell s).store = (endSegment s).store
    ∧ (judged c cell s).cues = s.cues ∧ (judged c cell s).tb = s.tb ∧ (judged c cell s).chans = s.chans := by
  have hsame : (received c cell s).store.assembler = s.store.assembler := rfl
  unfold judged endSegment dropCapture
  rw [hsame]
  cases s.store.assembler <;> exact ⟨rfl, rfl, rfl, rfl⟩

section
variable {b : List Byte} (hx : segmentHeadOf b = x)
include hx

theorem segmentHead_malformed (h : x.ok = false) : segmentHead c b s
    = updateStoreCounters (fun k => { k with malformed := bump k.malformed }) (endSegment s) := by
  unfold segmentHead; dsimp only; rw [hx, h]; rfl

theorem segmentHead_otherZone (h : x.ok = true) (hz : ¬zoneMatch c.zoneCode x.zoneCode x.zoneMask = true) :
    segmentHead c b s
      = skipHead x (updateStoreCounters (fun k => { k with otherZone := bump k.otherZone }) (endSegment s)) := by
  unfold segmentHead; dsimp only; rw [hx, h, Bool.eq_false_iff.2 hz]; rfl

theorem segmentHead_stale (h : x.ok = true) (hz : zoneMatch c.zoneCode x.zoneCode x.zoneMask = true)
    (hs : staleHead x (endSegment s) = true) : segmentHead c b s
      = skipHead x (updateStoreCounters (fun k => { k with stale := bump k.stale }) (endSegment s)) := by
  unfold segmentHead; dsimp only; rw [hx, h, hz, hs]; rfl

theorem segmentHead_fresh (h : x.ok = true) (hz : zoneMatch c.zoneCode x.zoneCode x.zoneMask = true)
    (hs : staleHead x (endSegment s) = false) : segmentHead c b s = directoryHead x (endSegment s) := by
  unfold segmentHead; dsimp only; rw [hx, h, hz, hs]; rfl
end

theorem staleHead_iff : staleHead x s = true ↔ s.tb.disc ≠ .unset ∧ (x.expiry : Int) ≤ secondOf s.tb.now := by
  simp [staleHead]

/-! ### The last body of a segment (R71, R79) -/

/-- The store with a page held for a segment of an entry, and the assembler IDLE. -/
def heldStore (g : SegmentInFlight) (page : Nat) (st : SpotStore) : SpotStore :=
  { st with
    assembler := .idle
    directory := updateWhere (fun y => y.spot.id == g.spot.id)
      (fun y => { y with segs := y.segs.set g.segment (some page) }) st.directory }

/-- The store with an entry COMPLETE at the back of the check queue. -/
def queuedStore (id : Nat) (st : SpotStore) : SpotStore :=
  { st with
    directory := updateWhere (fun y => y.spot.id == id) (fun y => { y with state := .complete }) st.directory
    checkQueue := st.checkQueue ++ [id] }

variable {g : SegmentInFlight} {page : Nat} {running check : Word32}

theorem entry?_heldStore (he : st.entry? g.spot.id = some e) :
    (heldStore g page st).entry? g.spot.id = some { e with segs := e.segs.set g.segment (some page) } :=
  entry?_of_updateWhere (f := fun y => { y with segs := y.segs.set g.segment (some page) }) he rfl fun _ => rfl

theorem entry?_queuedStore {id : Nat} (he : st.entry? id = some e) :
    (queuedStore id st).entry? id = some { e with state := .complete } :=
  entry?_of_updateWhere (f := fun y => { y with state := .complete }) he rfl fun _ => rfl

theorem completeSegment_bad (h : crc32Result running ≠ check) : (completeSegment g page running check s).store
    = { s.store with
      assembler := .idle
      freePages := s.store.freePages ++ [page]
      counters := { s.store.counters with checkFailures := bump s.store.counters.checkFailures } } := by
  unfold completeSegment; dsimp only; rw [if_neg h]; rfl

/-- A segment whose CRC-32 holds is held on its page; the last of its entry makes the entry COMPLETE at the back of the
queue, and then a check may start (R71, R79). -/
theorem completeSegment_good (h : crc32Result running = check) (he : s.store.entry? g.spot.id = some e) :
    completeSegment g page running check s
      = if (e.segs.set g.segment (some page)).countP Option.isSome = e.segCount
        then startCheck refresh (refresh { s with store := queuedStore g.spot.id (heldStore g page s.store) })
        else { s with store := heldStore g page s.store } := by
  have hfound := entry?_heldStore (page := page) he
  unfold completeSegment holdSegment; dsimp only; rw [if_pos h]
  rw [show SpotStore.entry? (updateEntry g.spot.id _ (setAssembler .idle s)).store g.spot.id = _ from hfound]
  rfl

/-- The start of a check leaves the assembler and the free list. -/
theorem startCheck_leaves (h : Undecided s) : (startCheck refresh s).store.assembler = s.store.assembler
    ∧ (startCheck refresh s).store.freePages = s.store.freePages := by
  have hrefresh : ∀ {w}, Undecided w → (refresh w).store = w.store := fun hw => (Acts.refl hw).refresh.store
  unfold startCheck; split
  · dsimp only; split
    · exact ⟨rfl, rfl⟩
    · rw [hrefresh (by exact h)]
      exact ⟨rfl, rfl⟩
  · exact ⟨rfl, rfl⟩

/-- The last segment of an entry: the entry queues, and its check starts at once when no other waits (R71, R79). -/
theorem completeSegment_full (h : crc32Result running = check) (he : s.store.entry? g.spot.id = some e)
    (hfull : (e.segs.set g.segment (some page)).countP Option.isSome = e.segCount) (hundecided : Undecided s) :
    let st := (completeSegment g page running check s).store
    let segs := e.segs.set g.segment (some page)
    st.assembler = .idle ∧ st.freePages = s.store.freePages
      ∧ (s.store.check = none → s.store.checkQueue = [] →
        st.entry? g.spot.id = some { e with segs := segs, state := .checking }
        ∧ st.check = some ⟨g.spot.id, s.tb.now + 10000 * e.segCount⟩ ∧ st.checkQueue = [])
      ∧ (s.store.check ≠ none → st.entry? g.spot.id = some { e with segs := segs, state := .complete }
        ∧ st.checkQueue = s.store.checkQueue ++ [g.spot.id] ∧ st.check = s.store.check) := by
  have hacts := ((Acts.refl hundecided).of_store (queuedStore g.spot.id (heldStore g page s.store))).refresh
  have htime := tb_of_outer (Quiet.refresh (.refl (s := { s with
    store := queuedStore g.spot.id (heldStore g page s.store) }))).outer
  rw [completeSegment_good h he, if_pos hfull]
  generalize refresh _ = v at hacts htime ⊢
  have hfound := entry?_queuedStore (entry?_heldStore (page := page) he)
  obtain ⟨hassembler, hfree⟩ := startCheck_leaves hacts.undecided
  rw [hacts.store] at hassembler hfree
  refine ⟨hassembler, hfree, fun hnone hempty => ?_, fun hbusy => ?_⟩
  · have hstarted := hacts.startCheck (id := g.spot.id) (rest := []) hnone (congrArg (· ++ [g.spot.id]) hempty) hfound
    rw [hstarted.store]
    exact ⟨entry?_of_updateWhere (f := fun y => { y with state := .checking }) hfound rfl fun _ => rfl,
      by rw [htime], rfl⟩
  · rw [(hacts.startCheck_waits (.inl hbusy)).store]
    exact ⟨hfound, rfl, rfl⟩

/-- The state in which the last body of a captured segment is judged: its slot is written (R70). -/
def lastWritten (c : SiteConfig) (cell : Cell) (g : SegmentInFlight) (page : Nat) (s : State) : State :=
  writeSlot (slotAddress page g.received) (cellBody cell) (received c cell s)

/-- The last body of a captured segment within a frame completes the segment. -/
theorem exec_lastBody (h : FrameCell c cell c.assetTag .segmentBody a s) (hcont : isContinuous cell s = true)
    (hcapture : s.store.assembler = .capture g page running check) (hlast : g.received + 1 = g.expected) :
    ∃ t, exec (.cellTaken cell) s = .next t ∧ t.tb = s.tb
      ∧ t.store
        = (completeSegment g page (crc32Run running (cellBody cell)) check (lastWritten c cell g page s)).store := by
  obtain ⟨t, hexec, hstore, htb⟩ := exec_handedCell h CellKind.noConfusion
  rw [sortCell_segmentBody h.onTag h.ofKind] at hstore htb
  have hbody : handCell c .segmentBody cell (isContinuous cell s) (received c cell s)
      = completeSegment g page (crc32Run running (cellBody cell)) check (lastWritten c cell g page s) := by
    show segmentBody (cellBody cell) (isContinuous cell s) (received c cell s) = _
    unfold segmentBody
    rw [show (received c cell s).store.assembler = _ from hcapture, hcont]
    exact if_pos hlast
  have hkept := tb_of_outer (outer_segmentBody (cellBody cell) (isContinuous cell s) (received c cell s))
  exact ⟨t, hexec, htb.trans hkept, hstore.trans (congrArg State.store hbody)⟩

/-! ### The obligation -/

theorem namers_judged (c : SiteConfig) (cell : Cell) (s : State) (y : Spot) :
    namers (judged c cell s) y = namers s y := by
  obtain ⟨-, hcues, -, hchans⟩ := judged_parts c cell s
  unfold namers; rw [hcues, hchans]

/-- Settles O24: a head by the order of R64 to R69's tests, a last body by its CRC-32 and by the entry's other
segments. -/
theorem segmentsAreTakenSkippedAndHeld : Obligations.SegmentsAreTakenSkippedAndHeld := by
  unfold Obligations.SegmentsAreTakenSkippedAndHeld
  refine ⟨fun c cell a s h hundecided => ?_,
    fun c cell a g page running check e s h hcont hundecided hcapture hlast he => ?_⟩
  · intro x d matching fresh agrees
    obtain ⟨t, hexec, htb, hmemory, hstore⟩ := exec_segmentHead h
    obtain ⟨hd, hcues, htime, -⟩ := judged_parts c cell s
    have hd' : (judged c cell s).store = d := hd
    clear_value d; subst hd'
    have hj : Undecided (judged c cell s) := by unfold Undecided; rw [hcues]; exact hundecided
    have hstale_iff := staleHead_iff (x := x) (s := judged c cell s)
    rw [htime] at hstale_iff
    have hfreshStore : fresh → t.store = (directoryHead x (judged c cell s)).store := fun ⟨⟨hok, hz⟩, hs⟩ =>
      hstore.trans (congrArg State.store (segmentHead_fresh rfl hok hz
        (Bool.eq_false_iff.2 fun hstale => hs (hstale_iff.1 hstale))))
    have hsegment : fresh → x.segment < x.segCount := fun ⟨⟨hok, _⟩, _⟩ => segment_lt_of_ok hok
    refine ⟨t, hexec, htb, hmemory, fun hok => ?_, fun hok hother => ?_, fun ⟨hok, hz⟩ hstale => ?_,
      fun e hf he hx => ?_, fun e hf he hx => ?_, fun hf hnew hfull => ?_, fun hf hnew hroom => ?_⟩
    · exact hstore.trans (congrArg State.store (segmentHead_malformed rfl hok))
    · exact hstore.trans (congrArg State.store (segmentHead_otherZone rfl hok fun hz => hother ⟨hok, hz⟩))
    · have hs : staleHead x (judged c cell s) = true := by
        by_contra hnot
        exact hstale ⟨⟨hok, hz⟩, fun hs => hnot (hstale_iff.2 hs)⟩
      exact hstore.trans (congrArg State.store (segmentHead_stale rfl hok hz hs))
    · rw [hfreshStore hf, directoryHead_known he, if_pos hx]
      exact ⟨takeHead_disagrees he hx, fun hagrees ⟨_, hheld⟩ => takeHead_held he hx hagrees hheld,
        fun hagrees hmissing => takeHead_missing he hx hagrees hmissing⟩
    · rw [hfreshStore hf, directoryHead_known he, if_neg hx]
      exact ⟨newVersion_deferred, fun hfree _ hroom => newVersion_replaces hj he hfree hroom (hsegment hf)⟩
    · rw [hfreshStore hf, directoryHead_new hnew]
      exact createEntry_full hfull
    · rw [hfreshStore hf, directoryHead_new hnew]
      obtain ⟨hfound, hcaptures, -⟩ := createEntry_room hj hnew hroom (hsegment hf)
      exact ⟨⟨_, hfound, rfl, rfl, rfl, rfl, rfl, rfl, rfl, namers_judged c cell s x.spot⟩, hcaptures⟩
  · obtain ⟨t, hexec, htb, hstore⟩ := exec_lastBody h hcont hcapture hlast
    have hwritten : Undecided (lastWritten c cell g page s) := hundecided
    have he' : (lastWritten c cell g page s).store.entry? g.spot.id = some e := he
    by_cases hgood : crc32Result (crc32Run running (cellBody cell)) = check
    · by_cases hfull : (e.segs.set g.segment (some page)).countP Option.isSome = e.segCount
      · obtain ⟨hassembler, hfree, hstarts, hwaits⟩ := completeSegment_full hgood he' hfull hwritten
        refine ⟨t, hexec, ?_⟩
        rw [hstore]
        exact ⟨hassembler, htb, fun hbad => absurd hgood hbad, fun _ => ⟨hfree, fun h => absurd hfull h,
          fun _ => hstarts, fun _ => hwaits⟩⟩
      · rw [completeSegment_good hgood he', if_neg hfull] at hstore
        refine ⟨t, hexec, ?_⟩
        rw [hstore]
        exact ⟨rfl, htb, fun hbad => absurd hgood hbad, fun _ => ⟨rfl, fun _ => ⟨entry?_heldStore he', rfl⟩,
          fun h => absurd h hfull, fun h => absurd h hfull⟩⟩
    · rw [completeSegment_bad hgood] at hstore
      refine ⟨t, hexec, ?_⟩
      rw [hstore]
      exact ⟨rfl, htb, fun _ => ⟨rfl, rfl, rfl⟩, fun h => absurd h hgood⟩

end Sys2Proof.Proofs
end

section
/-! SUPPORT. The break table and the channels under the commands of every block: which operations leave both, and that a
property of the two which the hand-offs keep is kept by every operation that reaches them through the hand-offs alone. -/

namespace Sys2Proof.Proofs

open Sys2Proof Sys2Proof.Machine Sys2Proof.Laws

-- As in the tests: one theorem after another, within the memory that the check leaves for threads.
set_option Elab.async false

variable {s t : State}

/-! ### The desk -/

/-- The break table and the four channels. -/
def desk (s : State) : List BreakRecord × List Channel := (s.cues.table, s.chans.chan)

theorem table_of_desk (h : desk t = desk s) : t.cues.table = s.cues.table := congrArg Prod.fst h
theorem chan_of_desk (h : desk t = desk s) : t.chans.chan = s.chans.chan := congrArg Prod.snd h
theorem desk_of_aside (h : aside t = aside s) : desk t = desk s :=
  show desk (aside t) = desk (aside s) by rw [h]

@[simp] theorem desk_raise (e : Event) (s : State) : desk (raise e s) = desk s := rfl
@[simp] theorem desk_countAgree (f : AgreementCounters → AgreementCounters) (s : State) :
    desk (countAgree f s) = desk s := rfl
@[simp] theorem desk_countCues (f : CueCounters → CueCounters) (s : State) : desk (countCues f s) = desk s := rfl
@[simp] theorem desk_updateEntry (n : Nat) (f : Entry → Entry) (s : State) : desk (updateEntry n f s) = desk s := rfl
@[simp] theorem desk_updateZone (f : ZoneLine → ZoneLine) (s : State) : desk (updateZone f s) = desk s := rfl
@[simp] theorem desk_countZone (f : LineCounters → LineCounters) (s : State) : desk (countZone f s) = desk s := rfl
@[simp] theorem desk_putLatch (l : Latch) (v : Bool) (s : State) : desk (putLatch l v s) = desk s := by
  unfold putLatch; split <;> rfl
@[simp] theorem desk_setLatch (l : Latch) (s : State) : desk (setLatch l s) = desk s := desk_putLatch l true s
@[simp] theorem desk_joinSlot (k : AnnouncementKind) (s : State) : desk (joinSlot k s) = desk s := by
  unfold joinSlot; split <;> rfl
@[simp] theorem desk_urgent (s : State) : desk (urgent s) = desk s := by
  unfold urgent; split
  · exact desk_joinSlot _ s
  · rfl
@[simp] theorem desk_reportStance (id : Nat) (o : Option Stance) (n : Stance) (s : State) :
    desk (reportStance id o n s) = desk s := rfl
@[simp] theorem desk_endSegment (s : State) : desk (endSegment s) = desk s := by
  unfold endSegment dropCapture; split <;> rfl
@[simp] theorem desk_protectSpot (x : Spot) (s : State) : desk (protectSpot x s) = desk s := by
  unfold protectSpot; split <;> rfl
@[simp] theorem desk_freezeSpot (x : Spot) (s : State) : desk (freezeSpot x s) = desk s := by
  unfold freezeSpot; split <;> rfl
@[simp] theorem desk_captureHead (x : SegmentHead) (s : State) : desk (captureHead x s) = desk s := by
  unfold captureHead; split <;> rfl
@[simp] theorem desk_takeHead (x : SegmentHead) (s : State) : desk (takeHead x s) = desk s := by
  unfold takeHead; split
  · rfl
  · split
    · rfl
    · have hlast : ∀ (b : Prop) [Decidable b] f, desk (if b then updateEntry x.spot.id f s else s) = desk s :=
        fun b _ f => by split <;> rfl
      dsimp only; split
      · exact hlast _ _
      · rw [desk_captureHead]; exact hlast _ _
@[simp] theorem desk_abortCheck (s : State) : desk (abortCheck s) = desk s := by
  rw [abortCheck_eq]; rfl
@[simp] theorem desk_removeCause (c : MuteCause) (s : State) : desk (removeCause c s) = desk s := by
  unfold removeCause; split <;> rfl
@[simp] theorem desk_passCurrent (s : State) : desk (passCurrent s) = desk s := by
  unfold passCurrent; split <;> rfl
@[simp] theorem desk_regrade (s : State) : desk (regrade s) = desk s := by
  unfold regrade; dsimp only; split <;> rfl
@[simp] theorem desk_startSchedule (second : Int) (s : State) : desk (startSchedule second s) = desk s := by
  unfold startSchedule; split <;> rfl
@[simp] theorem desk_lineTransition (level : Bool) (s : State) : desk (lineTransition level s) = desk s := by
  unfold lineTransition deferAttempt; dsimp only; (repeat' split) <;> simp
@[simp] theorem desk_breakMessage (s : State) : desk (breakMessage s) = desk s := by
  unfold breakMessage giveVerdict hunt; dsimp only; (repeat' split) <;> simp
@[simp] theorem desk_beginAttempt (c : SiteConfig) (k : AnnouncementKind) (a : Attempt) (s : State) :
    desk (beginAttempt c k a s) = desk s := rfl

/-! ### What is said of the desk alone -/

/-- A property that depends on the desk alone. -/
structure OfDesk (P : State → Prop) : Prop where
  of_eq : ∀ {s t : State}, desk t = desk s → P s → P t

variable {P : State → Prop}

theorem OfDesk.same (hd : OfDesk P) (h : P s) (ht : desk t = desk s := by rfl) : P t := hd.of_eq ht h

/-- A property that a change of the spot store alone and a raised event keep. -/
structure OffStore (P : State → Prop) : Prop where
  store : ∀ {s t : State}, t = { s with store := t.store } → P s → P t
  raise : ∀ (e : Event) {s : State}, P s → P (raise e s)

theorem OffStore.same (hd : OffStore P) (h : P s) (ht : t = { s with store := t.store } := by rfl) : P t := hd.store ht h

theorem OfDesk.offStore (hd : OfDesk P) : OffStore P where
  store := fun {s t} ht h => hd.of_eq (s := s) (by have hdesk := congrArg desk ht; exact hdesk) h
  raise := fun _ {_} h => hd.same h

theorem dropAssembly_store (id : Nat) (s : State) :
    dropAssembly id s = { s with store := (dropAssembly id s).store } := by
  unfold dropAssembly endSegment dropCapture; (repeat' split) <;> rfl

/-- A channel and the record of its break part: the first step of an unbind (R176). -/
def parted (k : Nat) (s : State) : State :=
  match s.chans.chan[k]? with
  | none => s
  | some c => updateRecord c.breakId (fun r => { r with channel := none }) (updateChan k Channel.unbound s)

theorem parted_some {k : Nat} {c : Channel} (hc : s.chans.chan[k]? = some c) :
    parted k s = updateRecord c.breakId (fun r => { r with channel := none }) (updateChan k Channel.unbound s) := by
  unfold parted; rw [hc]

theorem parted_none {k : Nat} (hc : s.chans.chan[k]? = none) : parted k s = s := by unfold parted; rw [hc]

section Notify

variable {notify : State → State} (hd : OffStore P) (hn : ∀ {s}, P s → P (notify s))
include hd hn

theorem OffStore.makeMissing (src : Option DamageSource) (id : Nat) (l : List Nat) (h : P s) :
    P (makeMissing notify src id l s) := by
  unfold Machine.makeMissing; split
  · exact h
  · cases src with
    | none => exact hn (hd.same h)
    | some _ => exact hn (hd.raise _ (hd.same h))
theorem OffStore.removeEntry (id : Nat) (h : P s) : P (removeEntry notify id s) := by
  cases he : s.store.entry? id with
  | none => rw [removeEntry_none he]; exact h
  | some e => rw [removeEntry_some he]; exact hn (hd.same (hd.store (dropAssembly_store id s) h))
theorem OffStore.tryExpire (id : Nat) (h : P s) : P (tryExpire notify id s) := by
  unfold Machine.tryExpire; split
  · exact h
  · split
    · exact hd.raise _ (OffStore.removeEntry hd hn id h)
    · exact h
theorem OffStore.releaseSpot (x : Spot) (h : P s) : P (releaseSpot notify x s) := by
  unfold Machine.releaseSpot; split
  · exact h
  · exact OffStore.tryExpire hd hn _ (hd.same h)
theorem OffStore.applyPending (src : Option DamageSource) (id : Nat) (h : P s) :
    P (applyPending notify src id s) := by
  unfold Machine.applyPending; split
  · exact h
  · split
    · exact h
    · exact OffStore.makeMissing hd hn _ _ _ (hd.same h)
theorem OffStore.unfreezeSpot (x : Spot) (h : P s) : P (unfreezeSpot notify x s) := by
  unfold Machine.unfreezeSpot; split
  · exact h
  · dsimp only; split
    · exact OffStore.tryExpire hd hn _ (OffStore.applyPending hd hn _ _ (hd.same h))
    · exact hd.same h
theorem OffStore.startCheck (h : P s) : P (startCheck notify s) := by
  unfold Machine.startCheck; split
  · split
    · exact hd.same h
    · exact hn (hd.same h)
  · exact h
theorem OffStore.storeFailure (id k : Nat) (h : P s) : P (storeFailure notify id k s) := by
  unfold Machine.storeFailure; split
  · exact h
  · split
    · split
      · exact h
      · exact hd.same h
    · exact OffStore.makeMissing hd hn _ _ _ h
theorem OffStore.releaseSpots (l : List Spot) (h : P s) : P (forEach (Machine.releaseSpot notify) l s) :=
  forEach_holds (fun x _ _ => OffStore.releaseSpot hd hn x) h

/-- An unbind (R176): what holds once the channel and its record are parted holds to the end. -/
theorem OffStore.unbindChannel (k : Nat) (h : P (parted k s)) : P (unbindChannel notify k s) := by
  unfold Machine.unbindChannel
  cases hc : s.chans.chan[k]? with
  | none => rw [parted_none hc] at h; exact h
  | some c =>
    rw [parted_some hc] at h
    have hparted := hn h
    dsimp only; split
    · exact hd.raise _ (OffStore.releaseSpots hd hn _
        (forEach_holds (fun x _ _ => OffStore.unfreezeSpot hd hn x) hparted))
    · exact hd.raise _ (OffStore.releaseSpots hd hn _ hparted)

end Notify

theorem OfDesk.forEachDesk {α : Type} {f : α → State → State} (hd : OfDesk P) (hf : ∀ a s, desk (f a s) = desk s)
    (l : List α) (h : P s) : P (forEach f l s) := forEach_holds (fun a _ _ hb => hd.of_eq (hf a _) hb) h

end Sys2Proof.Proofs
end

section
/-! SUPPORT. A property of the break table and the channels that every hand-off keeps is kept by the commands that reach
the two through the hand-offs alone. -/

namespace Sys2Proof.Proofs

open Sys2Proof Sys2Proof.Machine Sys2Proof.Laws

-- As in the tests: one theorem after another, within the memory that the check leaves for threads.
set_option Elab.async false

variable {s t : State} {P : State → Prop}

/-- What the other blocks do to the break table and the channels: they hand on a changed input, a frame pass, a gap, a
cell, a peer's message, the OVERRIDE line and the wrap of S, and a restart empties both. -/
structure Carried (P : State → Prop) : Prop where
  desk : OfDesk P
  refresh : ∀ {s}, P s → P (refresh s)
  framePass : ∀ p {s}, P s → P (framePass p s)
  gap : ∀ c {s}, P s → P (frameGapToChannels c s)
  passChannels : ∀ n c {s}, P s → P (passChannels n c s).2
  overrideChannels : ∀ {s}, P s → P (overrideChannels s)
  hearPeer : ∀ p a id {s}, P s → P (hearPeer p a id s)
  shift : ∀ k {s}, P s → P (s.shift k)
  reset : ∀ {s}, Proofs.desk s = ([], Channels.reset.chan) → P s

variable (w : Carried P)
include w

theorem Carried.same (h : P s) (ht : Proofs.desk t = Proofs.desk s := by rfl) : P t := w.desk.of_eq ht h

/-! ### The spot store -/

theorem Carried.createEntry (x : SegmentHead) (h : P s) : P (createEntry x s) := by
  unfold Machine.createEntry; split
  · exact w.desk.of_eq (desk_takeHead x _) (w.refresh (w.same h))
  · exact w.same h
theorem Carried.directoryHead (x : SegmentHead) (h : P s) : P (directoryHead x s) := by
  unfold Machine.directoryHead; split
  · exact w.createEntry x h
  · split
    · exact w.desk.of_eq (desk_takeHead x s) h
    · unfold newVersion; split
      · exact w.createEntry x (w.same (w.desk.offStore.removeEntry w.refresh _ h))
      · exact w.same h
theorem Carried.segmentHead (c : SiteConfig) (b : List Byte) (h : P s) : P (segmentHead c b s) := by
  have hended := w.desk.of_eq (desk_endSegment s) h
  unfold Machine.segmentHead; dsimp only; split
  · exact w.same hended
  · split
    · exact w.same hended
    · split
      · exact w.same hended
      · exact w.directoryHead _ hended
theorem Carried.completeSegment (g : SegmentInFlight) (page : Nat) (running check : Word32) (h : P s) :
    P (completeSegment g page running check s) := by
  unfold Machine.completeSegment holdSegment; dsimp only; split
  · split
    · exact w.same h
    · split
      · exact w.desk.offStore.startCheck w.refresh (w.refresh (w.same h))
      · exact w.same h
  · exact w.same h
theorem Carried.segmentBody (b : List Byte) (continuous : Bool) (h : P s) : P (segmentBody b continuous s) := by
  unfold Machine.segmentBody; split
  · exact w.same h
  · dsimp only; split <;> exact w.same h
  · split
    · dsimp only; split
      · exact w.completeSegment _ _ _ _ (w.same h)
      · exact w.same h
    · exact w.desk.of_eq (desk_endSegment s) h
theorem Carried.finishCheck (c : CheckInFlight) (h : P s) : P (finishCheck c s) := by
  have hjudged : ∀ e {u}, P u → P (judgeCheck e u) := fun e u hu => by
    unfold judgeCheck; dsimp only; split
    · split
      · exact w.refresh (w.same hu)
      · exact hu
    · exact w.desk.offStore.makeMissing w.refresh _ _ _ (w.same hu)
  unfold Machine.finishCheck; dsimp only; split
  · exact w.desk.offStore.startCheck w.refresh (w.same h)
  · exact w.desk.offStore.startCheck w.refresh (w.desk.offStore.tryExpire w.refresh _ (hjudged _ (w.same h)))
theorem Carried.expireAll (second : Int) (h : P s) : P (expireAll second s) := by
  refine forEach_holds (fun id _ u hu => ?_) h
  unfold expireEntry; split
  · exact hu
  · split
    · exact hu
    · split
      · exact w.same (w.desk.offStore.removeEntry w.refresh _ hu)
      · exact w.same hu
theorem Carried.restartStore (h : P s) : P (restartStore s) := by
  have hpurged : ∀ l {u}, P u → P (forEach (removeEntry Machine.refresh) l u) := fun l u hu =>
    forEach_holds (fun id _ _ => w.desk.offStore.removeEntry w.refresh id) hu
  have hdropped : P (dropHolds (abortCheck (endSegment s))) :=
    w.same (w.desk.of_eq (desk_abortCheck _) (w.desk.of_eq (desk_endSegment s) h))
  have hcounted : ∀ {u}, P u → P (recounted u) := fun hu => w.same hu
  have happlied := forEach_holds (l := (dropHolds (abortCheck (endSegment s))).store.ids)
    (fun id _ _ => w.desk.offStore.applyPending w.refresh none id) hdropped
  exact w.desk.offStore.startCheck w.refresh (hcounted (hpurged _ (hpurged _ happlied)))

/-! ### The emission controller -/

theorem Carried.urgent (h : P s) : P (urgent s) := w.desk.of_eq (desk_urgent s) h
theorem Carried.setLatch (l : Latch) (h : P s) : P (setLatch l s) := w.desk.of_eq (desk_setLatch l s) h
theorem Carried.changeEmission (new : EmissionState) (h : P s) : P (changeEmission new s) := by
  unfold Machine.changeEmission; exact w.urgent (w.refresh (w.same h))
theorem Carried.addCause (c : MuteCause) (h : P s) : P (addCause c s) := by
  unfold Machine.addCause; split
  · exact h
  · dsimp only; split
    · exact w.setLatch _ (w.changeEmission _ (w.desk.of_eq (desk_passCurrent _) (w.same h)))
    · exact w.same h
theorem Carried.removeCause (c : MuteCause) (h : P s) : P (removeCause c s) := w.desk.of_eq (desk_removeCause c s) h
theorem Carried.compareU (h : P s) : P (compareU s) := by
  unfold Machine.compareU; split
  · exact w.addCause _ h
  · exact w.removeCause _ h
theorem Carried.discardPassed (h : P s) : P (discardPassed s) := by
  unfold Machine.discardPassed; split
  · dsimp only; split
    · exact w.addCause _ (w.same h)
    · exact w.same h
  · exact h
theorem Carried.releaseCauses (h : P s) : P (releaseCauses s) := by
  have hreset := w.removeCause .starve h
  unfold Machine.releaseCauses; dsimp only; split
  · split
    · exact w.removeCause _ (w.same hreset)
    · exact w.same hreset
  · exact w.same hreset
theorem Carried.decideEmission (h : P s) : P (decideEmission s) := by
  unfold Machine.decideEmission; split
  · split
    · exact w.changeEmission _ h
    · exact h
  · split
    · exact w.changeEmission _ h
    · exact h
  · exact h
  · exact h
theorem Carried.handPass (r : FrameRecord) (d : Disposition) (h : P s) : P (handPass r d s) :=
  w.same (w.framePass _ h)
theorem Carried.judgePassPoint (h : P s) : P (judgePassPoint s) := by
  have hleft : ∀ n {u}, P u → P (leaveTable n u) := fun _ _ hu => w.same hu
  have hruns : ∀ n {u}, P u → P (runPasses n u) := fun n => by
    induction n with
    | zero => exact fun hu => hu
    | succ n ih =>
      intro u hu
      unfold runPasses; split
      · split
        · split
          · exact hu
          · exact ih (w.discardPassed (hleft _ (w.handPass _ _ hu)))
        · exact hu
      · exact hu
  exact hruns _ h
theorem Carried.paceCell (x : Time) (r : FrameRecord) (h : P s) : P (paceCell x r s) := by
  have hemitted : P (emitCell r s) :=
    w.desk.of_eq (desk_of_aside (aside_freeSlot _)) (w.same (w.passChannels r.number s.em.queue.front h))
  have hconsumed : P (consumeCell r s) := w.desk.of_eq (desk_of_aside ((aside_outputFiller _).trans (aside_freeSlot s))) h
  unfold Machine.paceCell; split
  · exact w.same h
  · split
    · exact w.desk.of_eq (desk_of_aside (aside_endIfDone _)) hemitted
    · exact w.desk.of_eq (desk_of_aside (aside_endIfDone _)) hconsumed
theorem Carried.releaseFrame (r : FrameRecord) (h : P s) : P (releaseFrame r s) := by
  have hdecided := w.decideEmission (w.releaseCauses (w.desk.of_eq (desk_of_aside (aside_cutCurrent s)) h))
  have hloaded : ∀ {u}, P u → P (loadStarve r.q u) := fun hu => by
    unfold loadStarve; split
    · exact w.same hu
    · exact hu
  have hmarked : ∀ {u}, P u → P (markReleased r.number u) := fun hu => by
    unfold markReleased; split <;> exact w.same hu
  have hpassed : ∀ {u}, P u → P (passReleased r.number u) := fun hu => by
    unfold passReleased; split
    · exact w.handPass _ _ hu
    · exact hu
  have hcurrent : ∀ {u}, P u → P (Machine.judgePassPoint (makeCurrent r u)) := fun hu => w.judgePassPoint (w.same hu)
  have hdone := hcurrent (hpassed (hmarked (w.judgePassPoint (hloaded hdecided))))
  unfold Machine.releaseFrame paceReleased; dsimp only
  split
  · split
    · exact w.desk.of_eq (desk_of_aside (aside_passOver _ _)) hdone
    · exact hdone
  · exact hdone

/-! ### Feed intake -/

theorem Carried.endShort (h : P s) : P (endShort s) := by
  unfold Machine.endShort; split
  · exact h
  · dsimp only; split
    · exact w.judgePassPoint (w.same h)
    · exact w.judgePassPoint (w.same (w.desk.of_eq (desk_of_aside (aside_shortRecord _ s)) h))
theorem Carried.completeFrame (n : Option Nat) (h : P s) : P (completeFrame n s) := by
  have hnumbered : ∀ r {u}, P u → P (checkNumbering r u) := fun r u hu => by
    unfold checkNumbering; dsimp only; split
    · exact w.same hu
    · split
      · exact w.same hu
      · exact w.same (w.gap r.c (s := countIntake (fun k => { k with gaps := bump k.gaps }) (Machine.raise _ u))
          (w.same hu))
  have hhanded : ∀ n {u}, P u → P (handCompletion n u) := fun n u hu => by
    unfold handCompletion; split
    · exact hu
    · split
      · exact hu
      · split
        · exact w.desk.of_eq (desk_of_aside (aside_discardAssembling _ _ u)) hu
        · exact w.same hu
  unfold Machine.completeFrame; dsimp only; split
  · exact w.same h
  · split
    · exact w.same h
    · exact w.judgePassPoint (hhanded _ (hnumbered _ (w.same h)))
theorem Carried.placeCell (k : CellSort) (c : Cell) (a : Assembly) (h : P s) : P (placeCell k c a s) := by
  have hplaced : P (placed k c a.record s) := w.desk.of_eq (desk_of_aside (aside_placed k c a.record s)) h
  by_cases hlast : a.remaining ≤ 1
  · rw [placeCell_last hlast]; exact w.completeFrame _ hplaced
  · rw [placeCell_more (by omega)]; exact w.same hplaced
theorem Carried.takeFrameHead (c : SiteConfig) (x : FrameHead) (cell : Cell) (h : P s) :
    P (takeFrameHead c x cell s) := by
  have hended := w.endShort h
  unfold Machine.takeFrameHead; dsimp only; split
  · exact w.same hended
  · exact w.same hended
  · exact w.desk.of_eq (desk_of_aside (aside_storeFrameCell x.number cell _)) (w.same hended)
theorem Carried.malformedHead (h : P s) : P (malformedHead s) := w.endShort (w.same h)
theorem Carried.loseFeed (h : P s) : P (loseFeed s) := by
  have hlost : P { s with intake := { s.intake with feed := .lost, lossTimer := none } } := w.same h
  have hended : P (dropExpectations (Machine.endShort
      { s with intake := { s.intake with feed := .lost, lossTimer := none } })) := w.same (w.endShort hlost)
  exact w.same (w.desk.of_eq (desk_endSegment _) hended)

/-- A good cell (R24 to R28): a cue is the cue decoder's, in a state whose table and channels are still those before. -/
theorem Carried.goodCell (cell : Cell) (hcue : ∀ c b x {u}, Proofs.desk u = Proofs.desk s → P (cueTaken c b x u))
    (h : P s) : P (goodCell cell s) := by
  have hhanded : ∀ c k continuous {u}, Proofs.desk u = Proofs.desk s → P (handCell c k cell continuous u) :=
    fun c k continuous u hu => by
      cases k with
      | filler | programme => exact w.desk.of_eq hu h
      | cue => exact hcue _ _ _ hu
      | segmentHead => exact w.segmentHead _ _ (w.desk.of_eq hu h)
      | segmentBody => exact w.segmentBody _ _ (w.desk.of_eq hu h)
      | misfit => exact w.desk.of_eq hu h
  unfold Machine.goodCell; split
  · exact w.same h
  · dsimp only; split
    · unfold runningCell bodyCell; dsimp only; split
      · split
        · exact w.takeFrameHead _ _ _ (w.same h)
        · exact w.malformedHead (w.same h)
      · split
        · exact w.same h
        · exact w.placeCell _ _ _ (hhanded _ _ _ rfl)
    · unfold lostCell resumeFeed; dsimp only; split
      · split
        · exact w.takeFrameHead _ _ _ (w.same h)
        · exact w.same (w.malformedHead (s := trackContinuity cell s) (w.same h))
      · exact w.same h

/-! ### The time base -/

theorem Carried.wrapTime (h : P s) : P s.wrapTime := by
  unfold State.wrapTime; split
  · exact w.shift _ h
  · split
    · exact w.shift _ h
    · exact h
theorem Carried.tick (h : P s) : P (tick s) :=
  w.wrapTime (s := { s with osc := s.osc + 1, tb := s.tb.tick }) (w.same h)
theorem Carried.settleTime (before : TimeBase) (h : P s) : P (settleTime before s) := by
  have hlatch : ∀ {u}, P u → P (if timeCause before u.tb then Machine.setLatch .time u else u) := fun hu => by
    split
    · exact w.setLatch _ hu
    · exact hu
  have hcompare : ∀ {u}, P u → P (if u.tb.u = before.u then u else Machine.compareU u) := fun hu => by
    split
    · exact hu
    · exact w.compareU hu
  have hrefresh : ∀ {u}, P u → P (if u.tb.grade = before.grade then u else Machine.refresh (Machine.urgent u)) :=
    fun hu => by
      split
      · exact hu
      · exact w.refresh (w.urgent hu)
  exact hrefresh (hcompare (hlatch (w.desk.of_eq (desk_regrade _) (w.same h))))
theorem Carried.boundary (h : P s) : P (boundary s) := by
  have hgrown : ∀ {u}, P u → P (growHoldover u) := fun hu => by
    unfold growHoldover; split
    · exact w.settleTime _ (w.same hu)
    · exact hu
  unfold Machine.boundary; split
  · have hgrew := fun second (u : State) hu => hgrown (w.desk.of_eq (desk_startSchedule second _)
      (w.expireAll second (s := u) hu))
    exact w.same (hgrew (secondOf s.tb.now) (updateTime (fun t => { t with announced := some (secondOf s.tb.now) }) s)
      (w.same h))
  · exact h
theorem Carried.replaceTime (new : Time) (h : P s) : P (replaceTime new s) :=
  w.wrapTime (w.desk.of_eq (desk_of_aside (aside_stepPacing _ _ _)) (w.same h))
theorem Carried.raised (e : Event) (h : P s) : P (raise e s) := w.same h
theorem Carried.timeChanged (f : TimeBase → TimeBase) (h : P s) : P (updateTime f s) := w.same h
theorem Carried.stepTime (label : Nat) (h : P s) : P (stepTime label s) :=
  w.raised _ (w.timeChanged _ (w.replaceTime _ h))
theorem Carried.moveDiscipline (new : Discipline) (h : P s) : P (moveDiscipline new s) := w.raised _ (w.timeChanged _ h)
theorem Carried.enterAcquire (label : Nat) (h : P s) : P (enterAcquire label s) :=
  w.moveDiscipline _ (w.timeChanged _ (w.stepTime label h))
theorem Carried.disciplineMark (label : Nat) (h : P s) : P (disciplineMark label s) := by
  unfold Machine.disciplineMark; dsimp only; split
  · exact w.moveDiscipline _ (w.timeChanged _ (w.replaceTime _ h))
  · next hdisc =>
    by_cases he : 10 < (phaseError s.tb.now label).natAbs
    · rw [acquireMark_step he]; exact w.timeChanged _ (w.stepTime label h)
    · by_cases hrun : s.tb.acquireRun = 7
      · rw [acquireMark_track (Nat.not_lt.1 he) label hrun]; exact w.same h
      · rw [acquireMark_run (Nat.not_lt.1 he) label hrun]; exact w.same h
  · have hmarked : ∀ n f, P (if n = 3 then Machine.enterAcquire label s else updateTime f s) := fun n f => by
      split
      · exact w.enterAcquire label h
      · exact w.same h
    exact hmarked _ _
  · unfold holdoverMark; split
    · exact w.same h
    · exact w.enterAcquire label h
theorem Carried.takeMark (r : Ref) (label : Nat) (h : P s) : P (takeMark r label s) := by
  have hsettled := fun f b => w.settleTime b (s := updateTime f (Machine.disciplineMark label s))
    (w.same (w.disciplineMark label h))
  unfold Machine.takeMark; dsimp only; split
  · split
    · exact w.boundary (w.same (hsettled _ _))
    · exact w.boundary (hsettled _ _)
  · exact h
theorem Carried.reselect (h : P s) : P (reselect s) := by
  have hanswered : ∀ new {u}, P u → P (answerSelection new u) := fun new u hu => by
    unfold answerSelection; split
    · split <;> exact w.same hu
    all_goals exact w.same hu
  unfold Machine.reselect; dsimp only; split
  · exact h
  · exact w.settleTime _ (hanswered _ (w.same h))
theorem Carried.giveMarkVerdict (r : Ref) (v : Verdict) (h : P s) : P (giveMarkVerdict r v s) := by
  unfold Machine.giveMarkVerdict validityChanged; dsimp only; split
  · exact w.same h
  · exact w.reselect (w.same h)
theorem Carried.markArrives (r : Ref) (h : P s) : P (markArrives r s) := by
  have hjudged := fun v => w.giveMarkVerdict r v (s := updateRef r (marked s.tb) s) (w.same h)
  unfold Machine.markArrives; dsimp only; rw [recordMark_eq]; split
  · exact w.takeMark _ _ (hjudged _)
  · exact hjudged _

/-! ### Site control -/

theorem Carried.raiseAll (l : List Event) (h : P s) : P (raiseAll l s) := w.desk.forEachDesk desk_raise l h
theorem Carried.loadFault (cause : LoadFault) (h : P s) : P (loadFault cause s) := by
  unfold Machine.loadFault
  exact w.setLatch _ (w.changeEmission _ (w.setLatch _ (w.same h)))
theorem Carried.loadRecord (record : List Byte) (h : P s) : P (loadRecord record s) := by
  have hunfit : ∀ r was {u}, P u → P (unfitRef r was u) := fun r was u hu => by
    unfold unfitRef; dsimp only; split
    · split <;> exact w.same hu
    · exact hu
  have hfit : ∀ r was {u}, P u → P (fitRef r was u) := fun r was u hu => by
    unfold fitRef; split
    · exact w.same hu
    · exact hu
  have htaken : ∀ c a b {u}, P u → P (takeUp c a b u) := fun c a b u hu => by
    have hroster : P (takeRoster c (enableReceiver u)) := w.same hu
    have hcompared := w.compareU (w.reselect (hfit .b b (hfit .a a (hunfit .b b (hunfit .a a hroster)))))
    exact w.desk.of_eq (desk_of_aside (aside_checkLow _)) (w.desk.of_eq (desk_of_aside (aside_checkHigh _)) hcompared)
  unfold Machine.loadRecord; split
  · exact htaken _ _ _ (w.same (w.raiseAll _ h))
  · exact w.loadFault _ (w.raiseAll _ h)
theorem Carried.restartBlocks (s : State) : P (restartBlocks s) := by
  have hstore := w.restartStore (w.reset (s := blanked s) rfl)
  rw [restartBlocks_eq]
  generalize Machine.restartStore (blanked s) = u at hstore ⊢
  exact w.same hstore

/-! ### The roster -/

theorem Carried.peerMessage (c : SiteConfig) (a : Announcement) (x : Time) (h : P s) : P (peerMessage c a x s) := by
  unfold Machine.peerMessage; split
  · exact h
  · refine forEach_holds (fun id _ _ => w.hearPeer _ a id) ?_
    split <;> exact w.same h
theorem Carried.takeMessage (c : SiteConfig) (b : List Byte) (x : Time) (echo : Bool) (h : P s) :
    P (takeMessage c b x echo s) := by
  have hduplicate : P (duplicateHeard x s) := by
    unfold duplicateHeard; dsimp only; split
    · exact w.same h
    · exact w.refresh (w.urgent (w.setLatch _ (w.same h)))
  unfold Machine.takeMessage sortMessage; split
  · split
    · exact w.same h
    · split
      · split
        · exact w.same h
        · exact hduplicate
      · split
        · exact w.peerMessage _ _ _ h
        · exact w.same h
  · exact w.same h
theorem Carried.endMessage (c : SiteConfig) (b : List Byte) (x : Time) (echo : Bool) (h : P s) :
    P (endMessage c b x echo s) := by
  have hdiscarded : ∀ {u}, P u → P (discardMessage echo u) := fun hu => by
    unfold discardMessage; split
    · exact w.same hu
    · exact hu
  unfold Machine.endMessage; dsimp only; split
  · exact hdiscarded (w.same h)
  · split
    · exact hdiscarded (w.same h)
    · refine w.takeMessage _ _ _ _ ?_
      split <;> exact w.same h

end Sys2Proof.Proofs
end

section
/-! SUPPORT. The commands that reach the break table and the channels through the hand-offs alone. -/

namespace Sys2Proof.Proofs

open Sys2Proof Sys2Proof.Machine Sys2Proof.Laws

-- As in the tests: one theorem after another, within the memory that the check leaves for threads.
set_option Elab.async false

variable {s t : State} {P : State → Prop}

/-- The commands that carry out an instant of a break record. -/
def ofRecord : Instr → Bool
  | .decisionInstant => true
  | .lockInstant _ => true
  | .endInstant _ => true
  | .removalInstant _ => true
  | .watchOpen _ => true
  | .watchClose _ => true
  | _ => false

/-- Each other command keeps what the hand-offs keep; a cue comes in while the desk is the one before the command. -/
theorem Carried.exec (w : Carried P) {c : Instr} (hc : ofRecord c = false)
    (hcue : ∀ c b x {u}, Proofs.desk u = Proofs.desk s → P (cueTaken c b x u)) (h : P s) (hexec : exec c s = .next t) :
    P t := by
  cases c with
  | powerOnReset => rw [next_inj hexec]; exact w.reset rfl
  | restart =>
    rw [next_inj hexec]; split
    · exact h
    · dsimp only; split
      · exact w.same h
      · exact w.restartBlocks _
  | loadStart =>
    rw [next_inj hexec]; split
    · exact h
    · unfold startRead; split <;> exact w.same h
  | configReadComplete record =>
    simp only [Machine.exec, execConfigReadComplete] at hexec
    split at hexec
    · rw [next_inj hexec]; split
      · exact w.loadRecord record h
      · exact h
    · cases hexec
  | noRecord firstByte =>
    rw [next_inj hexec]; split
    · exact w.loadFault _ h
    · exact h
  | inhibitChange active =>
    have hraised : ∀ f, P (raise (.siteLine .inhibit active) (updateControl f s)) := fun _ => w.same h
    rw [next_inj hexec]; split
    · exact h
    · dsimp only; split
      · exact w.addCause _ (hraised _)
      · exact w.removeCause _ (hraised _)
  | overrideChange active =>
    have hraised : ∀ f, P (raise (.siteLine .override active) (updateControl f s)) := fun _ => w.same h
    rw [next_inj hexec]; split
    · exact h
    · dsimp only; split
      · exact w.overrideChannels (w.urgent (w.refresh (hraised _)))
      · exact w.urgent (w.refresh (hraised _))
  | latchClear =>
    rw [next_inj hexec]; split
    · exact h
    · refine forEach_holds (fun l _ u hu => ?_) (w.same h)
      unfold judgeLatch; split
      · exact w.desk.of_eq (desk_putLatch _ _ _) hu
      · exact hu
  | latchClearRelease =>
    rw [next_inj hexec]; split
    · exact w.same h
    · exact h
  | labelRecord r record =>
    simp only [Machine.exec, execLabelRecord] at hexec
    split at hexec
    · rw [next_inj hexec]; split
      · exact w.same h
      · exact h
    · cases hexec
  | markArrival r =>
    rw [next_inj hexec]; split
    · exact w.markArrives r h
    · exact h
  | missingVerdict r =>
    rw [next_inj hexec]; split
    · exact w.giveMarkVerdict _ _ (w.same h)
    · exact h
  | secondBoundary => rw [next_inj hexec]; exact w.boundary h
  | reportSpanExpiry =>
    rw [next_inj hexec]; split
    · exact w.same h
    · exact h
  | runtCell => rw [next_inj hexec]; exact w.same h
  | cellTaken cell =>
    simp only [Machine.exec, execCellTaken] at hexec
    split at hexec
    · rw [next_inj hexec]; split
      · exact w.goodCell cell hcue (w.same h)
      · exact w.same h
    · cases hexec
  | feedLoss =>
    rw [next_inj hexec]; split
    · exact w.loseFeed h
    · exact h
  | assemblingLate =>
    rw [next_inj hexec]
    cases lateFrame s with
    | none => exact h
    | some r => exact w.judgePassPoint (w.desk.of_eq (desk_of_aside (aside_discardAssembling _ _ s)) h)
  | frameRelease =>
    rw [next_inj hexec]
    cases releaseDue s with
    | none => exact h
    | some r => exact w.releaseFrame r h
  | cellInstant =>
    rw [next_inj hexec]; split
    · exact w.same (w.paceCell _ _ h)
    · exact h
  | fillerInstant =>
    rw [next_inj hexec]; split
    · split
      · exact w.same h
      · exact w.same (w.desk.of_eq (desk_of_aside (aside_outputFiller s)) h)
    · exact h
  | starveExpiry =>
    rw [next_inj hexec]; split
    · exact w.addCause _ (w.same h)
    · exact h
  | transferEnd =>
    rw [next_inj hexec]; split
    · exact w.same h
    · exact h
  | checkComplete =>
    rw [next_inj hexec]; split
    · exact w.finishCheck _ h
    · exact h
  | decisionInstant | lockInstant id | endInstant id | removalInstant id | watchOpen id | watchClose id => cases hc
  | attemptStart =>
    rw [next_inj hexec]; split
    · exact w.desk.of_eq (desk_beginAttempt _ _ _ s) h
    · exact h
  | deferral level =>
    rw [next_inj hexec]; split
    · exact w.desk.of_eq (desk_lineTransition _ s) h
    · exact h
  | echoWindowOpen =>
    rw [next_inj hexec]; split
    · exact w.same h
    · exact h
  | echoWindowClose =>
    rw [next_inj hexec]; split
    · dsimp only; split <;> exact w.same h
    · exact h
  | attemptEnd =>
    rw [next_inj hexec]; split
    · exact w.same h
    · next f _ => cases f.attempt <;> exact w.same h
    · exact h
  | retryStart =>
    rw [next_inj hexec]; split
    · unfold retryKind; split <;> exact w.same h
    · exact h
  | lineIdle =>
    rw [next_inj hexec]; split
    · exact w.desk.of_eq (desk_breakMessage _) (w.same h)
    · exact h
  | periodicDue =>
    rw [next_inj hexec]; split
    · exact w.same (w.desk.of_eq (desk_joinSlot _ s) h)
    · exact h
  | zoneMessage bytes =>
    simp only [Machine.exec, execZoneMessage] at hexec
    split at hexec
    · rw [next_inj hexec]; split
      · exact w.endMessage _ _ _ _ h
      · exact h
    · cases hexec
  | messageBroken => rw [next_inj hexec]; exact w.desk.of_eq (desk_breakMessage s) h
  | silenceTimerExpiry site =>
    rw [next_inj hexec]; split
    · exact w.same h
    · exact h
  | monitorRecordEnd =>
    rw [next_inj hexec]; split
    · exact w.same h
    · exact h
  | lineBusy level =>
    rw [next_inj hexec]; split
    · exact h
    · exact w.desk.of_eq (desk_lineTransition _ s) h
  | openingMark high =>
    have hlow : P (if s.zone.rxLevel then lineTransition false s else s) := by
      split
      · exact w.desk.of_eq (desk_lineTransition _ s) h
      · exact h
    have hopened : ∀ {u}, P u → P (if isOpeningMark high = true ∧ u.zone.receiver ≠ .off
        then enterMessage (u.tb.now - high) (breakMessage u) else u) := fun {u} hu => by
      split
      · exact w.same (w.desk.of_eq (desk_breakMessage u) hu)
      · exact hu
    rw [next_inj hexec]; exact hopened hlow

end Sys2Proof.Proofs
end

section
/-! SUPPORT. Break records by their id: what each elementary operation makes of the record of a break id. -/

namespace Sys2Proof.Proofs

open Sys2Proof Sys2Proof.Machine Sys2Proof.Laws

-- As in the tests: one theorem after another, within the memory that the check leaves for threads.
set_option Elab.async false

variable {s t : State} {id n : Nat} {r : BreakRecord}

theorem record?_id (h : s.record? id = some r) : r.id = id := by
  simpa using List.find?_some h

theorem record?_mem (h : s.record? id = some r) : r ∈ s.cues.table := List.mem_of_find?_eq_some h

theorem record?_of_table (h : t.cues.table = s.cues.table) (id : Nat) : t.record? id = s.record? id := by
  unfold State.record?; rw [h]

theorem record?_of_desk (h : desk t = desk s) (id : Nat) : t.record? id = s.record? id :=
  record?_of_table (table_of_desk h) id

@[simp] theorem record?_raise (e : Event) (s : State) (id : Nat) : (raise e s).record? id = s.record? id := rfl
@[simp] theorem record?_urgent (s : State) (id : Nat) : (urgent s).record? id = s.record? id :=
  record?_of_desk (desk_urgent s) id
@[simp] theorem record?_setLatch (l : Latch) (s : State) (id : Nat) : (setLatch l s).record? id = s.record? id :=
  record?_of_desk (desk_setLatch l s) id
@[simp] theorem record?_countAgree (f : AgreementCounters → AgreementCounters) (s : State) (id : Nat) :
    (countAgree f s).record? id = s.record? id := rfl
@[simp] theorem record?_countCues (f : CueCounters → CueCounters) (s : State) (id : Nat) :
    (countCues f s).record? id = s.record? id := rfl
@[simp] theorem record?_reportStance (x : Nat) (o : Option Stance) (v : Stance) (s : State) (id : Nat) :
    (reportStance x o v s).record? id = s.record? id := rfl

/-- The records of a table in which the records of one id have changed. -/
theorem record?_updateRecord {f : BreakRecord → BreakRecord} (hf : ∀ x, (f x).id = x.id) (n id : Nat) (s : State) :
    (updateRecord n f s).record? id = (s.record? id).map fun x => if id = n then f x else x := by
  have hkeeps : (fun x : BreakRecord => x.id == id) ∘ (fun x => if x.id == n then f x else x) = fun x => x.id == id := by
    funext x; simp only [Function.comp]; split <;> simp [hf]
  have hfind : (updateRecord n f s).record? id
      = (s.record? id).map fun x => if x.id == n then f x else x := by
    unfold State.record? updateRecord updateWhere
    rw [List.find?_map, hkeeps]
  rw [hfind]
  cases hr : s.record? id with
  | none => rfl
  | some x => simp [record?_id hr]

theorem record?_updateRecord_same {f : BreakRecord → BreakRecord} (hf : ∀ x, (f x).id = x.id)
    (h : s.record? id = some r) : (updateRecord id f s).record? id = some (f r) := by
  rw [record?_updateRecord hf, h]; simp

theorem record?_updateRecord_other {f : BreakRecord → BreakRecord} (hf : ∀ x, (f x).id = x.id) (hn : id ≠ n)
    (s : State) : (updateRecord n f s).record? id = s.record? id := by
  rw [record?_updateRecord hf]; simp [hn]

/-- A record that leaves the table, by itself (R100). -/
def dropRecord (id : Nat) (s : State) : State :=
  { s with cues := { s.cues with table := s.cues.table.filter fun x => x.id != id } }

theorem record?_dropRecord_same (id : Nat) (s : State) : (dropRecord id s).record? id = none :=
  List.find?_eq_none.2 fun x hx => by
    have := (List.mem_filter.1 hx).2
    simpa using this

theorem record?_dropRecord_other (hn : id ≠ n) (s : State) : (dropRecord n s).record? id = s.record? id := by
  unfold State.record? dropRecord; rw [List.find?_filter]
  congr 1; funext x
  by_cases hx : x.id = id
  · simp [hx, hn]
  · simp [hx]

theorem breakIds_dropRecord (id : Nat) (s : State) :
    (dropRecord id s).breakIds = s.breakIds.filter fun n => n != id := by
  unfold State.breakIds dropRecord; rw [List.filter_map]; rfl

/-- With no two records of one id, each record is the one its id finds (R90). -/
theorem record?_of_mem (hn : s.breakIds.Nodup) (hr : r ∈ s.cues.table) : s.record? r.id = some r := by
  cases h : s.record? r.id with
  | none => exact absurd (List.find?_eq_none.1 h r hr) (by simp)
  | some x =>
    exact congrArg some (List.inj_on_of_nodup_map hn (record?_mem h) hr (record?_id h))

theorem record?_isSome_iff : (s.record? id).isSome = true ↔ id ∈ s.breakIds := by
  unfold State.record? State.breakIds
  simp [List.find?_isSome, List.mem_map]

/-! ### Moves of a record -/

theorem moveState_none (h : s.record? id = none) (new : BreakState) : moveState id new s = s := by
  unfold moveState; rw [h]

theorem moveState_some (h : s.record? id = some r) (new : BreakState) : moveState id new s
    = raise (.breakState id r.state new) (updateRecord id (fun x => { x with state := new }) s) := by
  unfold moveState; rw [h]

theorem record?_moveState_same (h : s.record? id = some r) (new : BreakState) :
    (moveState id new s).record? id = some { r with state := new } := by
  rw [moveState_some h]; exact record?_updateRecord_same (f := fun x => { x with state := new }) (fun _ => rfl) h

theorem record?_moveState_other (hn : id ≠ n) (new : BreakState) (s : State) :
    (moveState n new s).record? id = s.record? id := by
  cases h : s.record? n with
  | none => rw [moveState_none h]
  | some x =>
    rw [moveState_some h]
    exact record?_updateRecord_other (f := fun x => { x with state := new }) (fun _ => rfl) hn s

end Sys2Proof.Proofs
end

section
/-! SUPPORT. The law of the break table, and the breaks that never go on (R90, R149), under the operations of the break
table, the agreement unit and the channels. -/

namespace Sys2Proof.Proofs

open Sys2Proof Sys2Proof.Machine Sys2Proof.Laws

-- As in the tests: one theorem after another, within the memory that the check leaves for threads.
set_option Elab.async false

variable {s t : State}

/-! ### The law of the break table -/

/-- What the law of the break table is about. -/
def placeOf (r : BreakRecord) : Nat × Nat × Time × Time := (r.id, r.tag, r.cOut, r.cIn)

/-- The law holds of fewer records. -/
theorem breakTableLaw_of_sublist (h : BreakTableLaw s)
    (hsub : (t.cues.table.map placeOf).Sublist (s.cues.table.map placeOf)) : BreakTableLaw t := by
  obtain ⟨hsize, hids, hnonzero, hdisjoint⟩ := h
  have hplaced : ∀ l : List BreakRecord, l.map BreakRecord.id = (l.map placeOf).map Prod.fst := fun l => by
    simp [placeOf]
  have happart : ∀ l : List BreakRecord,
      (l.Pairwise fun a b => a.tag = b.tag → intersects a.cOut a.cIn b.cOut b.cIn = false) ↔
      (l.map placeOf).Pairwise fun a b =>
        a.2.1 = b.2.1 → intersects a.2.2.1 a.2.2.2 b.2.2.1 b.2.2.2 = false := fun l =>
    (List.pairwise_map (f := placeOf) (R := fun a b =>
      a.2.1 = b.2.1 → intersects a.2.2.1 a.2.2.2 b.2.2.1 b.2.2.2 = false)).symm
  refine ⟨?_, ?_, fun r hr => ?_, ?_⟩
  · have := hsub.length_le
    simp only [List.length_map] at this
    omega
  · rw [hplaced] at hids ⊢; exact hids.sublist (hsub.map _)
  · obtain ⟨x, hx, he⟩ := List.mem_map.1 (hsub.subset (List.mem_map_of_mem (f := placeOf) hr))
    rw [← show x.id = r.id from congrArg Prod.fst he]; exact hnonzero x hx
  · rw [happart] at hdisjoint ⊢; exact hdisjoint.sublist hsub

theorem breakTableLaw_of_table (h : BreakTableLaw s) (ht : t.cues.table = s.cues.table) : BreakTableLaw t :=
  breakTableLaw_of_sublist h (by rw [ht])

theorem breakTableLaw_updateRecord {f : BreakRecord → BreakRecord} (hf : ∀ x, placeOf (f x) = placeOf x) (id : Nat)
    (h : BreakTableLaw s) : BreakTableLaw (updateRecord id f s) := by
  refine breakTableLaw_of_sublist h ?_
  rw [show (updateRecord id f s).cues.table.map placeOf = s.cues.table.map placeOf from
    map_updateWhere placeOf _ f hf s.cues.table]

theorem breakTableLaw_dropRecord (id : Nat) (h : BreakTableLaw s) : BreakTableLaw (dropRecord id s) :=
  breakTableLaw_of_sublist h (List.filter_sublist.map _)

/-- Two intervals that move together intersect as before. -/
theorem intersects_shift (k a b c d : Int) :
    intersects (shiftTime k a) (shiftTime k b) (shiftTime k c) (shiftTime k d) = intersects a b c d := by
  simp [intersects, shiftTime]

theorem breakTableLaw_shift (k : Int) (h : BreakTableLaw s) : BreakTableLaw (s.shift k) := by
  obtain ⟨hsize, hids, hnonzero, hdisjoint⟩ := h
  have htable : (s.shift k).cues.table = s.cues.table.map (BreakRecord.shift k) := rfl
  refine ⟨?_, ?_, ?_, ?_⟩
  · rw [htable, List.length_map]; exact hsize
  · rw [htable, List.map_map]; exact hids
  · rw [htable]; exact List.forall_mem_map.2 hnonzero
  · rw [htable, List.pairwise_map]
    exact hdisjoint.imp fun {a b} hab htag =>
      (intersects_shift k a.cOut a.cIn b.cOut b.cIn).trans (hab htag)

/-! ### Breaks that do not go on -/

/-- The states that a held break may reach: held, or over (R94, R95, R149). -/
def isShut (x : BreakState) : Bool := x.held || x.over

/-- From `s`, the law of the break table holds, and a break that was held or over still is, if it is in the table. -/
structure Follows (s t : State) : Prop where
  law : BreakTableLaw t
  shut : ∀ {id r r'}, s.record? id = some r → isShut r.state = true → t.record? id = some r' → isShut r'.state = true

theorem Follows.refl (h : BreakTableLaw s) : Follows s s := ⟨h, fun hr hs hr' => by
  rw [hr] at hr'; rw [← Option.some.inj hr']; exact hs⟩

theorem Follows.of_table {u : State} (h : Follows s t) (hu : u.cues.table = t.cues.table := by rfl) : Follows s u :=
  ⟨breakTableLaw_of_table h.law hu, fun hr hs hr' => h.shut hr hs (by rw [← hr', record?_of_table hu])⟩

theorem followsOfDesk (s : State) : OfDesk (Follows s) := ⟨fun ht h => h.of_table (table_of_desk ht)⟩

/-- A change of a record that the law allows and that does not open what is shut. -/
theorem Follows.changeRecord {id : Nat} {f : BreakRecord → BreakRecord} (h : Follows s t)
    (hlaw : BreakTableLaw (Machine.updateRecord id f t)) (hid : ∀ x, (f x).id = x.id)
    (hshut : ∀ x, t.record? id = some x → isShut x.state = true → isShut (f x).state = true) :
    Follows s (Machine.updateRecord id f t) := by
  refine ⟨hlaw, fun {n r r'} hr hs hr' => ?_⟩
  rw [record?_updateRecord hid] at hr'
  obtain ⟨x, hx, rfl⟩ := Option.map_eq_some_iff.1 hr'
  split
  · next hn => exact hshut x (hn ▸ hx) (h.shut hr hs hx)
  · exact h.shut hr hs hx

/-- A change of a record that leaves its place and does not open what is shut. -/
theorem Follows.updateRecord (id : Nat) {f : BreakRecord → BreakRecord} (h : Follows s t)
    (hplace : ∀ x, placeOf (f x) = placeOf x := by exact fun _ => rfl)
    (hshut : ∀ x, t.record? id = some x → isShut x.state = true → isShut (f x).state = true
      := by exact fun _ _ hx => hx) : Follows s (updateRecord id f t) :=
  h.changeRecord (breakTableLaw_updateRecord hplace id h.law) (fun x => congrArg Prod.fst (hplace x)) hshut

theorem Follows.dropRecord (id : Nat) (h : Follows s t) : Follows s (Proofs.dropRecord id t) := by
  refine ⟨breakTableLaw_dropRecord id h.law, fun {n r r'} hr hs hr' => ?_⟩
  by_cases hn : n = id
  · rw [hn, record?_dropRecord_same] at hr'; cases hr'
  · rw [record?_dropRecord_other hn] at hr'; exact h.shut hr hs hr'

theorem Follows.shift (k : Int) (h : Follows s t) : Follows s (t.shift k) := by
  refine ⟨breakTableLaw_shift k h.law, fun {n r r'} hr hs hr' => ?_⟩
  have hfind : (t.shift k).record? n = (t.record? n).map (BreakRecord.shift k) := by
    unfold State.record?
    exact List.find?_map ..
  rw [hfind] at hr'
  obtain ⟨x, hx, rfl⟩ := Option.map_eq_some_iff.1 hr'
  have hshut := h.shut hr hs hx
  exact hshut

theorem Follows.reset {u : State} (hu : u.cues.table = []) : Follows s u := by
  refine ⟨breakTableLaw_of_table breakTableLaw_reset (hu.trans rfl), fun {n r r'} _ _ hr' => ?_⟩
  rw [State.record?, hu] at hr'; cases hr'

/-! ### The agreement unit -/

theorem Follows.raise (e : Event) (h : Follows s t) : Follows s (raise e t) := h.of_table
theorem Follows.countAgree (f : AgreementCounters → AgreementCounters) (h : Follows s t) :
    Follows s (countAgree f t) := h.of_table
theorem Follows.reportStance (id : Nat) (o : Option Stance) (n : Stance) (h : Follows s t) :
    Follows s (reportStance id o n t) := h.of_table
theorem Follows.urgent (h : Follows s t) : Follows s (urgent t) := (followsOfDesk s).of_eq (desk_urgent t) h
theorem Follows.setLatch (l : Latch) (h : Follows s t) : Follows s (setLatch l t) :=
  (followsOfDesk s).of_eq (desk_setLatch l t) h
theorem Follows.setStance (id : Nat) (n : Stance) (h : Follows s t) : Follows s (setStance id n t) := by
  unfold Machine.setStance; split
  · exact h
  · split
    · exact h
    · exact Follows.reportStance _ _ _ (Follows.urgent (h.updateRecord id))
theorem Follows.refreshRecord (id : Nat) (h : Follows s t) : Follows s (refreshRecord id t) := by
  unfold Machine.refreshRecord; split
  · exact h
  · split
    · exact h.setStance _ _
    · exact h
theorem Follows.refreshOpen (h : Follows s t) : Follows s (refreshOpen t) :=
  forEach_holds (fun id _ _ => Follows.refreshRecord id) h
theorem Follows.moveState (id : Nat) (new : BreakState) (h : Follows s t)
    (hnew : ∀ r, t.record? id = some r → isShut r.state = true → isShut new = true) : Follows s (moveState id new t) := by
  cases hr : t.record? id with
  | none => rw [moveState_none hr]; exact h
  | some r =>
    rw [moveState_some hr]
    exact Follows.raise _ (h.updateRecord id (f := fun x => { x with state := new }) (hshut := hnew))
theorem Follows.unbindChannel {notify : State → State} (hn : ∀ {t}, Follows s t → Follows s (notify t)) (k : Nat)
    (h : Follows s t) : Follows s (unbindChannel notify k t) := by
  refine (followsOfDesk s).offStore.unbindChannel hn k ?_
  unfold parted; split
  · exact h
  · next c _ =>
    have hchan : Follows s (updateChan k Channel.unbound t) := h.of_table
    exact hchan.updateRecord c.breakId
theorem Follows.holdRecord (id : Nat) (reason : HoldReason) (h : Follows s t) :
    Follows s (holdRecord id reason t) := by
  have hunbound : ∀ (k : Option Nat) {u}, Follows s u →
      Follows s (match k with | some k => Machine.unbindChannel Machine.refreshOpen k u | none => u) := fun k u hu => by
    cases k with
    | none => exact hu
    | some k => exact Follows.unbindChannel Follows.refreshOpen k hu
  unfold Machine.holdRecord; split
  · exact h
  · have hmoved := (h.moveState id .decidedHold fun _ _ _ => rfl).updateRecord id
      (f := fun x => { x with stance := .hold reason })
    refine Follows.refreshOpen ?_
    split <;> exact Follows.countAgree _ (Follows.urgent (Follows.reportStance _ _ _ (hunbound _ hmoved)))
theorem Follows.reconcileBut (x n : Nat) (h : Follows s t) : Follows s (reconcileBut x n t) := by
  induction n generalizing t with
  | zero => exact h.refreshOpen
  | succ n ih =>
    unfold Machine.reconcileBut; split
    · exact ih (h.holdRecord _ _)
    · exact h.refreshOpen
theorem Follows.refreshBut (x : Nat) (h : Follows s t) : Follows s (refreshBut x t) := h.reconcileBut _ _
theorem Follows.refresh (h : Follows s t) : Follows s (refresh t) := h.refreshBut _
theorem Follows.comparePeer (id : Nat) (p : Peer) (h : Follows s t) : Follows s (comparePeer id p t) := by
  unfold Machine.comparePeer; split
  · exact h
  · dsimp only; split
    · exact Follows.countAgree _ (Follows.setLatch _ (Follows.updateRecord id (h.raise _)))
    · exact h
theorem Follows.compareAll (id : Nat) (h : Follows s t) : Follows s (compareAll id t) :=
  forEach_holds (fun p _ _ => Follows.comparePeer id p) h

/-- The one move that a channel or the guard makes of a shut record is to ENDED (section 5.6 of Chapter 5). -/
theorem shut_of_moveAllowed {a b : BreakState} (h : moveAllowed a b = true) (ha : isShut a = true) : isShut b = true := by
  cases a with
  | lockedHold => cases b with
    | ended => rfl
    | _ => cases h
  | openState | decidedGo | lockedGo | airing => cases ha
  | decidedHold | ended | abandoned => cases h

theorem Follows.channelMove (id : Nat) (new : BreakState) (cause : Option AbandonCause) (h : Follows s t) :
    Follows s (channelMove id new cause t) := by
  unfold Machine.channelMove; split
  · exact h
  · next r hr =>
    split
    · next hallowed =>
      have hmoved := h.moveState id new fun x hx hs => by
        rw [hr] at hx; exact shut_of_moveAllowed hallowed (Option.some.inj hx ▸ hs)
      refine Follows.compareAll _ (Follows.setStance _ _ ?_)
      split
      · exact hmoved
      · exact hmoved.updateRecord id
    · exact h
theorem Follows.removeRecord (id : Nat) (h : Follows s t) : Follows s (removeRecord id t) := by
  unfold Machine.removeRecord; split
  · exact h
  · have hleft : ∀ {u} (l : List Spot), Follows s u →
        Follows s (Proofs.dropRecord id (forEach (releaseSpot (Machine.refreshBut id)) l u)) := fun l hu =>
      Proofs.Follows.dropRecord id ((followsOfDesk s).offStore.releaseSpots (Follows.refreshBut id) l hu)
    refine Follows.raise _ (Follows.refresh (Follows.urgent (hleft _ ?_)))
    split
    · exact Follows.unbindChannel (Follows.refreshBut id) _ h
    · exact h
theorem Follows.settleRemoval (id : Nat) (h : Follows s t) : Follows s (settleRemoval id t) := by
  unfold Machine.settleRemoval; split
  · exact h
  · split
    · exact h.removeRecord _
    · exact h

/-! ### The insertion channels -/

theorem Follows.giveUp (cause : AbandonCause) (k : Nat) (h : Follows s t) : Follows s (giveUp cause k t) := by
  unfold Machine.giveUp; split
  · exact h
  · next c _ =>
    have hdropped : ∀ f, Follows s (updateChan k f t) := fun _ => h.of_table
    have hgiven := fun f e => Follows.setLatch .split (Follows.raise e (Follows.unbindChannel Follows.refresh k
      ((hdropped f).channelMove c.breakId .abandoned (some cause))))
    refine Follows.settleRemoval _ ?_
    cases cause <;> exact Follows.of_table (hgiven _ _)
theorem Follows.endPlay (k : Nat) (h : Follows s t) : Follows s (endPlay k t) := by
  unfold Machine.endPlay; split
  · exact h
  · exact (Follows.of_table (Follows.unbindChannel Follows.refresh k (h.channelMove _ .ended none))).settleRemoval _
theorem Follows.armChannel (k : Nat) (h : Follows s t) : Follows s (armChannel k t) := by
  unfold Machine.armChannel; split
  · exact h
  · split
    · exact h
    · have harmed : ∀ f g e l, Follows s (updateChan k f (forEach freezeSpot l (Machine.raise e (updateChan k g t)))) :=
        fun f g e l => Follows.of_table ((followsOfDesk s).forEachDesk desk_freezeSpot l
          (s := Machine.raise e (updateChan k g t)) h.of_table)
      dsimp only; split
      · exact harmed _ _ _ _
      · split
        · exact (harmed _ _ _ _).giveUp _ _
        · exact harmed _ _ _ _

theorem table_setChannelState (k : Nat) (new : ChannelState) (position : Nat) (s : State) :
    (setChannelState k new position s).cues = s.cues := by
  unfold setChannelState; split <;> rfl

theorem table_planFrame (p : FramePass) (k : Nat) (s : State) : (planFrame p k s).cues = s.cues := by
  unfold planFrame padReached; split
  · rfl
  · dsimp only; split
    · rfl
    · split
      · rw [table_setChannelState]; rfl
      · rfl

theorem Follows.planFrame (p : FramePass) (k : Nat) (h : Follows s t) : Follows s (planFrame p k t) :=
  h.of_table (congrArg CueDecoder.table (table_planFrame p k t))
theorem Follows.playPass (p : FramePass) (k : Nat) (b : BoundBreak) (h : Follows s t) :
    Follows s (playPass p k b t) := by
  unfold Machine.playPass; split
  · exact h.endPlay _
  · split
    · exact h.giveUp _ _
    · split
      · exact h
      · exact h.planFrame _ _
theorem Follows.channelPass (p : FramePass) (k : Nat) (h : Follows s t) : Follows s (channelPass p k t) := by
  unfold Machine.channelPass; split
  · exact h
  · split
    · exact h
    · split
      · exact h
      · exact h
      · unfold armedPass; split
        · exact h.endPlay _
        · split
          · exact h
          · split
            · exact h.giveUp _ _
            · exact Follows.planFrame _ _ (Follows.channelMove _ _ _
                (h.of_table (congrArg CueDecoder.table (table_setChannelState _ _ _ _))))
      · exact h.playPass _ _ _
      · exact h.playPass _ _ _
theorem Follows.framePass (p : FramePass) (h : Follows s t) : Follows s (framePass p t) := by
  have hpassed : Follows s (passedChannels p t) := by
    refine forEach_holds (fun k _ _ => Follows.channelPass p k) ?_
    split
    · exact h.of_table
    · exact h
  rw [framePass_eq]; exact hpassed.of_table
theorem Follows.gap (c : Time) (h : Follows s t) : Follows s (frameGapToChannels c t) := by
  refine forEach_holds (fun k _ u hu => ?_) h.of_table
  unfold channelGap; split
  · exact hu
  · split
    · exact hu
    · exact hu
    · split
      · split
        · exact hu.giveUp _ _
        · exact hu
      · exact hu
    · exact hu.giveUp _ _
    · exact hu.giveUp _ _
theorem Follows.overrideChannels (h : Follows s t) : Follows s (overrideChannels t) := by
  refine forEach_holds (fun k _ u hu => ?_) h
  unfold channelOverride; split
  · exact hu
  · split
    · exact hu.giveUp _ _
    · exact hu
theorem Follows.passChannels (n : Nat) (c : Cell) (h : Follows s t) : Follows s (passChannels n c t).2 := by
  have hfailed : ∀ k p id g {u}, Follows s u → Follows s (readFailed k p id g u) := fun k p id g u hu => by
    have hcounted : ∀ f e, Follows s (countChan k e (updateStoreCounters f u)) := fun _ _ => hu.of_table
    have hstored := fun f e => (followsOfDesk s).offStore.storeFailure Follows.refresh id g (hcounted f e)
    unfold readFailed; dsimp only; split
    · exact hstored _ _
    · split
      · exact hstored _ _
      · exact (hstored _ _).of_table
  have hcell : ∀ k p, Follows s (substitutedCell k p c t).2 := fun k p => by
    have hpadded : ∀ (b : Prop) [Decidable b] f, Follows s (if b then countChan k f t else t) := fun b _ f => by
      split
      · exact h.of_table
      · exact h
    unfold substitutedCell; split
    · exact h.of_table
    · dsimp only; split
      · exact hpadded _ _
      · exact hfailed _ _ _ _ (hpadded _ _)
  unfold Machine.passChannels; split
  · exact h
  · exact (hcell _ _).of_table
theorem Follows.hearPeer (p : Peer) (a : Announcement) (id : Nat) (h : Follows s t) : Follows s (hearPeer p a id t) := by
  refine Follows.comparePeer _ _ ?_
  unfold hearRefusal; split
  · exact h
  · split
    · exact h
    · split
      · exact (h.holdRecord _ _).refresh
      · unfold lateHold; split
        · exact h
        · exact Follows.countAgree _ (Follows.updateRecord _ (h.raise _))
      · exact h

theorem follows_carried (s : State) : Carried (Follows s) where
  desk := followsOfDesk s
  refresh := Follows.refresh
  framePass := fun p _ => Follows.framePass p
  gap := fun c _ => Follows.gap c
  passChannels := fun n c _ => Follows.passChannels n c
  overrideChannels := Follows.overrideChannels
  hearPeer := fun p a id _ => Follows.hearPeer p a id
  shift := fun k _ => Follows.shift k
  reset := fun h => Follows.reset (congrArg Prod.fst h)

end Sys2Proof.Proofs
end

section
/-! The law of the break table, and that a held break never goes on (R86, R90, R149): the cues, the instants of a record, and
every command. -/

namespace Sys2Proof.Proofs

open Sys2Proof Sys2Proof.Machine Sys2Proof.Laws

-- As in the tests: one theorem after another, within the memory that the check leaves for threads.
set_option Elab.async false

variable {s t : State} {c : SiteConfig} {b : BreakCue} {cOut cIn arrival : Time}

/-! ### The instants of a record -/

theorem earliest_mem {l : List (Time × BreakInstant)} {x : Time × BreakInstant} (h : earliest l = some x) : x ∈ l := by
  induction l generalizing x with
  | nil => cases h
  | cons y l ih =>
    unfold earliest at h; split at h
    · next z hz =>
      split at h <;> cases h
      · exact List.mem_cons_of_mem _ (ih hz)
      · exact List.mem_cons_self
    · cases h; exact List.mem_cons_self

theorem dueInstant_mem {r : BreakRecord} {now : Time} {what : BreakInstant} (h : r.dueInstant now = some what) :
    ∃ at_ ≤ now, (at_, what) ∈ r.instants := by
  unfold BreakRecord.dueInstant at h; split at h
  · next x hx =>
    split at h
    · next hle => cases h; exact ⟨x.1, hle, earliest_mem hx⟩
    · cases h
  · cases h

/-- The decision instant falls due for an OPEN record alone (R93). -/
theorem open_of_decision {r : BreakRecord} {now : Time} (h : r.dueInstant now = some .decision) :
    r.state = .openState := by
  obtain ⟨at_, -, hmem⟩ := dueInstant_mem h
  simp only [BreakRecord.instants, List.mem_append] at hmem
  by_contra hne
  simp [hne] at hmem

theorem decisionDue_some {r : BreakRecord} (h : decisionDue s = some r) :
    r ∈ s.cues.table ∧ r.state = .openState :=
  ⟨List.mem_of_find?_eq_some h, open_of_decision (by simpa using List.find?_some h)⟩

theorem dueRecord_some {id : Nat} {what : BreakInstant} {r : BreakRecord} (h : dueRecord id what s = some r) :
    s.record? id = some r ∧ r.dueInstant s.tb.now = some what := by
  unfold dueRecord at h
  cases hr : s.record? id with
  | none => rw [hr] at h; cases h
  | some x =>
    rw [hr] at h; dsimp only at h; split at h
    · next hdue => cases h; exact ⟨rfl, hdue⟩
    · cases h

/-! ### Cues (R86 to R91) -/

theorem intersects_comm (a b c d : Time) : intersects a b c d = intersects c d a b := Bool.and_comm _ _

theorem intersects_iff (a b c d : Time) : intersects a b c d = true ↔ a < d ∧ c < b := by
  simp [intersects]

/-- The checks of R89 pass. -/
structure Admissible (c : SiteConfig) (b : BreakCue) (cOut cIn arrival : Time) (s : State) : Prop where
  interval : cOut < cIn ∧ cIn - cOut ≤ 6000000000
  early : msTime c.decisionMs + msTime c.marginMs ≤ cOut - arrival
  routed : b.tag ∈ c.routing
  apart : ∀ r ∈ s.cues.table, r.id ≠ b.id → r.tag = b.tag → intersects r.cOut r.cIn cOut cIn = false
  room : s.record? b.id = none → s.cues.table.length < 8

theorem refusalOf_eq_none_iff : refusalOf c b cOut cIn arrival s = none ↔ Admissible c b cOut cIn arrival s := by
  have hoverlap : (s.cues.table.any fun r => r.id != b.id && r.tag == b.tag && intersects r.cOut r.cIn cOut cIn) = true
      ↔ ∃ r ∈ s.cues.table, r.id ≠ b.id ∧ r.tag = b.tag ∧ intersects r.cOut r.cIn cOut cIn = true := by
    simp [and_assoc]
  unfold refusalOf
  constructor
  · intro h
    split at h
    · cases h
    · next hinterval =>
      rw [not_or, not_le, not_lt] at hinterval
      split at h
      · cases h
      · next hearly =>
        split at h
        · cases h
        · next hrouted =>
          split at h
          · cases h
          · next hapart =>
            split at h
            · cases h
            · next hroom =>
              rw [hoverlap] at hapart
              refine ⟨hinterval, not_lt.1 hearly, by simpa using hrouted, fun r hr hid htag => ?_, fun hnone => ?_⟩
              · by_contra hne; exact hapart ⟨r, hr, hid, htag, by simpa using hne⟩
              · by_contra hfull
                exact hroom (by simpa [hnone, Config.breakTableMax] using hfull)
  · rintro ⟨hinterval, hearly, hrouted, hapart, hroom⟩
    rw [if_neg (not_or.2 ⟨not_le.2 hinterval.1, not_lt.2 hinterval.2⟩), if_neg (not_lt.2 hearly),
      if_neg (by simpa using hrouted), if_neg, if_neg]
    · rw [Bool.and_eq_true, decide_eq_true_eq, Option.isNone_iff_eq_none]
      rintro ⟨hnone, hfull⟩
      exact absurd (hroom hnone) (Nat.not_lt.2 hfull)
    · rw [hoverlap]
      rintro ⟨r, hr, hid, htag, hmeets⟩
      rw [hapart r hr hid htag] at hmeets; cases hmeets

/-- A record joins the table at the back (R90). -/
def joinRecord (r : BreakRecord) (s : State) : State :=
  { s with cues := { s.cues with table := s.cues.table ++ [r] } }

theorem breakTableLaw_joinRecord {r : BreakRecord} (h : BreakTableLaw s) (hnew : s.record? r.id = none)
    (hid : r.id ≠ 0) (hroom : s.cues.table.length < 8)
    (hapart : ∀ x ∈ s.cues.table, x.tag = r.tag → intersects x.cOut x.cIn r.cOut r.cIn = false) :
    BreakTableLaw (joinRecord r s) := by
  have hfresh : ∀ x ∈ s.cues.table, x.id ≠ r.id := fun x hx => by
    simpa using List.find?_eq_none.1 hnew x hx
  obtain ⟨hsize, hids, hnonzero, hdisjoint⟩ := h
  have htable : (joinRecord r s).cues.table = s.cues.table ++ [r] := rfl
  refine ⟨?_, ?_, fun x hx => ?_, ?_⟩
  · rw [htable, List.length_append]; exact hroom
  · rw [htable, List.map_append]
    refine List.nodup_append.2 ⟨hids, List.nodup_singleton _, ?_⟩
    simpa using hfresh
  · rcases List.mem_append.1 (htable ▸ hx) with hx | hx
    · exact hnonzero x hx
    · rw [List.mem_singleton.1 hx]; exact hid
  · rw [htable]
    refine List.pairwise_append.2 ⟨hdisjoint, List.pairwise_singleton _ _, fun x hx y hy htag => ?_⟩
    rw [List.mem_singleton.1 hy] at htag ⊢; exact hapart x hx htag

/-- A record that changes in its place keeps the law if it stays apart from the others (R91). -/
theorem breakTableLaw_changed {id : Nat} {f : BreakRecord → BreakRecord} (h : BreakTableLaw s)
    (hf : ∀ x, (f x).id = x.id)
    (hapart : ∀ x y, x ∈ s.cues.table → y ∈ s.cues.table → x.id = id → y.id ≠ id → y.tag = (f x).tag →
      intersects y.cOut y.cIn (f x).cOut (f x).cIn = false) : BreakTableLaw (updateRecord id f s) := by
  obtain ⟨hsize, hids, hnonzero, hdisjoint⟩ := h
  have hsame : (updateRecord id f s).cues.table.map BreakRecord.id = s.cues.table.map BreakRecord.id :=
    map_updateWhere BreakRecord.id _ f hf s.cues.table
  refine ⟨?_, hsame ▸ hids, fun r hr => ?_, ?_⟩
  · rw [updateRecord_cues, updateWhere_length]; exact hsize
  · obtain ⟨x, hx, he⟩ := List.mem_map.1 (hsame ▸ List.mem_map_of_mem (f := BreakRecord.id) hr)
    rw [← he]; exact hnonzero x hx
  · rw [updateRecord_cues]; unfold updateWhere; rw [List.pairwise_map]
    refine (hdisjoint.and (List.pairwise_map.1 hids)).imp_of_mem fun {x y} hx hy ⟨hxy, hne⟩ htag => ?_
    by_cases hxid : x.id = id
    · have hyid : y.id ≠ id := fun e => hne (hxid.trans e.symm)
      simp only [hxid, hyid, beq_self_eq_true, if_true, beq_iff_eq, if_false] at htag ⊢
      rw [intersects_comm]; exact hapart x y hx hy hxid hyid htag.symm
    · by_cases hyid : y.id = id
      · simp only [hxid, hyid, beq_self_eq_true, if_true, beq_iff_eq, if_false] at htag ⊢
        exact hapart y x hy hx hyid hxid htag
      · simp only [hxid, hyid, beq_iff_eq, if_false] at htag ⊢
        exact hxy htag

theorem Follows.countCues (f : CueCounters → CueCounters) (h : Follows s t) : Follows s (countCues f t) := h.of_table
theorem Follows.refuseCue (id version : Nat) (cause : RefusalCause) (h : Follows s t) :
    Follows s (refuseCue id version cause t) := h.of_table

/-- A new break joins a table in which its id has no record, before the command either (R90). -/
theorem Follows.joinRecord {r : BreakRecord} (h : Follows s t) (hlaw : BreakTableLaw (joinRecord r t))
    (hnew : s.record? r.id = none) : Follows s (joinRecord r t) := by
  refine ⟨hlaw, fun {n x x'} hx hs hx' => ?_⟩
  unfold State.record? Proofs.joinRecord at hx'
  rw [List.find?_append] at hx'
  rcases Option.or_eq_some_iff.1 hx' with hold | ⟨-, hjoined⟩
  · exact h.shut hx hs hold
  · obtain rfl : x' = r := by simpa using List.mem_of_find?_eq_some hjoined
    obtain rfl : x'.id = n := by simpa using List.find?_some hjoined
    rw [hnew] at hx; cases hx

theorem Follows.acceptBreak (h : Follows s t) (hnew : s.record? b.id = none) (hnone : t.record? b.id = none)
    (hid : b.id ≠ 0) (ha : Admissible c b cOut cIn arrival t) : Follows s (acceptBreak c b cOut cIn t) := by
  have hjoined : ∀ v, Follows s (Proofs.joinRecord { newRecord c b cOut cIn with stance := v } t) := fun v =>
    h.joinRecord (breakTableLaw_joinRecord h.law hnone hid (ha.room hnone)
      fun x hx htag => ha.apart x hx (by simpa using List.find?_eq_none.1 hnone x hx) htag) hnew
  unfold Machine.acceptBreak
  exact Follows.countCues _ (Follows.raise _ (Follows.reportStance _ _ _
    (Follows.urgent ((followsOfDesk s).forEachDesk desk_protectSpot _ (hjoined _)))))

theorem Follows.updateBreak {old : BreakRecord} (h : Follows s t) (ha : Admissible c b cOut cIn arrival t) :
    Follows s (updateBreak c b cOut cIn old t) := by
  unfold Machine.updateBreak
  refine Follows.countCues _ (Follows.raise _ (Follows.refreshRecord _
    ((followsOfDesk s).offStore.releaseSpots Follows.refresh _ ((followsOfDesk s).forEachDesk desk_protectSpot _ ?_))))
  refine h.changeRecord (breakTableLaw_changed h.law (fun _ => rfl) ?_) (fun _ => rfl) fun _ _ hx => hx
  exact fun x y hx hy _ hyid htag => ha.apart y hy hyid htag

/-- A cue (R85 to R92), taken while the table is the one before the command. -/
theorem follows_cueTaken (hlaw : BreakTableLaw s) (c : SiteConfig) (body : List Byte) (arrival : Time)
    (ht : desk t = desk s) : Follows s (cueTaken c body arrival t) := by
  have hrecord : ∀ f id, (countCues f t).record? id = s.record? id := fun f id => record?_of_table (table_of_desk ht) id
  have h : ∀ f, Follows s (countCues f t) := fun f => (Follows.refl hlaw).of_table (table_of_desk ht)
  unfold cueTaken; split
  · exact h _
  · dsimp only
    generalize hu : countCues (fun k => { k with taken := bump k.taken }) t = u
    have hu' : Follows s u := hu ▸ h _
    have hsame : ∀ id, u.record? id = s.record? id := fun id => by rw [← hu]; exact hrecord _ id
    have hjudged : ∀ b : BreakCue, b.id ≠ 0 → Follows s (judgeCandidate c b arrival u) := fun b hid => by
      unfold judgeCandidate; split
      · exact hu'.refuseCue _ _ _
      · dsimp only; split
        · exact hu'.refuseCue _ _ _
        · next hadmissible =>
          have ha := refusalOf_eq_none_iff.1 hadmissible
          cases hnone : u.record? b.id with
          | some old => exact hu'.updateBreak ha
          | none => exact hu'.acceptBreak ((hsame b.id).symm.trans hnone) hnone hid ha
    split
    · unfold takeAction; dsimp only; split
      · split
        · exact hu'.countCues _
        · next b _ hid =>
          unfold takeBreak
          cases u.record? b.id with
          | none => exact hjudged _ hid
          | some r =>
            dsimp only; split
            · exact hu'.countCues _
            · split
              · exact hjudged _ hid
              · exact hu'.refuseCue _ _ _
      · split
        · exact hu'.countCues _
        · next id _ _ =>
          unfold takeCancel
          cases u.record? id with
          | none => exact hu'.countCues _
          | some r =>
            dsimp only; split
            · exact Follows.countCues _ (Follows.raise _ (hu'.removeRecord _))
            · exact hu'.refuseCue _ _ _
    · exact hu'.countCues _

/-! ### The instants (R93 to R96, R143 to R154) -/

theorem Follows.moveDecided {r : BreakRecord} (h : Follows s t) (new : BreakState) (stance : Stance)
    (hnew : ∀ x, t.record? r.id = some x → isShut x.state = true → isShut new = true) :
    Follows s (moveDecided r new stance t) := by
  unfold Machine.moveDecided
  exact Follows.reportStance _ _ _ (Follows.updateRecord _ (h.moveState _ _ hnew))

theorem Follows.reportDecision (r : BreakRecord) (reason : Option HoldReason) (peer : Option Nat) (h : Follows s t) :
    Follows s (reportDecision r reason peer t) := by
  unfold Machine.reportDecision
  exact Follows.urgent (Follows.raise _ (h.updateRecord r.id))

theorem Follows.decideRecord {r : BreakRecord} (h : Follows s t) (hr : r ∈ t.cues.table) (hopen : r.state = .openState) :
    Follows s (decideRecord r t) := by
  have hcount : ∀ reason {u}, Follows s u → Follows s (countHold reason u) := fun reason u hu => by
    cases reason with
    | heardHold => exact hu
    | pending | quorum | peer | self => exact hu.of_table
  have hhold : ∀ reason peer {u}, Follows s u → Follows s (decideHold r reason peer u) := fun reason peer u hu =>
    hcount _ (Follows.reportDecision _ _ _ (hu.moveDecided .decidedHold _ fun _ _ _ => rfl))
  unfold Machine.decideRecord; split
  · exact hhold _ _ h
  · exact hhold _ _ (h.countAgree _)
  · have hgo : Follows s (Machine.moveDecided r .decidedGo .go t) := h.moveDecided _ _ fun x hx hs => by
      rw [record?_of_mem h.law.ids hr] at hx
      rw [← Option.some.inj hx, hopen] at hs; cases hs
    have hbound : ∀ k {u}, Follows s u → Follows s (bindChannel k r u) := fun k u hu => by
      unfold bindChannel
      exact Follows.of_table (Follows.updateRecord _
        ((followsOfDesk s).forEachDesk desk_protectSpot _ (s := updateChan k _ u) hu.of_table)
        (f := fun x => { x with channel := some k }))
    exact Follows.refresh (Follows.countAgree _ (Follows.reportDecision _ _ _ (hbound _ hgo)))

theorem Follows.lockGo {r : BreakRecord} (h : Follows s t) (hr : t.record? r.id = some r)
    (hgo : r.state = .decidedGo) : Follows s (lockGo r t) := by
  have hmoved : Follows s (Machine.moveState r.id .lockedGo t) := h.moveState _ _ fun x hx hs => by
    rw [hr] at hx
    rw [← Option.some.inj hx, hgo] at hs; cases hs
  have hcompared := fun f (hf : Follows s (Machine.updateRecord r.id f (Machine.moveState r.id .lockedGo t))) =>
    hf.compareAll r.id
  unfold Machine.lockGo
  cases r.channel with
  | none => exact hcompared _ (hmoved.updateRecord _)
  | some k => exact (hcompared _ (hmoved.updateRecord _)).armChannel _

/-- The commands that carry out an instant of a record. -/
theorem follows_ofRecord {i : Instr} (hi : ofRecord i = true) (hlaw : BreakTableLaw s) (hexec : exec i s = .next t) :
    Follows s t := by
  have h := Follows.refl hlaw
  cases i with
  | decisionInstant =>
    rw [next_inj hexec]
    cases hr : decisionDue s with
    | none => exact h
    | some r => exact h.decideRecord (decisionDue_some hr).1 (decisionDue_some hr).2
  | lockInstant id =>
    rw [next_inj hexec]
    cases hr : dueRecord id .lock s with
    | none => exact h
    | some r =>
      obtain ⟨hfound, -⟩ := dueRecord_some hr
      dsimp only; split
      · next hgo => exact h.lockGo (record?_id hfound ▸ hfound) hgo
      · exact Follows.compareAll _ (Follows.updateRecord _ (h.moveState _ _ fun _ _ _ => rfl))
  | endInstant id =>
    rw [next_inj hexec]
    cases dueRecord id .endInstant s with
    | none => exact h
    | some r =>
      cases hk : r.channel with
      | none => dsimp only; rw [hk]; exact (h.channelMove _ _ _).settleRemoval _
      | some k => dsimp only; rw [hk]; exact h.endPlay _
  | removalInstant id =>
    rw [next_inj hexec]
    cases dueRecord id .removal s with
    | none => exact h
    | some r => exact h.removeRecord _
  | watchOpen id =>
    rw [next_inj hexec]
    cases dueRecord id .watchOpen s with
    | none => exact h
    | some r =>
      dsimp only; split
      · exact h.updateRecord _
      · exact Follows.compareAll _ (h.updateRecord _)
  | watchClose id =>
    rw [next_inj hexec]
    cases dueRecord id .watchClose s with
    | none => exact h
    | some r => exact h.updateRecord _
  | _ => cases hi

/-- After any command the law of the break table holds, and what was shut is. -/
theorem follows_exec {i : Instr} (hlaw : BreakTableLaw s) (hexec : exec i s = .next t) : Follows s t := by
  cases hi : ofRecord i with
  | true => exact follows_ofRecord hi hlaw hexec
  | false => exact (follows_carried s).exec hi (fun c b x _ hu => follows_cueTaken hlaw c b x hu) (.refl hlaw) hexec

/-! ### The two laws -/

theorem shut_not_goes {x : BreakState} (h : isShut x = true) : x.goes = false := by
  cases x with
  | openState | decidedGo | lockedGo | airing => cases h
  | decidedHold | lockedHold | ended | abandoned => rfl

/-- Settles O33: a break that is held or over stays so, and neither state goes. -/
theorem heldBreaksNeverGo : Obligations.HeldBreaksNeverGo := by
  unfold Obligations.HeldBreaksNeverGo
  intro i s t id r r' hlaw hexec hr hheld hr'
  have hshut : isShut r.state = true := by unfold isShut; rw [hheld]; rfl
  exact shut_not_goes ((follows_exec hlaw hexec).shut hr hshut hr')

/-- Settles O35: a step is a command, run with the queue's rest or after a free choice, or a TU of the oscillator. -/
theorem breakTableLawIsKept : Obligations.BreakTableLawIsKept := by
  unfold Obligations.BreakTableLawIsKept
  intro s t hlaw hstep
  have hcommand : ∀ {i : Instr} {u : State}, exec i u = .next t → u.cues.table = s.cues.table → BreakTableLaw t :=
    fun hexec hu => (follows_exec (breakTableLaw_of_table hlaw hu) hexec).law
  unfold step at hstep; split at hstep
  · exact hcommand hstep rfl
  · unfold idle at hstep; split at hstep
    · exact hcommand hstep rfl
    · rw [next_inj hstep]; exact ((follows_carried s).tick (.refl hlaw)).law

end Sys2Proof.Proofs
end

section
/-! SUPPORT. Channels by their number, and what the agreement unit and the channels make of one record and one channel:
the comparisons, a stance that is written, a move, the positions that a frame takes. -/

namespace Sys2Proof.Proofs

open Sys2Proof Sys2Proof.Machine Sys2Proof.Laws

-- As in the tests: one theorem after another, within the memory that the check leaves for threads.
set_option Elab.async false

variable {s t : State} {id n k j : Nat} {r : BreakRecord} {c : Channel} {new : BreakState}

/-! ### Channels by their number -/

theorem chan_updateChan_same (f : Channel → Channel) (h : s.chans.chan[k]? = some c) :
    (updateChan k f s).chans.chan[k]? = some (f c) := by simp [h]

theorem chan_updateChan_other (f : Channel → Channel) (hn : j ≠ k) (s : State) :
    (updateChan k f s).chans.chan[j]? = s.chans.chan[j]? := by simp [List.getElem?_modify_ne _ _ hn.symm]

theorem chan_countChan_same (f : ChannelCounters → ChannelCounters) (h : s.chans.chan[k]? = some c) :
    (countChan k f s).chans.chan[k]? = some { c with counters := f c.counters } := chan_updateChan_same _ h

theorem breakId_of_bound {b : BoundBreak} (h : c.bound = some b) : c.breakId = b.id := by
  unfold Channel.breakId; rw [h]

/-! ### The store and the channels -/

/-- The spot store and the channels. -/
def stock (s : State) : SpotStore × Channels := (s.store, s.chans)

theorem store_of_stock (h : stock t = stock s) : t.store = s.store := congrArg Prod.fst h
theorem chans_of_stock (h : stock t = stock s) : t.chans = s.chans := congrArg Prod.snd h
theorem stock_of_reach (h : reach t = reach s) : stock t = stock s := congrArg (fun x => (x.1, x.2.1)) h

@[simp] theorem stock_raise (e : Event) (s : State) : stock (raise e s) = stock s := rfl
@[simp] theorem stock_countAgree (f : AgreementCounters → AgreementCounters) (s : State) :
    stock (countAgree f s) = stock s := rfl
@[simp] theorem stock_countCues (f : CueCounters → CueCounters) (s : State) : stock (countCues f s) = stock s := rfl
@[simp] theorem stock_reportStance (x : Nat) (o : Option Stance) (v : Stance) (s : State) :
    stock (reportStance x o v s) = stock s := rfl
@[simp] theorem stock_updateRecord (x : Nat) (f : BreakRecord → BreakRecord) (s : State) :
    stock (updateRecord x f s) = stock s := rfl
@[simp] theorem stock_urgent (s : State) : stock (urgent s) = stock s := stock_of_reach (reach_urgent s)
@[simp] theorem stock_setLatch (l : Latch) (s : State) : stock (setLatch l s) = stock s := by
  unfold setLatch putLatch; split <;> rfl
@[simp] theorem stock_setStance (x : Nat) (v : Stance) (s : State) : stock (setStance x v s) = stock s := by
  unfold setStance; split
  · rfl
  · split <;> simp
@[simp] theorem stock_moveState (x : Nat) (v : BreakState) (s : State) : stock (moveState x v s) = stock s := by
  unfold moveState; split <;> rfl
@[simp] theorem stock_comparePeer (x : Nat) (p : Peer) (s : State) : stock (comparePeer x p s) = stock s := by
  unfold comparePeer; split
  · rfl
  · dsimp only; split <;> simp
@[simp] theorem stock_compareAll (x : Nat) (s : State) : stock (compareAll x s) = stock s :=
  forEach_keeps stock _ (stock_comparePeer x) _ s
@[simp] theorem stock_channelMove (x : Nat) (v : BreakState) (a : Option AbandonCause) (s : State) :
    stock (channelMove x v a s) = stock s := by
  unfold channelMove; split
  · rfl
  · split
    · dsimp only; split <;> simp
    · rfl

/-! ### One record -/

theorem record?_setStance_same (v : Stance) (h : s.record? id = some r) :
    (setStance id v s).record? id = some { r with stance := v } := by
  unfold setStance; rw [h]; dsimp only
  split
  · next hsame => rw [h, ← hsame]
  · rw [record?_reportStance, record?_urgent]
    exact record?_updateRecord_same (f := fun x => { x with stance := v }) (fun _ => rfl) h

theorem record?_setStance_other (v : Stance) (hn : n ≠ id) (s : State) :
    (setStance id v s).record? n = s.record? n := by
  unfold setStance; split
  · rfl
  · split
    · rfl
    · rw [record?_reportStance, record?_urgent]
      exact record?_updateRecord_other (f := fun x => { x with stance := v }) (fun _ => rfl) hn s

/-- The comparisons write only which peers have been reported (R156). -/
theorem record?_compareAll (id : Nat) (h : s.record? n = some r) :
    ∃ l, (compareAll id s).record? n = some { r with splitReported := l } := by
  refine forEach_holds (P := fun u : State => ∃ l, u.record? n = some { r with splitReported := l }) (fun p _ u hu => ?_)
    ⟨r.splitReported, h⟩
  obtain ⟨l, hl⟩ := hu
  unfold comparePeer; split
  · exact ⟨l, hl⟩
  · dsimp only; split
    · rw [record?_countAgree, record?_setLatch, record?_updateRecord
        (f := fun x => { x with splitReported := insertSite p.site x.splitReported }) (fun _ => rfl), record?_raise, hl]
      simp only [Option.map_some, Option.some.injEq]
      split
      · exact ⟨_, rfl⟩
      · exact ⟨l, rfl⟩
    · exact ⟨l, hl⟩

/-- The instants and the cause that a move by a channel or the guard writes (R96). -/
def movedRecord (new : BreakState) (cause : Option AbandonCause) (r : BreakRecord) : BreakRecord :=
  { r with
    state := new
    stance := movedStance new
    removalAt := if new = .airing then r.removalAt else some (r.cIn + 20000000)
    abandonCause := if new = .airing then r.abandonCause else cause }

/-- A move that section 5.6 gives (R96, R98, R142). -/
theorem record?_channelMove (cause : Option AbandonCause) (h : s.record? id = some r)
    (hallowed : moveAllowed r.state new = true) :
    ∃ l, (channelMove id new cause s).record? id = some { movedRecord new cause r with splitReported := l } := by
  have hmoved := record?_moveState_same h new
  have hwritten : (if new = .airing then moveState id new s
      else updateRecord id (fun x => { x with removalAt := some (x.cIn + 20000000), abandonCause := cause })
        (moveState id new s)).record? id
      = some { movedRecord new cause r with stance := r.stance } := by
    unfold movedRecord
    split
    · simpa using hmoved
    · rw [record?_updateRecord_same (f := fun x =>
        { x with removalAt := some (x.cIn + 20000000), abandonCause := cause }) (fun _ => rfl) hmoved]
  unfold channelMove; rw [h]; dsimp only; rw [if_pos hallowed]
  exact record?_compareAll id (record?_setStance_same _ hwritten)

end Sys2Proof.Proofs
end

section
/-! SUPPORT. The lock of a break (R151, R160) and the positions that a frame takes (R165, R166). -/

namespace Sys2Proof.Proofs

open Sys2Proof Sys2Proof.Machine Sys2Proof.Laws

-- As in the tests: one theorem after another, within the memory that the check leaves for threads.
set_option Elab.async false

variable {s t : State} {id k : Nat} {r : BreakRecord} {c : Channel} {b : BoundBreak} {p : FramePass}

/-! ### The arming (R160) -/

/-- The channel once it is ARMED. -/
def armedChannel (st : SpotStore) (c : Channel) : Channel :=
  { c with
    state := .armed
    items := c.items.map (playItemOf st)
    padItem := c.padItem.map (playItemOf st)
    listedLength := listedLength (c.items.map (playItemOf st))
    padLength := padLength (c.padItem.map (playItemOf st))
    cursor := Cursor.start (c.items.map (playItemOf st)) }

theorem Cursor_start_position (items : List PlayItem) : (Cursor.start items).position = 0 := by
  cases items <;> rfl

theorem playItemOf_spot (st : SpotStore) (x : PlayItem) : (playItemOf st x).spot = x.spot := by
  unfold playItemOf; split <;> rfl

theorem armTestFails_of_ahead {ch : Channels} (hpass : ∀ p, ch.lastPass = some p → p < b.cOut)
    (hgap : ∀ g, ch.lastGap = some g → g ≤ b.cOut) : armTestFails ch b = false := by
  unfold armTestFails
  rw [Bool.or_eq_false_iff]
  constructor
  · cases h : ch.lastPass with
    | none => rfl
    | some p => exact decide_eq_false (not_le.2 (hpass p h))
  · cases h : ch.lastGap with
    | none => rfl
    | some g => exact decide_eq_false (not_lt.2 (hgap g h))

theorem chans_freezeSpots (l : List Spot) (s : State) : (forEach freezeSpot l s).chans = s.chans :=
  forEach_keeps State.chans _ (fun x s => by unfold freezeSpot; split <;> rfl) l s

theorem cues_freezeSpots (l : List Spot) (s : State) : (forEach freezeSpot l s).cues = s.cues :=
  forEach_keeps State.cues _ (fun x s => by unfold freezeSpot; split <;> rfl) l s

/-- A RESERVED channel whose play can still start at position 0 is ARMED, and no record changes. -/
theorem armChannel_armed (hc : s.chans.chan[k]? = some c) (hreserved : c.state = .reserved) (hbound : c.bound = some b)
    (hstarts : armTestFails s.chans b = false) :
    (armChannel k s).chans.chan[k]? = some (armedChannel s.store c) ∧ (armChannel k s).cues = s.cues := by
  unfold armChannel; rw [hc]; dsimp only
  rw [if_neg (by simp [hreserved]), hbound]; dsimp only
  rw [if_neg]
  · constructor
    · rw [updateChan_chans, chans_freezeSpots]
      simp [hc, armedChannel]
    · rw [updateChan_cues, cues_freezeSpots]; rfl
  · rw [Bool.not_eq_true, ← hstarts, updateChan_chans, chans_freezeSpots]; rfl

/-! ### The lock (R94, R95, R151) -/

theorem lockHold_spec (h : s.record? r.id = some r) :
    ∃ l, (lockHold r s).record? r.id
      = some { r with state := .lockedHold, endAt := some r.cIn, splitReported := l } :=
  record?_compareAll _ (record?_updateRecord_same (f := fun x => { x with endAt := some r.cIn }) (fun _ => rfl)
    (record?_moveState_same h .lockedHold))

theorem stock_lockHold (r : BreakRecord) (s : State) : stock (lockHold r s) = stock s := by simp [lockHold]

/-- A break that goes, locked, before its channel is armed (R151). -/
def lockedBreak (r : BreakRecord) (s : State) : State :=
  compareAll r.id (updateRecord r.id
    (fun x => { x with endAt := some (r.cIn + s.setting SiteConfig.lmax 20000000) }) (moveState r.id .lockedGo s))

theorem lockGo_eq (hk : r.channel = some k) (s : State) : lockGo r s = armChannel k (lockedBreak r s) := by
  unfold lockGo; rw [hk]; rfl

theorem stock_lockedBreak (r : BreakRecord) (s : State) : stock (lockedBreak r s) = stock s := by simp [lockedBreak]

theorem record?_lockedBreak (h : s.record? r.id = some r) :
    ∃ l, (lockedBreak r s).record? r.id = some { r with
      state := .lockedGo, endAt := some (r.cIn + s.setting SiteConfig.lmax 20000000), splitReported := l } :=
  record?_compareAll _ (record?_updateRecord_same
    (f := fun x => { x with endAt := some (r.cIn + s.setting SiteConfig.lmax 20000000) }) (fun _ => rfl)
    (record?_moveState_same h .lockedGo))

/-- A break that goes locks with its channel: the record and the channel after it. -/
theorem lockGo_spec (h : s.record? r.id = some r) (hk : r.channel = some k) (hc : s.chans.chan[k]? = some c)
    (hreserved : c.state = .reserved) (hbound : c.bound = some b) (hstarts : armTestFails s.chans b = false) :
    (∃ l, (lockGo r s).record? r.id = some { r with
        state := .lockedGo, endAt := some (r.cIn + s.setting SiteConfig.lmax 20000000), splitReported := l })
    ∧ (lockGo r s).chans.chan[k]? = some (armedChannel s.store c) := by
  obtain ⟨l, hl⟩ := record?_lockedBreak h
  have hstock := stock_lockedBreak r s
  have hchans := chans_of_stock hstock
  obtain ⟨harmed, hcues⟩ := armChannel_armed (by rw [hchans]; exact hc) hreserved hbound (by rw [hchans]; exact hstarts)
  rw [lockGo_eq hk]
  exact ⟨⟨l, (record?_of_table (congrArg CueDecoder.table hcues) _).trans hl⟩, by rw [harmed, store_of_stock hstock]⟩

theorem outer_lockGo (r : BreakRecord) (s : State) : outer (lockGo r s) = outer s := (Quiet.lockGo r .refl).outer
theorem outer_lockHold (r : BreakRecord) (s : State) : outer (lockHold r s) = outer s := (Quiet.lockHold r .refl).outer

/-- Settles O31: a held break and a going break at the lock, each with the record that its operation leaves. -/
theorem lockInstantLocksAndArms : Obligations.LockInstantLocksAndArms := by
  unfold Obligations.LockInstantLocksAndArms
  intro id r s _ hdue
  have hr := (dueRecord_some hdue).1
  obtain rfl := record?_id hr
  have hexec : ∀ u, (if r.state = .decidedGo then lockGo r s else lockHold r s) = u →
      exec (.lockInstant r.id) s = .next u := fun u hu => by
    simp only [exec, execLockInstant, hdue, hu]
  constructor
  · intro hhold
    obtain ⟨l, hl⟩ := lockHold_spec hr
    have hstock := stock_lockHold r s
    have ho := outer_lockHold r s
    refine ⟨lockHold r s, _, hexec _ (if_neg (by simp [hhold])), hl, rfl, rfl, rfl, rfl, chans_of_stock hstock,
      store_of_stock hstock, ?_⟩
    simp only [outer, Outer.mk.injEq] at ho
    obtain ⟨-, htb, hintake, hem, hros, -⟩ := ho
    exact ⟨htb, hem, hintake, hros⟩
  · intro k c b hgo hk hc hreserved hbound hpass hgap
    obtain ⟨⟨l, hl⟩, harmed⟩ := lockGo_spec hr hk hc hreserved hbound (armTestFails_of_ahead hpass hgap)
    have ho := outer_lockGo r s
    refine ⟨lockGo r s, _, _, hexec _ (if_pos hgo), hl, rfl, rfl, rfl, hk, harmed, rfl, hbound,
      Cursor_start_position _, ?_, rfl, ?_⟩
    · simp [armedChannel, playItemOf_spot, Function.comp_def]
    simp only [outer, Outer.mk.injEq] at ho
    obtain ⟨-, htb, hintake, hem, hros, -⟩ := ho
    exact ⟨htb, hem, hintake, hros, (Quiet.lockGo r .refl).memory⟩

/-! ### The positions of a frame (R165, R166) -/

/-- A PLAYING or PADDING channel once it has taken the positions of a frame. -/
def plannedChannel (p : FramePass) (c : Channel) : Channel :=
  let tag := c.tag.getD 0
  let cursor := c.cursor.advance c.items c.padItem (p.countOf tag)
  { c with
    cursor := cursor
    plan := if p.disposition = .emitted
      then some ⟨p.number, tag, c.cursor.position, p.countOf tag, 0, c.cursor, c.breakId, c.items, c.padItem⟩ else c.plan
    state := if c.listedLength ≤ cursor.position then .padding else c.state
    counters := { c.counters with
      framesPlanned := bump c.counters.framesPlanned
      positionsPlanned := bumpBy c.counters.positionsPlanned (p.countOf tag) } }

/-- A state whose channels and event queue alone have changed. -/
theorem padReached_beside (k : Nat) (s : State) : { padReached k s with chans := s.chans, mon := s.mon } = s := by
  unfold padReached setChannelState
  split
  · rfl
  · split
    · split <;> rfl
    · rfl

theorem padReached_chan (hc : s.chans.chan[k]? = some c) (hplays : c.state = .playing ∨ c.state = .padding) :
    (padReached k s).chans.chan[k]?
      = some { c with state := if c.listedLength ≤ c.cursor.position then .padding else c.state } := by
  unfold padReached; rw [hc]; dsimp only
  rcases hplays with h | h
  · split
    · next hreached =>
      unfold setChannelState; rw [hc]
      exact (chan_updateChan_same _ hc).trans (by rw [if_pos hreached.2])
    · next hshort => rw [hc, if_neg (fun hreached => hshort ⟨h, hreached⟩)]
  · rw [if_neg (by simp [h]), hc, ← h, ite_self]

theorem planFrame_chan (hc : s.chans.chan[k]? = some c) (hplays : c.state = .playing ∨ c.state = .padding) :
    (planFrame p k s).chans.chan[k]? = some (plannedChannel p c) := by
  unfold planFrame; rw [hc]
  exact padReached_chan (chan_countChan_same _ (chan_updateChan_same _ hc)) hplays

theorem planFrame_beside (p : FramePass) (k : Nat) (s : State) :
    { planFrame p k s with chans := s.chans, mon := s.mon } = s := by
  unfold planFrame
  cases s.chans.chan[k]? with
  | none => rfl
  | some c =>
    dsimp only
    generalize hu : countChan k _ _ = u
    have hbeside := padReached_beside k u
    have hstart : { u with chans := s.chans, mon := s.mon } = s := by rw [← hu]; rfl
    rw [← hstart]
    exact congrArg (fun v : State => { v with chans := s.chans, mon := s.mon }) hbeside

theorem planFrame_store (p : FramePass) (k : Nat) (s : State) : (planFrame p k s).store = s.store := by
  have hstore := congrArg State.store (planFrame_beside p k s)
  exact hstore

/-- A step moves the position by one, or leaves it at its limit (R162). -/
theorem Cursor_step_position (items : List PlayItem) (pad : Option PlayItem) (x : Cursor) :
    (x.step items pad).position = bump x.position := by
  unfold Cursor.step Cursor.enterPad Cursor.enter
  dsimp only
  (repeat' split) <;> rfl

theorem Cursor_advance_position_le (items : List PlayItem) (pad : Option PlayItem) (n : Nat) (x : Cursor) :
    (x.advance items pad n).position ≤ x.position + n := by
  induction n generalizing x with
  | zero => exact le_rfl
  | succ n ih =>
    have hstep : (x.step items pad).position ≤ x.position + 1 := by
      rw [Cursor_step_position]; exact Nat.min_le_left _ _
    exact (ih (x.step items pad)).trans (by omega)

/-! ### The first pass of an interval (R164) -/

theorem setChannelState_chan (hc : s.chans.chan[k]? = some c) (new : ChannelState) (n : Nat) :
    (setChannelState k new n s).chans.chan[k]? = some { c with state := new } := by
  unfold setChannelState; rw [hc]; exact chan_updateChan_same _ hc

theorem setChannelState_store (k : Nat) (new : ChannelState) (n : Nat) (s : State) :
    (setChannelState k new n s).store = s.store := by
  unfold setChannelState; split <;> rfl

theorem channelPass_armed (hc : s.chans.chan[k]? = some c) (hbound : c.bound = some b) (harmed : c.state = .armed)
    (p : FramePass) : channelPass p k s = armedPass p k b s := by
  simp only [channelPass, hc, hbound, harmed]

/-- Settles O41: the channel is PLAYING, the record moves to AIRING, and the frame takes positions from 0. -/
theorem firstPassOfTheIntervalStartsThePlay : Obligations.FirstPassOfTheIntervalStartsThePlay := by
  unfold Obligations.FirstPassOfTheIntervalStartsThePlay
  intro p k c b r tag s hc harmed hbound htag hr hlocked hout hin hknown hemitted hstart _ hshort
  have hpass : channelPass p k s
      = planFrame p k (channelMove b.id .airing none (setChannelState k .playing (s.playPosition k) s)) := by
    rw [channelPass_armed hc hbound harmed, armedPass, if_neg (not_le.2 hin), if_neg (not_lt.2 hout),
      if_neg (by simp [hknown])]
  rw [hpass]
  have hr' : (setChannelState k .playing (s.playPosition k) s).record? b.id = some r :=
    (record?_of_table (congrArg CueDecoder.table (table_setChannelState _ _ _ _)) _).trans hr
  obtain ⟨l, hl⟩ := record?_channelMove (new := .airing) none hr' (by rw [hlocked]; rfl)
  have hplays := setChannelState_chan hc .playing (s.playPosition k)
  have hstock := stock_channelMove b.id .airing none (setChannelState k .playing (s.playPosition k) s)
  rw [← chans_of_stock hstock] at hplays
  have hplanned := planFrame_chan (p := p) hplays (.inl rfl)
  have hposition : c.cursor.position = 0 := by rw [hstart]; exact Cursor_start_position _
  have hadvanced := Cursor_advance_position_le c.items c.padItem (p.countOf tag) c.cursor
  have houter : outer (planFrame p k (channelMove b.id .airing none
      (setChannelState k .playing (s.playPosition k) s))) = outer s := by simp
  refine ⟨_, _, (record?_of_table (congrArg CueDecoder.table (table_planFrame _ _ _)) _).trans hl, rfl, rfl, hplanned,
    ?_, ?_, ?_, ?_, em_of_outer houter, tb_of_outer houter⟩
  · exact if_neg (Nat.not_le.2 (by simp only [htag, Option.getD_some]; omega))
  · simp only [plannedChannel, htag, Option.getD_some]
  · simp only [plannedChannel, htag, Option.getD_some, hemitted, if_true, hposition]; rfl
  · rw [planFrame_store, store_of_stock hstock, setChannelState_store]

end Sys2Proof.Proofs
end

section
/-! SUPPORT. What a hand-off to the agreement unit keeps (R137, R148, R149, R176): a property that the elementary steps of
a recomputation keep holds after a recomputation, an unbind and the leaving of the table. -/

namespace Sys2Proof.Proofs

open Sys2Proof Sys2Proof.Machine Sys2Proof.Laws

-- As in the tests: one theorem after another, within the memory that the check leaves for threads.
set_option Elab.async false

variable {s t : State} {id n k j : Nat} {r : BreakRecord} {c : Channel} {P : State → Prop}

/-! ### The first steps of an unbind and of a HOLD -/

theorem chan_parted_same (hc : s.chans.chan[k]? = some c) : (parted k s).chans.chan[k]? = some c.unbound := by
  rw [parted_some hc]; exact chan_updateChan_same _ hc

theorem chan_parted_other (hn : j ≠ k) (s : State) : (parted k s).chans.chan[j]? = s.chans.chan[j]? := by
  unfold parted; split
  · rfl
  · exact chan_updateChan_other _ hn s

theorem breakIds_parted (k : Nat) (s : State) : (parted k s).breakIds = s.breakIds := by
  unfold parted; split
  · rfl
  · exact breakIds_of_tabled (by simp)

theorem record?_parted_same (hc : s.chans.chan[k]? = some c) (hr : s.record? c.breakId = some r) :
    (parted k s).record? c.breakId = some { r with channel := none } := by
  rw [parted_some hc]
  exact record?_updateRecord_same (f := fun x => { x with channel := none }) (fun _ => rfl) hr

theorem record?_parted_other (hc : s.chans.chan[k]? = some c) (hn : id ≠ c.breakId) :
    (parted k s).record? id = s.record? id := by
  rw [parted_some hc]
  exact record?_updateRecord_other (f := fun x => { x with channel := none }) (fun _ => rfl) hn _

/-- A record keeps all but its channel when a channel is parted from its break. -/
theorem record?_parted (k : Nat) (hr : s.record? id = some r) :
    ∃ o, (o = r.channel ∨ o = none) ∧ (parted k s).record? id = some { r with channel := o } := by
  cases hc : s.chans.chan[k]? with
  | none => exact ⟨r.channel, .inl rfl, by rw [parted_none hc]; exact hr⟩
  | some c =>
    by_cases hid : id = c.breakId
    · subst hid; exact ⟨none, .inr rfl, record?_parted_same hc hr⟩
    · exact ⟨r.channel, .inl rfl, (record?_parted_other hc hid).trans hr⟩

/-- A DECIDED_GO record moved to HOLD with its stance, still with its channel (R149). -/
def heldRecord (r : BreakRecord) (s : State) : State :=
  updateRecord r.id (fun x => { x with stance := .hold .self }) (moveState r.id .decidedHold s)

/-- And parted from its channel, if it has one. -/
def heldParted (r : BreakRecord) (s : State) : State :=
  match r.channel with
  | some k => parted k (heldRecord r s)
  | none => heldRecord r s

theorem heldParted_some (hk : r.channel = some k) (s : State) : heldParted r s = parted k (heldRecord r s) := by
  unfold heldParted; rw [hk]

theorem heldParted_none (hk : r.channel = none) (s : State) : heldParted r s = heldRecord r s := by
  unfold heldParted; rw [hk]

theorem chans_heldRecord (r : BreakRecord) (s : State) : (heldRecord r s).chans = s.chans :=
  chans_of_stock (by simp [heldRecord])

theorem breakIds_heldParted (r : BreakRecord) (s : State) : (heldParted r s).breakIds = s.breakIds := by
  have hheld : (heldRecord r s).breakIds = s.breakIds := breakIds_of_tabled (by simp [heldRecord])
  cases hk : r.channel with
  | none => rw [heldParted_none hk, hheld]
  | some k => rw [heldParted_some hk, breakIds_parted, hheld]

theorem record?_heldRecord_same (hr : s.record? r.id = some r) :
    (heldRecord r s).record? r.id = some { r with state := .decidedHold, stance := .hold .self } :=
  record?_updateRecord_same (f := fun x => { x with stance := .hold .self }) (fun _ => rfl)
    (record?_moveState_same hr .decidedHold)

theorem record?_heldRecord_other (hn : id ≠ r.id) (s : State) : (heldRecord r s).record? id = s.record? id :=
  (record?_updateRecord_other (f := fun x => { x with stance := .hold .self }) (fun _ => rfl) hn _).trans
    (record?_moveState_other hn _ s)

/-- A record whose channel a HOLD of another cannot change. -/
theorem record?_heldParted_other {x : BreakRecord} (hn : id ≠ x.id) (hr : s.record? id = some r)
    (hchannel : r.channel = none) : (heldParted x s).record? id = some r := by
  have hheld := (record?_heldRecord_other hn s).trans hr
  cases hk : x.channel with
  | none => rw [heldParted_none hk, hheld]
  | some k =>
    obtain ⟨o, ho, hparted⟩ := record?_parted k hheld
    rw [heldParted_some hk, hparted]
    rcases ho with rfl | rfl
    · rfl
    · rw [← hchannel]

/-! ### What a hand-off keeps -/

/-- A property that the steps of a recomputation keep: changes of the store, reports, an OPEN record's stance, and a
DECIDED_GO record that goes to HOLD. -/
structure HandOff (P : State → Prop) : Prop extends OffStore P where
  urgent : ∀ {s : State}, P s → P (urgent s)
  count : ∀ f {s : State}, P s → P (countAgree f s)
  stance : ∀ {s : State} {id : Nat} {r : BreakRecord} (v : Stance), s.record? id = some r → r.state = .openState → P s →
    P (updateRecord id (fun x => { x with stance := v }) s)
  held : ∀ {s : State} {r : BreakRecord}, s.record? r.id = some r → (s.breakIds.Nodup → r.state = .decidedGo) → P s →
    P (heldParted r s)

theorem HandOff.report (w : HandOff P) (id : Nat) (o : Option Stance) (v : Stance) (h : P s) :
    P (reportStance id o v s) := w.count _ (w.raise _ h)

theorem HandOff.refreshRecord (w : HandOff P) (id : Nat) (h : P s) : P (refreshRecord id s) := by
  unfold Machine.refreshRecord; split
  · exact h
  · next r hr =>
    split
    · next hopen =>
      unfold setStance; rw [hr]; dsimp only; split
      · exact h
      · exact w.report _ _ _ (w.urgent (w.stance _ hr hopen h))
    · exact h

theorem HandOff.refreshOpen (w : HandOff P) (h : P s) : P (refreshOpen s) :=
  forEach_holds (fun id _ _ => w.refreshRecord id) h

/-- What holds once a going record is held and parted from its channel holds to the end of its HOLD (R149). -/
theorem HandOff.afterHeld (w : HandOff P) (hr : s.record? r.id = some r) (hparted : P (heldParted r s)) :
    P (holdRecord r.id .self s) := by
  unfold Machine.holdRecord; rw [hr]; dsimp only
  refine w.refreshOpen (w.count _ (w.urgent (w.report _ _ _ ?_)))
  cases hk : r.channel with
  | none => rw [heldParted_none hk] at hparted; exact hparted
  | some k => rw [heldParted_some hk] at hparted; exact w.unbindChannel w.refreshOpen k hparted

theorem HandOff.holdRecord (w : HandOff P) (hr : s.record? id = some r)
    (hgo : s.breakIds.Nodup → r.state = .decidedGo) (h : P s) : P (holdRecord id .self s) := by
  obtain rfl := record?_id hr
  exact w.afterHeld hr (w.held hr hgo h)

theorem reconcileFails_go (h : reconcileFails s r = true) : r.state = .decidedGo := by
  have hgo := (Bool.and_eq_true _ _ ▸ h).1
  simpa using hgo

theorem HandOff.reconcileBut (w : HandOff P) (x n : Nat) (h : P s) : P (reconcileBut x n s) := by
  induction n generalizing s with
  | zero => exact w.refreshOpen h
  | succ n ih =>
    unfold Machine.reconcileBut
    cases hr : s.cues.table.find? fun r => r.id != x && reconcileFails s r with
    | none => exact w.refreshOpen h
    | some r =>
      have hmem := List.mem_of_find?_eq_some hr
      have hgo := reconcileFails_go (Bool.and_eq_true _ _ ▸ List.find?_some hr).2
      obtain ⟨r', hr'⟩ := Option.isSome_iff_exists.1
        (record?_isSome_iff.2 (List.mem_map_of_mem (f := BreakRecord.id) hmem))
      refine ih (w.holdRecord hr' (fun hids => ?_) h)
      rw [record?_of_mem hids hmem] at hr'
      rw [← Option.some.inj hr']; exact hgo

theorem HandOff.refreshBut (w : HandOff P) (x : Nat) (h : P s) : P (refreshBut x s) := w.reconcileBut _ _ h
theorem HandOff.refresh (w : HandOff P) (h : P s) : P (refresh s) := w.refreshBut _ h
theorem HandOff.unbind (w : HandOff P) (k : Nat) (h : P (parted k s)) : P (unbind k s) := w.unbindChannel w.refresh k h

/-- A record leaves the table (R100): what its parting from its channel and its leaving keep. -/
theorem HandOff.removeRecord (w : HandOff P) (hr : s.record? id = some r)
    (hparted : ∀ k, r.channel = some k → P (parted k s)) (hdrop : ∀ {u}, P u → P (dropRecord id u))
    (h : r.channel = none → P s) : P (removeRecord id s) := by
  unfold Machine.removeRecord; rw [hr]; dsimp only
  refine w.raise _ (w.refresh (w.urgent (hdrop (w.releaseSpots (w.refreshBut id) _ ?_))))
  cases hk : r.channel with
  | none => exact h hk
  | some k => exact w.unbindChannel (w.refreshBut id) k (hparted k hk)

/-! ### An unbound channel, and a record that is no longer decided -/

/-- A channel in the state that an unbind leaves stays in it. -/
theorem handOff_idles (k : Nat) (hc : c.unbound = c) : HandOff fun u => u.chans.chan[k]? = some c := by
  have hd : OfDesk fun u => u.chans.chan[k]? = some c := ⟨fun ht h => by rw [chan_of_desk ht]; exact h⟩
  refine { hd.offStore with
    urgent := fun {s} h => hd.of_eq (desk_urgent s) h
    count := fun f _ h => h
    stance := fun v _ _ h => h
    held := fun {s r} _ _ h => ?_ }
  have hheld : (heldRecord r s).chans.chan[k]? = some c := by rw [chans_heldRecord]; exact h
  cases hk : r.channel with
  | none => rw [heldParted_none hk]; exact hheld
  | some j =>
    rw [heldParted_some hk]
    by_cases hj : k = j
    · subst hj; rw [chan_parted_same hheld, hc]
    · rw [chan_parted_other hj]; exact hheld

/-- Neither OPEN nor DECIDED_GO, and with no channel: no recomputation changes such a record (R137, R148). -/
def atRest (r : BreakRecord) : Prop := r.state ≠ .openState ∧ r.state ≠ .decidedGo ∧ r.channel = none

theorem handOff_rests (hrest : atRest r) :
    HandOff fun u => u.breakIds.Nodup ∧ u.record? id = some r := by
  obtain ⟨hopen, hgo, hchannel⟩ := hrest
  have hd : OfDesk fun u => u.breakIds.Nodup ∧ u.record? id = some r := ⟨fun {s t} ht h => by
    rw [show t.breakIds = s.breakIds from congrArg (List.map BreakRecord.id) (table_of_desk ht), record?_of_desk ht]
    exact h⟩
  refine { hd.offStore with
    urgent := fun {s} h => hd.of_eq (desk_urgent s) h
    count := fun f _ h => h
    stance := fun {s n x} v hx hxopen h => ⟨?_, ?_⟩
    held := fun {s x} hx hxgo h => ⟨?_, record?_heldParted_other (fun hid => ?_) h.2 hchannel⟩ }
  · rw [breakIds_of_tabled (tabled_updateRecord n (fun x => { x with stance := v }) s fun _ => rfl)]; exact h.1
  · refine (record?_updateRecord_other (f := fun x => { x with stance := v }) (fun _ => rfl) (fun hid => ?_) s).trans h.2
    rw [← hid, h.2] at hx
    exact hopen (Option.some.inj hx ▸ hxopen)
  · rw [breakIds_heldParted]; exact h.1
  · rw [← hid, h.2] at hx
    exact hgo (Option.some.inj hx ▸ hxgo h.1)

/-- An unbind, for the channel and for the record of its break, which is past the decision (R176). -/
theorem unbind_spec (hc : s.chans.chan[k]? = some c) (hids : s.breakIds.Nodup) (hr : s.record? c.breakId = some r)
    (hopen : r.state ≠ .openState) (hgo : r.state ≠ .decidedGo) :
    (unbind k s).chans.chan[k]? = some c.unbound
    ∧ (unbind k s).record? c.breakId = some { r with channel := none } := by
  have hrests := handOff_rests (id := c.breakId) (r := { r with channel := none }) ⟨hopen, hgo, rfl⟩
  refine ⟨(handOff_idles k rfl).unbind k (chan_parted_same hc), (hrests.unbind k ⟨?_, record?_parted_same hc hr⟩).2⟩
  rw [breakIds_parted]; exact hids

end Sys2Proof.Proofs
end

section
/-! SUPPORT. The end of a break: at its end instant, at a pass, and when its channel loses step or is overridden; and its
removal (R95, R96, R99, R100, R172 to R176). -/

namespace Sys2Proof.Proofs

open Sys2Proof Sys2Proof.Machine Sys2Proof.Laws

-- As in the tests: one theorem after another, within the memory that the check leaves for threads.
set_option Elab.async false

variable {s t : State} {id k : Nat} {r : BreakRecord} {c : Channel} {b : BoundBreak} {cause : AbandonCause}

/-! ### The removal (R96, R100) -/

/-- A record whose removal instant has not come stays (R96). -/
theorem settleRemoval_of_ahead {x : Time} (hr : s.record? id = some r) (hx : r.removalAt = some x)
    (hahead : s.tb.now < x) :
    settleRemoval id s = s := by
  unfold settleRemoval; rw [hr]; dsimp only
  have hdue : isDue s.tb.now r.removalAt = false := by
    rw [hx]; exact decide_eq_false (not_le.2 hahead)
  rw [hdue, Bool.and_false, if_neg Bool.false_ne_true]

/-- A leaving record once its channel has unbound and its spots are released (R100). -/
def releasedRecord (r : BreakRecord) (s : State) : State :=
  forEach (releaseSpot (refreshBut r.id)) r.spotsNamed (match r.channel with
    | some k => unbindChannel (refreshBut r.id) k s
    | none => s)

theorem removeRecord_some (hr : s.record? id = some r) : removeRecord id s
    = raise (.breakRemoved id r.state) (refresh (urgent (dropRecord id (releasedRecord r s)))) := by
  obtain rfl := record?_id hr
  unfold removeRecord; rw [hr]; rfl

theorem tabled_releasedRecord (r : BreakRecord) (s : State) : tabled (releasedRecord r s) = tabled s := by
  refine (forEach_keeps tabled _ (tabled_releaseSpot (tabled_refreshBut r.id)) r.spotsNamed _).trans ?_
  cases r.channel with
  | none => rfl
  | some k => exact tabled_unbindChannel (tabled_refreshBut r.id) k s

theorem breakIds_removeRecord (hr : s.record? id = some r) :
    (removeRecord id s).breakIds = s.breakIds.filter fun n => n != id := by
  rw [removeRecord_some hr, ← breakIds_of_tabled (tabled_releasedRecord r s), ← breakIds_dropRecord]
  exact (breakIds_refresh _).trans (breakIds_urgent _)

theorem record?_removeRecord (hr : s.record? id = some r) : (removeRecord id s).record? id = none := by
  have hgone : id ∉ (removeRecord id s).breakIds := by rw [breakIds_removeRecord hr]; simp
  rw [← record?_isSome_iff] at hgone
  exact Option.not_isSome_iff_eq_none.1 hgone

/-! ### The end of a break (R174) -/

theorem breakIds_channelMove (id : Nat) (new : BreakState) (cause : Option AbandonCause) (s : State) :
    (channelMove id new cause s).breakIds = s.breakIds := breakIds_of_tabled (tabled_channelMove id new cause s)

/-- The record once its break has ended or been given up: moved, and with no channel (R96, R176). -/
def endedRecord (new : BreakState) (cause : Option AbandonCause) (l : List Nat) (r : BreakRecord) : BreakRecord :=
  { movedRecord new cause r with splitReported := l, channel := none }

/-- A move to ENDED or ABANDONED and the unbind after it. -/
theorem endMove_spec {new : BreakState} (cause : Option AbandonCause) (hc : s.chans.chan[k]? = some c)
    (hids : s.breakIds.Nodup) (hr : s.record? c.breakId = some r) (hallowed : moveAllowed r.state new = true)
    (hover : new.over = true) :
    (unbind k (channelMove c.breakId new cause s)).chans.chan[k]? = some c.unbound
    ∧ ∃ l, (unbind k (channelMove c.breakId new cause s)).record? c.breakId = some (endedRecord new cause l r) := by
  obtain ⟨l, hl⟩ := record?_channelMove cause hr hallowed
  rw [← chans_of_stock (stock_channelMove c.breakId new cause s)] at hc
  rw [← breakIds_channelMove c.breakId new cause s] at hids
  have hstate : ({ movedRecord new cause r with splitReported := l } : BreakRecord).state = new := rfl
  obtain ⟨hchan, hrecord⟩ := unbind_spec hc hids hl (by rw [hstate]; rintro rfl; cases hover)
    (by rw [hstate]; rintro rfl; cases hover)
  exact ⟨hchan, l, hrecord⟩

theorem removalAt_of_over {new : BreakState} (hover : new.over = true) (cause : Option AbandonCause) (l : List Nat)
    (r : BreakRecord) : (endedRecord new cause l r).removalAt = some (r.cIn + 20000000) := by
  have hnew : new ≠ .airing := by rintro rfl; cases hover
  exact if_neg hnew

theorem abandonCause_of_over {new : BreakState} (hover : new.over = true) (cause : Option AbandonCause) (l : List Nat)
    (r : BreakRecord) : (endedRecord new cause l r).abandonCause = cause := by
  have hnew : new ≠ .airing := by rintro rfl; cases hover
  exact if_neg hnew

/-- The end of a break on its channel, its removal instant not yet come (R174). -/
theorem endPlay_spec (hc : s.chans.chan[k]? = some c) (hids : s.breakIds.Nodup) (hr : s.record? c.breakId = some r)
    (hallowed : moveAllowed r.state .ended = true) (hahead : s.tb.now < r.cIn + 20000000) :
    (endPlay k s).chans.chan[k]?
      = some { c.unbound with counters := { c.counters with ended := bump c.counters.ended } }
    ∧ ∃ l, (endPlay k s).record? c.breakId = some (endedRecord .ended none l r) := by
  obtain ⟨hchan, l, hrecord⟩ := endMove_spec none hc hids hr hallowed rfl
  have htb : (unbind k (channelMove c.breakId .ended none s)).tb = s.tb := tb_of_outer (by simp)
  have hcounted : ∀ f, (countChan k f (unbind k (channelMove c.breakId .ended none s))).record? c.breakId
      = some (endedRecord .ended none l r) := fun _ => hrecord
  unfold endPlay; rw [hc]; dsimp only
  rw [settleRemoval_of_ahead (hcounted _) (removalAt_of_over rfl _ _ _) (by rw [countChan_tb, htb]; exact hahead)]
  exact ⟨chan_countChan_same _ hchan, l, hrecord⟩

/-- What giving a break up counts (R172, R173). -/
def gaveUp (cause : AbandonCause) (n : ChannelCounters) : ChannelCounters :=
  match cause with
  | .lostStep => { n with lostSteps := bump n.lostSteps }
  | .override => { n with overrides := bump n.overrides }

theorem giveUp_some (cause : AbandonCause) (hc : s.chans.chan[k]? = some c) : giveUp cause k s
    = settleRemoval c.breakId (countChan k (gaveUp cause) (setLatch .split
        (raise (.playAbandoned k c.breakId cause c.state c.cursor.position)
          (unbind k (channelMove c.breakId .abandoned (some cause)
            (updateChan k (fun x => { x with plan := none }) s)))))) := by
  unfold giveUp; rw [hc]
  cases cause <;> rfl

theorem latchSplit_setLatch (s : State) : (setLatch .split s).sc.latchSplit = true := by
  unfold setLatch putLatch; split
  · next hlatched => exact hlatched
  · rfl

/-- A break that its channel gives up, its removal instant not yet come (R172, R173). -/
theorem giveUp_spec (hc : s.chans.chan[k]? = some c) (hids : s.breakIds.Nodup) (hr : s.record? c.breakId = some r)
    (hallowed : moveAllowed r.state .abandoned = true) (hahead : s.tb.now < r.cIn + 20000000) :
    (giveUp cause k s).chans.chan[k]? = some { c.unbound with plan := none, counters := gaveUp cause c.counters }
    ∧ (giveUp cause k s).sc.latchSplit = true ∧ (giveUp cause k s).breakIds = s.breakIds
    ∧ ∃ l, (giveUp cause k s).record? c.breakId = some (endedRecord .abandoned (some cause) l r) := by
  obtain ⟨hchan, l, hrecord⟩ := endMove_spec (some cause) (k := k) (c := { c with plan := none })
    (s := updateChan k (fun x => { x with plan := none }) s) (new := .abandoned) (chan_updateChan_same _ hc) hids hr
    hallowed rfl
  rw [giveUp_some cause hc]
  have hbreak : ({ c with plan := none } : Channel).breakId = c.breakId := rfl
  rw [hbreak] at hchan hrecord
  generalize hu : unbind k (channelMove c.breakId .abandoned (some cause)
    (updateChan k (fun x => { x with plan := none }) s)) = u at hchan hrecord ⊢
  have htb : u.tb = s.tb := by rw [← hu]; exact tb_of_outer (by simp)
  have hlatched : ∀ e f, desk (countChan k f (setLatch .split (raise e u))) = desk (countChan k f u) := fun e f => by
    have hchans := chan_of_desk (desk_setLatch .split (raise e u))
    have htable := table_of_desk (desk_setLatch .split (raise e u))
    unfold desk; rw [countChan_cues, countChan_chans, countChan_cues, countChan_chans, htable, hchans]; rfl
  have hplaced := fun e => (record?_of_desk (hlatched e (gaveUp cause)) c.breakId).trans hrecord
  rw [settleRemoval_of_ahead (hplaced _) (removalAt_of_over rfl _ _ _)]
  · refine ⟨by rw [chan_of_desk (hlatched _ _)]; exact chan_countChan_same _ hchan, latchSplit_setLatch _, ?_,
      l, hplaced _⟩
    have hids : u.breakIds = s.breakIds := by
      rw [← hu]; exact (breakIds_of_tabled (tabled_unbind k _)).trans (breakIds_channelMove _ _ _ _)
    exact (congrArg (List.map BreakRecord.id) (table_of_desk (hlatched _ _))).trans hids
  · rw [countChan_tb, tb_of_outer (outer_setLatch _ _)]; rw [← htb] at hahead; exact hahead

end Sys2Proof.Proofs
end

section
/-! The obligations about the end of a break and about the passes and gaps at its channel (Chapters 5 and 9). -/

namespace Sys2Proof.Proofs

open Sys2Proof Sys2Proof.Machine Sys2Proof.Laws

-- As in the tests: one theorem after another, within the memory that the check leaves for threads.
set_option Elab.async false

variable {s t : State} {id k : Nat} {r : BreakRecord} {c : Channel} {b : BoundBreak} {p : FramePass}

/-! ### END_INSTANT and REMOVAL_INSTANT (R95, R96, R99, R100) -/

theorem exec_endInstant_bound (h : dueRecord id .endInstant s = some r) (hk : r.channel = some k) :
    exec (.endInstant id) s = .next (endPlay k s) := by simp only [exec, execEndInstant, h, hk]

theorem exec_endInstant_unbound (h : dueRecord id .endInstant s = some r) (hk : r.channel = none) :
    exec (.endInstant id) s = .next (settleRemoval id (channelMove id .ended none s)) := by
  simp only [exec, execEndInstant, h, hk]

theorem exec_removalInstant (h : dueRecord id .removal s = some r) :
    exec (.removalInstant id) s = .next (removeRecord id s) := by simp only [exec, execRemovalInstant, h]

/-- A record with no channel ends, its removal instant not yet come (R95, R96). -/
theorem endUnbound_spec (hr : s.record? id = some r) (hallowed : moveAllowed r.state .ended = true)
    (hnone : r.channel = none) (hahead : s.tb.now < r.cIn + 20000000) :
    settleRemoval id (channelMove id .ended none s) = channelMove id .ended none s
    ∧ ∃ l, (channelMove id .ended none s).record? id = some (endedRecord .ended none l r) := by
  obtain ⟨l, hl⟩ := record?_channelMove (new := .ended) none hr hallowed
  have hended : ({ movedRecord .ended none r with splitReported := l } : BreakRecord) = endedRecord .ended none l r := by
    unfold endedRecord; rw [← hnone]; rfl
  rw [hended] at hl
  refine ⟨settleRemoval_of_ahead hl (removalAt_of_over rfl _ _ _) ?_, l, hl⟩
  rw [tb_of_outer (outer_channelMove _ _ _ _)]; exact hahead

/-- Settles O29: the end with a channel and without one, and the removal. -/
theorem breaksEndAndLeaveTheTable : Obligations.BreaksEndAndLeaveTheTable := by
  unfold Obligations.BreaksEndAndLeaveTheTable
  refine ⟨fun id r s hbreaks hchannels hdue hruns hahead => ?_, fun id r s hdue => ?_⟩
  · have hr := (dueRecord_some hdue).1
    obtain rfl := record?_id hr
    have hallowed : moveAllowed r.state .ended = true := by
      rcases hruns with h | h | h <;> rw [h] <;> rfl
    cases hk : r.channel with
    | none =>
      obtain ⟨hsettled, l, hl⟩ := endUnbound_spec hr hallowed hk hahead
      have ho := outer_channelMove r.id .ended none s
      have hmemory := (Quiet.refl.channelMove (s := s) r.id .ended none).memory
      have hexec := exec_endInstant_unbound hdue hk
      rw [hsettled] at hexec
      simp only [outer, Outer.mk.injEq] at ho
      obtain ⟨-, htb, hintake, hem, hros, -⟩ := ho
      exact ⟨_, _, hexec, hl, rfl, rfl, removalAt_of_over rfl _ _ _, rfl, rfl, rfl,
        fun _ _ h => (nomatch h), htb, hem, hintake, hros, hmemory⟩
    | some k =>
      obtain ⟨-, c, b, hc, hbound, hb⟩ := hchannels.reserved r (record?_mem hr) k hk
      have hid : c.breakId = r.id := (breakId_of_bound hbound).trans hb
      obtain ⟨hchan, l, hl⟩ := endPlay_spec hc hbreaks.ids (by rw [hid]; exact hr) hallowed hahead
      rw [hid] at hl
      have hexec := exec_endInstant_bound hdue hk
      have ho := outer_endPlay k s
      simp only [outer, Outer.mk.injEq] at ho
      obtain ⟨-, htb, hintake, hem, hros, -⟩ := ho
      refine ⟨_, _, hexec, hl, rfl, rfl, removalAt_of_over rfl _ _ _, rfl, rfl, rfl, fun j d hj hd => ?_, htb, hem, hintake,
        hros, (Quiet.refl.endPlay k).memory⟩
      obtain rfl : k = j := Option.some.inj hj
      obtain rfl : c = d := Option.some.inj (hc.symm.trans hd)
      exact ⟨_, hchan, rfl, rfl, rfl, rfl, rfl⟩
  · have hr := (dueRecord_some hdue).1
    have ho := outer_removeRecord id s
    simp only [outer, Outer.mk.injEq] at ho
    obtain ⟨-, htb, hintake, hem, hros, -⟩ := ho
    exact ⟨_, exec_removalInstant hdue, record?_removeRecord hr, breakIds_removeRecord hr, htb, hem, hintake, hros,
      (Quiet.refl.removeRecord id).memory⟩

/-! ### Passes and gaps at a channel with its break (R163 to R166, R170 to R172) -/

theorem channelPass_playing (hc : s.chans.chan[k]? = some c) (hbound : c.bound = some b)
    (hplays : c.state = .playing ∨ c.state = .padding) (p : FramePass) : channelPass p k s = playPass p k b s := by
  rcases hplays with h | h <;> simp only [channelPass, hc, hbound, h]

theorem channelPass_reserved (hc : s.chans.chan[k]? = some c) (hbound : c.bound = some b) (h : c.state = .reserved)
    (p : FramePass) : channelPass p k s = s := by
  simp only [channelPass, hc, hbound, h]

theorem channelGap_playing (hc : s.chans.chan[k]? = some c) (hplays : c.state = .playing ∨ c.state = .padding)
    (at_ : Time) : channelGap at_ k s = giveUp .lostStep k s := by
  rcases hplays with h | h <;> simp only [channelGap, hc, h]

theorem channelGap_armed (hc : s.chans.chan[k]? = some c) (hbound : c.bound = some b) (h : c.state = .armed)
    (at_ : Time) : channelGap at_ k s = if b.cOut < at_ then giveUp .lostStep k s else s := by
  simp only [channelGap, hc, hbound, h]

theorem channelGap_reserved (hc : s.chans.chan[k]? = some c) (h : c.state = .reserved) (at_ : Time) :
    channelGap at_ k s = s := by simp only [channelGap, hc, h]

/-- The break of a channel has ended in the state and with the cause given, the channel IDLE with the plan given; only
the count of it has moved. -/
def EndsIn (c : Channel) (b : BoundBreak) (r : BreakRecord) (k : Nat) (s : State) (state : BreakState)
    (cause : Option AbandonCause) (plan : Option FramePlan) (t : State) : Prop :=
  (∃ r', t.record? b.id = some r' ∧ r'.state = state ∧ r'.stance = movedStance state ∧ r'.abandonCause = cause
    ∧ r'.removalAt = some (r.cIn + 20000000) ∧ r'.channel = none)
  ∧ ∃ x, t.chans.chan[k]? = some x ∧ x.state = .idle ∧ x.bound = none ∧ x.plan = plan
    ∧ x.counters = { c.counters with
      lostSteps := if cause = some .lostStep then min (c.counters.lostSteps + 1) 4294967295 else c.counters.lostSteps
      ended := if state = .ended then min (c.counters.ended + 1) 4294967295 else c.counters.ended }
    ∧ t.store.memory = s.store.memory ∧ t.em = s.em ∧ t.tb = s.tb ∧ t.ros = s.ros

section OneBreak

variable (hc : s.chans.chan[k]? = some c) (hbound : c.bound = some b) (hids : s.breakIds.Nodup)
  (hr : s.record? b.id = some r) (hruns : r.state = .lockedGo ∨ r.state = .airing) (hahead : s.tb.now < r.cIn + 20000000)
include hc hbound hids hr hruns hahead

theorem endsIn_endPlay : EndsIn c b r k s .ended none c.plan (endPlay k s) := by
  have hid := breakId_of_bound hbound
  obtain ⟨hchan, l, hl⟩ := endPlay_spec hc hids (by rw [hid]; exact hr)
    (by rcases hruns with h | h <;> rw [h] <;> rfl) hahead
  rw [hid] at hl
  have ho := outer_endPlay k s
  exact ⟨⟨_, hl, rfl, rfl, abandonCause_of_over rfl _ _ _, removalAt_of_over rfl _ _ _, rfl⟩, _, hchan, rfl, rfl, rfl, rfl,
    (Quiet.refl.endPlay k).memory, em_of_outer ho, tb_of_outer ho, congrArg Outer.ros ho⟩

theorem endsIn_lostStep : EndsIn c b r k s .abandoned (some .lostStep) none (giveUp .lostStep k s)
    ∧ (giveUp .lostStep k s).sc.latchSplit = true := by
  have hid := breakId_of_bound hbound
  obtain ⟨hchan, hlatch, -, l, hl⟩ := giveUp_spec (cause := .lostStep) hc hids (by rw [hid]; exact hr)
    (by rcases hruns with h | h <;> rw [h] <;> rfl) hahead
  rw [hid] at hl
  have ho := outer_giveUp .lostStep k s
  exact ⟨⟨⟨_, hl, rfl, rfl, abandonCause_of_over rfl _ _ _, removalAt_of_over rfl _ _ _, rfl⟩, _, hchan, rfl, rfl, rfl, rfl,
    (Quiet.refl.giveUp .lostStep k).memory, em_of_outer ho, tb_of_outer ho, congrArg Outer.ros ho⟩, hlatch⟩

end OneBreak

/-- Settles O42: each case of a pass and of a gap by the operation that the channel's state and the instants choose. -/
theorem laterPassesGapsAndLossOfStep : Obligations.LaterPassesGapsAndLossOfStep := by
  unfold Obligations.LaterPassesGapsAndLossOfStep
  intro k c b r tag s hbreaks hchannels hk hc hbound htag hr hruns hahead ends lost playing
  have hid := breakId_of_bound hbound
  have hended : ends .ended none c.plan (endPlay k s) := endsIn_endPlay hc hbound hbreaks.ids hr hruns hahead
  have hlost : lost (giveUp .lostStep k s) := endsIn_lostStep hc hbound hbreaks.ids hr hruns hahead
  refine ⟨fun p => ⟨fun hplays hout hin hknown => ?_, fun hstate hin => ?_, fun hplays hin hunknown => ?_,
    fun harmed hout hin hunknown => ?_, fun hstays => ?_⟩, fun at_ => ⟨fun hstate => ?_, fun hstays => ?_⟩⟩
  · have hpass : channelPass p k s = planFrame p k s := by
      rw [channelPass_playing hc hbound hplays, playPass, if_neg (not_le.2 hin), if_neg (by simp [hknown]),
        if_neg (not_lt.2 hout)]
    intro t cursor
    have ht : t = planFrame p k s := hpass
    have hplanned := planFrame_chan (p := p) hc hplays
    simp only [plannedChannel, hid, show c.tag.getD 0 = tag by rw [htag]; rfl] at hplanned
    rw [ht]
    exact ⟨hplanned, planFrame_beside p k s⟩
  · rcases hstate with hplays | harmed
    · rw [channelPass_playing hc hbound hplays, playPass, if_pos hin]; exact hended
    · rw [channelPass_armed hc hbound harmed, armedPass, if_pos hin]; exact hended
  · rw [channelPass_playing hc hbound hplays, playPass, if_neg (not_le.2 hin), if_pos hunknown]; exact hlost
  · rw [channelPass_armed hc hbound harmed, armedPass, if_neg (not_le.2 hin), if_neg (not_lt.2 hout), if_pos hunknown]
    exact hlost
  · rcases hstays with hreserved | ⟨harmed, hearly, hspan⟩ | ⟨hplays, hearly, hin, hknown⟩
    · exact channelPass_reserved hc hbound hreserved p
    · rw [channelPass_armed hc hbound harmed, armedPass, if_neg (not_le.2 (hearly.trans hspan)), if_pos hearly]
    · rw [channelPass_playing hc hbound hplays, playPass, if_neg (not_le.2 hin), if_neg (by simp [hknown]),
        if_pos hearly]
  · rcases hstate with hplays | ⟨harmed, hlate⟩
    · rw [channelGap_playing hc hplays]; exact hlost
    · rw [channelGap_armed hc hbound harmed, if_pos hlate]; exact hlost
  · rcases hstays with hreserved | ⟨harmed, hearly⟩
    · exact channelGap_reserved hc hreserved at_
    · rw [channelGap_armed hc hbound harmed, if_neg (not_lt.2 hearly)]

end Sys2Proof.Proofs
end

section
/-! The decision of a break (R143 to R146): the record, the channel and the store after a GO and after a HOLD. -/

namespace Sys2Proof.Proofs

open Sys2Proof Sys2Proof.Machine Sys2Proof.Laws

-- As in the tests: one theorem after another, within the memory that the check leaves for threads.
set_option Elab.async false

variable {s t : State} {id k : Nat} {r : BreakRecord} {c : Channel}

/-! ### What a protected spot keeps (R76, R139) -/

/-- The entry of a spot id when the entries of one id have changed in their place. -/
theorem entry?_updateEntry_map {f : Entry → Entry} (hf : ∀ e, (f e).spot = e.spot) (n id : Nat) (s : State) :
    (updateEntry n f s).store.entry? id = (s.store.entry? id).map fun e => if e.spot.id == n then f e else e := by
  have hkeeps : (fun e : Entry => e.spot.id == id) ∘ (fun e => if e.spot.id == n then f e else e)
      = fun e => e.spot.id == id := by
    funext e; simp only [Function.comp]; split <;> simp [hf]
  unfold SpotStore.entry? updateEntry updateWhere
  rw [List.find?_map, hkeeps]

theorem classOf_updateEntry {f : Entry → Entry} (hspot : ∀ e, (f e).spot = e.spot) (hstate : ∀ e, (f e).state = e.state)
    (n : Nat) (s : State) (x : Spot) : classOf (updateEntry n f s).store x = classOf s.store x := by
  unfold classOf
  rw [entry?_updateEntry_map hspot]
  cases s.store.entry? x.id with
  | none => rfl
  | some e =>
    have hspot' : (if e.spot.id == n then f e else e).spot = e.spot := by split <;> simp [hspot]
    have hstate' : (if e.spot.id == n then f e else e).state = e.state := by split <;> simp [hstate]
    rw [Option.map_some]; dsimp only; rw [hspot', hstate']

theorem classOf_protectSpot (y x : Spot) (s : State) : classOf (protectSpot y s).store x = classOf s.store x := by
  unfold protectSpot; split
  · rfl
  · exact classOf_updateEntry (f := fun y => { y with prot := y.prot + 1 }) (fun _ => rfl) (fun _ => rfl) _ s x

theorem classOf_protectSpots (l : List Spot) (s : State) (x : Spot) :
    classOf (forEach protectSpot l s).store x = classOf s.store x :=
  forEach_keeps (fun s : State => classOf s.store x) _ (fun y s => classOf_protectSpot y x s) l s

/-- The part of the state beside the store that the stances read (R138). -/
theorem siteReason_of_parts (ho : outer t = outer s) (hsc : t.sc = s.sc) : siteReason t = siteReason s := by
  have hros : t.ros = s.ros := congrArg Outer.ros ho
  unfold siteReason
  rw [hros, hsc, em_of_outer ho, tb_of_outer ho]

/-- A stance is READY only when its own conditions hold (R138, R139). -/
theorem ready_conditions (h : stanceOf s r = .ready) : siteReason s = none ∧ allSatisfied s.store r.spotsNamed = true := by
  unfold stanceOf at h
  cases hsite : siteReason s with
  | some _ => rw [hsite] at h; cases h
  | none =>
    rw [hsite] at h; dsimp only at h
    cases hspots : firstNotReady s.store r.spotsNamed with
    | some _ => rw [hspots] at h; cases h
    | none =>
      rw [hspots] at h; dsimp only at h
      split at h
      · cases h
      · split at h
        · next hall => exact ⟨rfl, hall⟩
        · cases h

/-- With every DECIDED_GO record's own conditions met a hand-off recomputes the OPEN stances alone (R148). -/
theorem refresh_of_steady (h : ∀ x ∈ s.cues.table, reconcileFails s x = false) : refresh s = refreshOpen s := by
  have hnone : (s.cues.table.find? fun x => x.id != 0 && reconcileFails s x) = none :=
    List.find?_eq_none.2 fun x hx => by simp [h x hx]
  have hrounds : ∀ n, reconcileBut 0 n s = refreshOpen s := fun n => by
    cases n with
    | zero => rfl
    | succ n => unfold reconcileBut; rw [hnone]
  exact hrounds _

theorem record?_refreshOpen (hr : s.record? id = some r) (hopen : r.state ≠ .openState) :
    (refreshOpen s).record? id = some r := by
  refine forEach_holds (P := fun u : State => u.record? id = some r) (fun n _ u hu => ?_) hr
  by_cases hn : id = n
  · subst hn
    unfold refreshRecord; rw [hu]; dsimp only; rw [if_neg hopen]; exact hu
  · unfold refreshRecord
    cases u.record? n with
    | none => exact hu
    | some x =>
      dsimp only; split
      · exact (record?_setStance_other _ hn u).trans hu
      · exact hu

theorem agree_urgent (s : State) : (urgent s).agree = s.agree := by
  unfold urgent joinSlot; (repeat' split) <;> rfl

theorem goDecisions_setStance (id : Nat) (v : Stance) (s : State) :
    (setStance id v s).agree.goDecisions = s.agree.goDecisions := by
  unfold setStance
  cases s.record? id with
  | none => rfl
  | some r =>
    dsimp only; split
    · rfl
    · simp [reportStance, agree_urgent]

theorem goDecisions_refreshOpen (s : State) : (refreshOpen s).agree.goDecisions = s.agree.goDecisions := by
  refine forEach_keeps (fun s : State => s.agree.goDecisions) _ (fun id s => ?_) _ s
  unfold refreshRecord
  cases s.record? id with
  | none => rfl
  | some r =>
    dsimp only; split
    · exact goDecisions_setStance _ _ _
    · rfl

/-! ### The steps of a decision (R146) -/

theorem record?_moveDecided_same (hr : s.record? r.id = some r) (new : BreakState) (v : Stance) :
    (moveDecided r new v s).record? r.id = some { r with state := new, stance := v } :=
  record?_updateRecord_same (f := fun x => { x with stance := v }) (fun _ => rfl) (record?_moveState_same hr new)

theorem record?_moveDecided_other (hn : id ≠ r.id) (new : BreakState) (v : Stance) (s : State) :
    (moveDecided r new v s).record? id = s.record? id :=
  (record?_updateRecord_other (f := fun x => { x with stance := v }) (fun _ => rfl) hn _).trans
    (record?_moveState_other hn new s)

theorem stock_moveDecided (r : BreakRecord) (new : BreakState) (v : Stance) (s : State) :
    stock (moveDecided r new v s) = stock s := by simp [moveDecided]

theorem record?_reportDecision_same {x : BreakRecord} (hx : s.record? r.id = some x) (reason : Option HoldReason)
    (peer : Option Nat) :
    (reportDecision r reason peer s).record? r.id = some { x with watch := some .waiting } := by
  unfold reportDecision; dsimp only
  rw [record?_urgent, record?_raise]
  exact record?_updateRecord_same (f := fun x => { x with watch := some .waiting }) (fun _ => rfl) hx

theorem record?_reportDecision_other (hn : id ≠ r.id) (reason : Option HoldReason) (peer : Option Nat) (s : State) :
    (reportDecision r reason peer s).record? id = s.record? id := by
  unfold reportDecision; dsimp only
  rw [record?_urgent, record?_raise]
  exact record?_updateRecord_other (f := fun x => { x with watch := some .waiting }) (fun _ => rfl) hn s

theorem stock_reportDecision (r : BreakRecord) (reason : Option HoldReason) (peer : Option Nat) (s : State) :
    stock (reportDecision r reason peer s) = stock s := by simp [reportDecision]

/-! ### A HOLD (R146) -/

theorem record?_countHold (reason : HoldReason) (s : State) (id : Nat) :
    (countHold reason s).record? id = s.record? id := by cases reason <;> rfl

theorem stock_countHold (reason : HoldReason) (s : State) : stock (countHold reason s) = stock s := by
  cases reason <;> rfl

theorem decideHold_record (hr : s.record? r.id = some r) (reason : HoldReason) (peer : Option Nat) :
    (decideHold r reason peer s).record? r.id
      = some { r with state := .decidedHold, stance := .hold reason, watch := some .waiting } := by
  unfold decideHold; dsimp only
  rw [record?_countHold, record?_reportDecision_same (record?_moveDecided_same hr _ _)]

theorem stock_decideHold (r : BreakRecord) (reason : HoldReason) (peer : Option Nat) (s : State) :
    stock (decideHold r reason peer s) = stock s := by
  unfold decideHold; dsimp only
  rw [stock_countHold, stock_reportDecision, stock_moveDecided]

theorem exec_decisionInstant (h : decisionDue s = some r) : exec .decisionInstant s = .next (decideRecord r s) := by
  simp only [exec, execDecisionInstant, h]

/-- The reason of a HOLD decision, by the first test that fails (R143). -/
theorem decideRecord_holds {reason : HoldReason}
    (h : (∃ peer, decide4 r s = .hold reason peer) ∨ decide4 r s = .holdUnreserved ∧ reason = .self)
    (hr : s.record? r.id = some r) :
    (decideRecord r s).record? r.id
      = some { r with state := .decidedHold, stance := .hold reason, watch := some .waiting }
    ∧ stock (decideRecord r s) = stock s := by
  unfold decideRecord
  rcases h with ⟨peer, h⟩ | ⟨h, rfl⟩
  · rw [h]; exact ⟨decideHold_record hr _ _, stock_decideHold _ _ _ _⟩
  · rw [h]
    exact ⟨decideHold_record (s := countAgree _ s) hr _ _, stock_decideHold _ _ _ _⟩

theorem ownReason_ready (h : r.stance = .ready) :
    ownReason r s = if s.ros.presentCount < s.ros.quorum.getD 0 then some .quorum else none := by
  unfold ownReason; rw [h]

theorem peerNotReady_eq_none_iff :
    peerNotReady r s = none ↔ ∀ p ∈ s.ros.peers, p.state = .present → showsReady r p = true := by
  unfold peerNotReady
  simp [List.find?_eq_none]

theorem reservable_eq_none_iff : reservable r s = none ↔ tagBound s r.tag = true ∨ idleChannel s = none := by
  unfold reservable
  split
  · next hbound => simp [hbound]
  · next hfree => simp [hfree]

/-- The tests of a decision after the first two, for a record that is READY (R143). -/
theorem decide4_quorum (h : r.stance = .ready) (hq : s.ros.presentCount < s.ros.quorum.getD 0) :
    decide4 r s = .hold .quorum none := by
  simp only [decide4, ownReason_ready h, if_pos hq]

theorem decide4_peer (h : r.stance = .ready) (hq : ¬s.ros.presentCount < s.ros.quorum.getD 0) {p : Peer}
    (hp : peerNotReady r s = some p) : decide4 r s = .hold .peer (some p.site) := by
  simp only [decide4, ownReason_ready h, if_neg hq, hp]

theorem decide4_unreserved (h : r.stance = .ready) (hq : ¬s.ros.presentCount < s.ros.quorum.getD 0)
    (hp : peerNotReady r s = none) (hk : reservable r s = none) : decide4 r s = .holdUnreserved := by
  simp only [decide4, ownReason_ready h, if_neg hq, hp, hk]

theorem decide4_go (h : r.stance = .ready) (hq : ¬s.ros.presentCount < s.ros.quorum.getD 0)
    (hp : peerNotReady r s = none) (hk : reservable r s = some k) : decide4 r s = .go k := by
  simp only [decide4, ownReason_ready h, if_neg hq, hp, hk]

theorem decide4_own {reason : HoldReason} (h : ownReason r s = some reason) : decide4 r s = .hold reason none := by
  simp only [decide4, h]

theorem ownReason_self (hready : r.stance ≠ .ready) (hpending : r.stance ≠ .pending) :
    ownReason r s = some .self := by
  unfold ownReason; split
  · next h => exact absurd h hready
  · next h => exact absurd h hpending
  · rfl

theorem ownReason_pending (h : r.stance = .pending) : ownReason r s = some .pending := by
  unfold ownReason; rw [h]

/-- The reasons of R143, in the order of the tests. -/
structure HoldsFor (r : BreakRecord) (s : State) (reason : HoldReason) : Prop where
  decided : (∃ peer, decide4 r s = .hold reason peer) ∨ decide4 r s = .holdUnreserved ∧ reason = .self
  pending : r.stance = .pending → reason = .pending
  own : r.stance ≠ .pending → r.stance ≠ .ready → reason = .self
  quorum : r.stance = .ready → s.ros.presentCount < s.ros.quorum.getD 0 → reason = .quorum
  peer : r.stance = .ready → ¬s.ros.presentCount < s.ros.quorum.getD 0 → peerNotReady r s ≠ none → reason = .peer
  channel : r.stance = .ready → ¬s.ros.presentCount < s.ros.quorum.getD 0 → peerNotReady r s = none → reason = .self

/-- A decision with a test that fails holds for the first of them. -/
theorem holdsFor_first (h : r.stance ≠ .ready ∨ s.ros.presentCount < s.ros.quorum.getD 0 ∨ peerNotReady r s ≠ none
    ∨ reservable r s = none) : ∃ reason, HoldsFor r s reason := by
  by_cases hready : r.stance = .ready
  · have hpending : r.stance ≠ .pending := by rw [hready]; nofun
    by_cases hq : s.ros.presentCount < s.ros.quorum.getD 0
    · exact ⟨.quorum, .inl ⟨none, decide4_quorum hready hq⟩, fun e => absurd e hpending, fun _ e => absurd hready e,
        fun _ _ => rfl, fun _ e => absurd hq e, fun _ e => absurd hq e⟩
    · cases hp : peerNotReady r s with
      | some p =>
        exact ⟨.peer, .inl ⟨some p.site, decide4_peer hready hq hp⟩, fun e => absurd e hpending,
          fun _ e => absurd hready e, fun _ e => absurd e hq, fun _ _ _ => rfl, fun _ _ e => by rw [hp] at e; cases e⟩
      | none =>
        have hk : reservable r s = none := by
          rcases h with h | h | h | h
          · exact absurd hready h
          · exact absurd h hq
          · exact absurd hp h
          · exact h
        exact ⟨.self, .inr ⟨decide4_unreserved hready hq hp hk, rfl⟩, fun e => absurd e hpending, fun _ _ => rfl,
          fun _ e => absurd e hq, fun _ _ e => absurd hp e, fun _ _ _ => rfl⟩
  · by_cases hpending : r.stance = .pending
    · exact ⟨.pending, .inl ⟨none, decide4_own (ownReason_pending hpending)⟩, fun _ => rfl, fun e => absurd hpending e,
        fun e => absurd e hready, fun e => absurd e hready, fun e => absurd e hready⟩
    · exact ⟨.self, .inl ⟨none, decide4_own (ownReason_self hready hpending)⟩, fun e => absurd e hpending,
        fun _ _ => rfl, fun e => absurd e hready, fun e => absurd e hready, fun e => absurd e hready⟩

/-! ### A GO (R145, R146, R158) -/

/-- The channel once it is RESERVED for a record. -/
def reservedChannel (r : BreakRecord) (c : Channel) : Channel :=
  { c with
    bound := some ⟨r.id, r.cOut, r.cIn⟩
    tag := some r.tag
    items := r.spots.map fun x => ⟨x, 0, 0⟩
    padItem := r.pad.map fun x => ⟨x, 0, 0⟩
    state := .reserved
    counters := { c.counters with binds := bump c.counters.binds } }

theorem chans_protectSpots (l : List Spot) (s : State) : (forEach protectSpot l s).chans = s.chans :=
  forEach_keeps State.chans _ (fun x s => by unfold protectSpot; split <;> rfl) l s

theorem cues_protectSpots (l : List Spot) (s : State) : (forEach protectSpot l s).cues = s.cues :=
  forEach_keeps State.cues _ (fun x s => by unfold protectSpot; split <;> rfl) l s

theorem sc_protectSpots (l : List Spot) (s : State) : (forEach protectSpot l s).sc = s.sc :=
  forEach_keeps State.sc _ (fun x s => by unfold protectSpot; split <;> rfl) l s

theorem agree_protectSpots (l : List Spot) (s : State) : (forEach protectSpot l s).agree = s.agree :=
  forEach_keeps State.agree _ (fun x s => by unfold protectSpot; split <;> rfl) l s

theorem bindChannel_chan (hc : s.chans.chan[k]? = some c) :
    (bindChannel k r s).chans.chan[k]? = some (reservedChannel r c) := by
  unfold bindChannel; dsimp only
  refine chan_countChan_same (c := { reservedChannel r c with counters := c.counters }) _ ?_
  rw [raise_chans, updateRecord_chans, chans_protectSpots]
  exact chan_updateChan_same _ hc

theorem bindChannel_table (k : Nat) (r : BreakRecord) (s : State) : (bindChannel k r s).cues.table
    = (updateRecord r.id (fun x => { x with channel := some k }) s).cues.table := by
  unfold bindChannel; dsimp only
  rw [countChan_cues, raise_cues, updateRecord_cues, cues_protectSpots]; rfl

theorem bindChannel_store (k : Nat) (r : BreakRecord) (s : State) (x : Spot) :
    classOf (bindChannel k r s).store x = classOf s.store x := by
  unfold bindChannel; dsimp only
  rw [countChan_store, raise_store, updateRecord_store, classOf_protectSpots, updateChan_store]

theorem bindChannel_sc (k : Nat) (r : BreakRecord) (s : State) : (bindChannel k r s).sc = s.sc := by
  unfold bindChannel; dsimp only
  rw [countChan_sc, raise_sc, updateRecord_sc, sc_protectSpots, updateChan_sc]

theorem bindChannel_agree (k : Nat) (r : BreakRecord) (s : State) : (bindChannel k r s).agree = s.agree := by
  unfold bindChannel; dsimp only
  rw [countChan_agree, raise_agree, updateRecord_agree, agree_protectSpots, updateChan_agree]

/-- A GO decision before its last act, the recomputation of the OPEN stances. -/
def wentGo (r : BreakRecord) (k : Nat) (s : State) : State :=
  countAgree (fun n => { n with goDecisions := bump n.goDecisions })
    (reportDecision r none none (bindChannel k r (moveDecided r .decidedGo .go s)))

theorem decideGo_eq (r : BreakRecord) (k : Nat) (s : State) : decideGo r k s = refresh (wentGo r k s) := rfl

/-- The record of a break that goes. -/
def goRecord (r : BreakRecord) (k : Nat) : BreakRecord :=
  { r with state := .decidedGo, stance := .go, channel := some k, watch := some .waiting }

theorem wentGo_record (hr : s.record? r.id = some r) : (wentGo r k s).record? r.id = some (goRecord r k) := by
  have hbound : (bindChannel k r (moveDecided r .decidedGo .go s)).record? r.id
      = some { r with state := .decidedGo, stance := .go, channel := some k } := by
    rw [record?_of_table (bindChannel_table k r _)]
    exact record?_updateRecord_same (f := fun x => { x with channel := some k }) (fun _ => rfl)
      (record?_moveDecided_same hr .decidedGo .go)
  unfold wentGo
  rw [record?_countAgree]; exact record?_reportDecision_same hbound none none

theorem wentGo_other (hn : id ≠ r.id) (s : State) : (wentGo r k s).record? id = s.record? id := by
  unfold wentGo
  rw [record?_countAgree, record?_reportDecision_other hn, record?_of_table (bindChannel_table k r _)]
  exact (record?_updateRecord_other (f := fun x => { x with channel := some k }) (fun _ => rfl) hn _).trans
    (record?_moveDecided_other hn _ _ s)

theorem wentGo_outer (r : BreakRecord) (k : Nat) (s : State) : outer (wentGo r k s) = outer s := by
  simp [wentGo, reportDecision, moveDecided]

theorem wentGo_breakIds (r : BreakRecord) (k : Nat) (s : State) : (wentGo r k s).breakIds = s.breakIds :=
  breakIds_of_tabled (by simp [wentGo, reportDecision, moveDecided])

theorem wentGo_sc (r : BreakRecord) (k : Nat) (s : State) : (wentGo r k s).sc = s.sc := by
  simp [wentGo, reportDecision, moveDecided, reportStance, bindChannel_sc]

theorem wentGo_classOf (r : BreakRecord) (k : Nat) (s : State) (x : Spot) :
    classOf (wentGo r k s).store x = classOf s.store x := by
  have hstore : (wentGo r k s).store = (bindChannel k r (moveDecided r .decidedGo .go s)).store :=
    store_of_stock (stock_reportDecision r none none _)
  rw [hstore, bindChannel_store, store_of_stock (stock_moveDecided r .decidedGo .go s)]

theorem wentGo_chan (hc : s.chans.chan[k]? = some c) :
    (wentGo r k s).chans.chan[k]? = some (reservedChannel r c) := by
  have hchans : (wentGo r k s).chans = (bindChannel k r (moveDecided r .decidedGo .go s)).chans :=
    chans_of_stock (stock_reportDecision r none none _)
  rw [hchans]
  exact bindChannel_chan (by rw [chans_of_stock (stock_moveDecided r .decidedGo .go s)]; exact hc)

theorem wentGo_goDecisions (r : BreakRecord) (k : Nat) (s : State) :
    (wentGo r k s).agree.goDecisions = bump s.agree.goDecisions := by
  have hmoved : ∀ u : State, (moveState r.id .decidedGo u).agree = u.agree := fun u => by
    cases hr : u.record? r.id with
    | none => rw [moveState_none hr]
    | some x => rw [moveState_some hr]; rfl
  simp [wentGo, reportDecision, moveDecided, reportStance, agree_urgent, bindChannel_agree, hmoved]

/-- A record that goes while it is READY and the others that went before keep their own conditions (R148). -/
theorem wentGo_steady (hbreaks : BreakTableLaw s) (hagreed : AgreementLaw s) (hr : s.record? r.id = some r)
    (hopen : r.state = .openState) (hready : r.stance = .ready) :
    ∀ x ∈ (wentGo r k s).cues.table, reconcileFails (wentGo r k s) x = false := by
  have hsite : siteReason (wentGo r k s) = siteReason s := siteReason_of_parts (wentGo_outer r k s) (wentGo_sc r k s)
  have hspots : ∀ l, allSatisfied (wentGo r k s).store l = allSatisfied s.store l := fun l => by
    unfold allSatisfied; simp only [wentGo_classOf]
  have hids : (wentGo r k s).breakIds.Nodup := by rw [wentGo_breakIds]; exact hbreaks.ids
  have hfine : ∀ x : BreakRecord, siteReason s = none ∧ allSatisfied s.store x.spotsNamed = true →
      reconcileFails (wentGo r k s) x = false := fun x ⟨hnone, hall⟩ => by
    unfold reconcileFails; rw [hsite, hspots, hnone, hall]; simp
  intro x hx
  have hfound := record?_of_mem hids hx
  by_cases hid : x.id = r.id
  · rw [hid, wentGo_record hr] at hfound
    obtain rfl := Option.some.inj hfound
    exact hfine (goRecord r k) (ready_conditions ((hagreed.current r (record?_mem hr) hopen).symm.trans hready))
  · rw [wentGo_other hid] at hfound
    by_cases hgo : x.state = .decidedGo
    · exact hfine x (hagreed.ready x (record?_mem hfound) hgo)
    · unfold reconcileFails; simp [hgo]

/-- A GO decision carried out. -/
theorem decideGo_spec (hbreaks : BreakTableLaw s) (hagreed : AgreementLaw s) (hr : s.record? r.id = some r)
    (hopen : r.state = .openState) (hready : r.stance = .ready) (hc : s.chans.chan[k]? = some c) :
    (decideGo r k s).record? r.id = some (goRecord r k)
    ∧ (decideGo r k s).chans.chan[k]? = some (reservedChannel r c)
    ∧ (decideGo r k s).agree.goDecisions = bump s.agree.goDecisions := by
  rw [decideGo_eq, refresh_of_steady (wentGo_steady hbreaks hagreed hr hopen hready)]
  refine ⟨record?_refreshOpen (wentGo_record hr) nofun, ?_, ?_⟩
  · rw [chans_of_stock (stock_of_reach (reach_refreshOpen (wentGo r k s)))]; exact wentGo_chan hc
  · rw [goDecisions_refreshOpen, wentGo_goDecisions]

/-- Settles O30: four tests passed choose the GO with its channel, and the first that fails chooses the HOLD. -/
theorem decisionGoesOrHolds : Obligations.DecisionGoesOrHolds := by
  unfold Obligations.DecisionGoesOrHolds
  constructor
  · intro r k s hbreaks hagreed hchannels hfour hdue hready hquorum hpeers hfree hidle
    obtain ⟨hmem, hopen⟩ := decisionDue_some hdue
    have hr := record?_of_mem hbreaks.ids hmem
    have hunbound : tagBound s r.tag = false := by
      refine List.any_eq_false.2 fun c hc => ?_
      rcases hfree c hc with h | h <;> simp [h]
    have hreserved : reservable r s = some k := by
      unfold reservable; rw [hunbound, if_neg Bool.false_ne_true, hidle]
    have hexec := exec_decisionInstant hdue
    rw [decideRecord, decide4_go hready (not_lt.2 hquorum) (peerNotReady_eq_none_iff.2 hpeers) hreserved] at hexec
    obtain ⟨c, hc⟩ : ∃ c, s.chans.chan[k]? = some c := by
      have hfound := List.find?_some hidle
      cases hc : s.chans.chan[k]? with
      | none => simp [hc] at hfound
      | some c => exact ⟨c, rfl⟩
    obtain ⟨hrecord, hchan, hcount⟩ := decideGo_spec hbreaks hagreed hr hopen hready hc
    have hquiet := Quiet.refl.decideGo (s := s) r k
    have ho := hquiet.outer
    exact ⟨_, goRecord r k, reservedChannel r c, hexec, hrecord, rfl, rfl, rfl, rfl, rfl, rfl, rfl, hchan, rfl, rfl, rfl,
      hcount, tb_of_outer ho, em_of_outer ho, congrArg Outer.intake ho, congrArg Outer.ros ho, hquiet.memory⟩
  · intro r s hids hdue
    dsimp only
    intro hfails
    have hr := record?_of_mem hids (decisionDue_some hdue).1
    have hpeer : peerNotReady r s ≠ none ↔ ∃ p ∈ s.ros.peers, p.state = .present ∧ showsReady r p = false := by
      rw [Ne, peerNotReady_eq_none_iff]; simp
    rw [← hpeer, ← reservable_eq_none_iff] at hfails
    obtain ⟨reason, hfor⟩ := holdsFor_first hfails
    obtain ⟨hrecord, hstock⟩ := decideRecord_holds hfor.decided hr
    have ho := (Quiet.refl.decideRecord (s := s) r).outer
    exact ⟨_, _, reason, exec_decisionInstant hdue, hrecord, rfl, rfl, rfl, rfl, hfor.pending, hfor.own, hfor.quorum,
      fun hready hq hp => hfor.peer hready hq (hpeer.2 hp),
      fun hready hq hp => hfor.channel hready hq (not_ne_iff.1 (mt hpeer.1 hp)), chans_of_stock hstock,
      store_of_stock hstock, tb_of_outer ho, em_of_outer ho, congrArg Outer.intake ho, congrArg Outer.ros ho⟩

end Sys2Proof.Proofs
end

section
/-! SUPPORT. What a channel's giving up of its break keeps (R172, R173): the hand-offs that it makes, the move of the
record, the unbind, the SPLIT latch and, at its removal instant, the record's leaving. -/

namespace Sys2Proof.Proofs

open Sys2Proof Sys2Proof.Machine Sys2Proof.Laws

-- As in the tests: one theorem after another, within the memory that the check leaves for threads.
set_option Elab.async false

variable {s t : State} {id n k j : Nat} {r : BreakRecord} {c : Channel} {P : State → Prop}

/-! ### A property of the desk -/

/-- A property of the desk has only the OPEN stances and the HOLDs to answer for. -/
theorem HandOff.ofDesk (hd : OfDesk P)
    (hstance : ∀ {s id r} v, s.record? id = some r → r.state = .openState → P s →
      P (updateRecord id (fun x => { x with stance := v }) s))
    (hheld : ∀ {s r}, s.record? r.id = some r → (s.breakIds.Nodup → r.state = .decidedGo) → P s →
      P (heldParted r s)) : HandOff P :=
  { hd.offStore with
    urgent := fun {s} h => hd.of_eq (desk_urgent s) h
    count := fun _ {_} h => hd.same h
    stance := hstance
    held := hheld }

/-! ### The cases of a stance, a comparison, a move and a settled removal -/

theorem setStance_cases (id : Nat) (v : Stance) (s : State) : setStance id v s = s ∨ ∃ r,
    setStance id v s = reportStance id (some r) v (urgent (updateRecord id (fun x => { x with stance := v }) s)) := by
  unfold setStance
  cases s.record? id with
  | none => exact .inl rfl
  | some r =>
    by_cases hr : r.stance = v
    · exact .inl (if_pos hr)
    · exact .inr ⟨r.stance, if_neg hr⟩

theorem comparePeer_cases (id : Nat) (p : Peer) (s : State) : comparePeer id p s = s ∨ ∃ e,
    comparePeer id p s = countAgree (fun k => { k with zoneSplits := bump k.zoneSplits }) (setLatch .split
      (updateRecord id (fun x => { x with splitReported := insertSite p.site x.splitReported }) (raise e s))) := by
  unfold comparePeer
  cases s.record? id with
  | none => exact .inl rfl
  | some r =>
    dsimp only; split
    · exact .inr ⟨_, rfl⟩
    · exact .inl rfl

theorem settleRemoval_cases (id : Nat) (s : State) :
    settleRemoval id s = s ∨ ∃ r, s.record? id = some r ∧ settleRemoval id s = removeRecord id s := by
  unfold settleRemoval
  cases s.record? id with
  | none => exact .inl rfl
  | some r =>
    dsimp only; split
    · exact .inr ⟨r, rfl, rfl⟩
    · exact .inl rfl

theorem channelMove_some (hr : s.record? id = some r) {new : BreakState} (hallowed : moveAllowed r.state new = true)
    (cause : Option AbandonCause) : channelMove id new cause s = compareAll id (setStance id (movedStance new)
      (if new = .airing then moveState id new s
        else updateRecord id (fun x => { x with removalAt := some (x.cIn + 20000000), abandonCause := cause })
          (moveState id new s))) := by
  unfold channelMove; rw [hr]; dsimp only; rw [if_pos hallowed]

theorem channelMove_refused {new : BreakState} (h : ∀ r, s.record? id = some r → moveAllowed r.state new = false)
    (cause : Option AbandonCause) : channelMove id new cause s = s := by
  unfold channelMove
  cases hr : s.record? id with
  | none => rfl
  | some r => dsimp only; rw [h r hr, if_neg Bool.false_ne_true]

/-- A record leaves the table only if it is in it; what its parting from its channel and its leaving keep, is kept. -/
theorem HandOff.settleRemoval (w : HandOff P)
    (hparted : ∀ {r k}, s.record? id = some r → r.channel = some k → P (parted k s))
    (hdrop : ∀ {u}, P u → P (dropRecord id u)) (h : P s) : P (settleRemoval id s) := by
  rcases settleRemoval_cases id s with hs | ⟨r, hr, hs⟩
  · rw [hs]; exact h
  · rw [hs]; exact w.removeRecord hr (fun k hk => hparted hr hk) hdrop fun _ => h

/-! ### Giving a break up -/

/-- A property that the steps keep by which channel `k` gives its break up at the site time `now`; `ok` is what the
property says of the id of that break. -/
structure GivesUp (P : State → Prop) (k : Nat) (now : Time) (ok : Nat → Prop) : Prop extends HandOff P where
  ofBreak : ∀ {s c}, s.chans.chan[k]? = some c → P s → ok c.breakId
  plan : ∀ {s}, P s → P (updateChan k (fun x => { x with plan := none }) s)
  move : ∀ {s n}, ok n → P s → P (channelMove n .abandoned (some .override) s)
  part : ∀ {s}, P s → P (parted k s)
  latch : ∀ {s}, P s → P (setLatch .split s)
  tally : ∀ f {s}, P s → P (countChan k f s)
  settle : ∀ {s n}, ok n → s.tb.now = now → P s → P (settleRemoval n s)

variable {now : Time} {ok : Nat → Prop}

/-- What holds once the channel and the record are parted holds to the end. -/
theorem GivesUp.afterPart (w : GivesUp P k now ok) (hc : s.chans.chan[k]? = some c) (hok : ok c.breakId)
    (hnow : s.tb.now = now)
    (h : P (parted k (channelMove c.breakId .abandoned (some .override)
      (updateChan k (fun x => { x with plan := none }) s)))) :
    P (giveUp .override k s) := by
  rw [giveUp_some .override hc]
  refine w.settle hok ?_ (w.tally _ (w.latch (w.raise _ (w.unbind k h))))
  rw [countChan_tb, tb_of_outer (outer_setLatch _ _), raise_tb, tb_of_outer (outer_unbind _ _),
    tb_of_outer (outer_channelMove _ _ _ _)]
  exact hnow

theorem GivesUp.giveUp (w : GivesUp P k now ok) (hnow : s.tb.now = now) (h : P s) : P (giveUp .override k s) := by
  cases hc : s.chans.chan[k]? with
  | none => unfold Machine.giveUp; rw [hc]; exact h
  | some c =>
    have hok := w.ofBreak hc h
    exact w.afterPart hc hok hnow (w.part (w.move hok (w.plan h)))

/-- A property of some one of several is kept when each of them is. -/
theorem GivesUp.exists {ι : Type} {P : ι → State → Prop} (w : ∀ i, GivesUp (P i) k now ok) :
    GivesUp (fun u => ∃ i, P i u) k now ok where
  store := fun ht ⟨i, h⟩ => ⟨i, (w i).store ht h⟩
  raise := fun e _ ⟨i, h⟩ => ⟨i, (w i).raise e h⟩
  urgent := fun ⟨i, h⟩ => ⟨i, (w i).urgent h⟩
  count := fun f _ ⟨i, h⟩ => ⟨i, (w i).count f h⟩
  stance := fun v hr hopen ⟨i, h⟩ => ⟨i, (w i).stance v hr hopen h⟩
  held := fun hr hgo ⟨i, h⟩ => ⟨i, (w i).held hr hgo h⟩
  ofBreak := fun hc ⟨i, h⟩ => (w i).ofBreak hc h
  plan := fun ⟨i, h⟩ => ⟨i, (w i).plan h⟩
  move := fun hok ⟨i, h⟩ => ⟨i, (w i).move hok h⟩
  part := fun ⟨i, h⟩ => ⟨i, (w i).part h⟩
  latch := fun ⟨i, h⟩ => ⟨i, (w i).latch h⟩
  tally := fun f _ ⟨i, h⟩ => ⟨i, (w i).tally f h⟩
  settle := fun hok hnow ⟨i, h⟩ => ⟨i, (w i).settle hok hnow h⟩

theorem channelOverride_some (hc : s.chans.chan[k]? = some c) :
    channelOverride k s = if c.state.frozen then giveUp .override k s else s := by
  unfold channelOverride; rw [hc]

theorem channelOverride_none (hc : s.chans.chan[k]? = none) : channelOverride k s = s := by
  unfold channelOverride; rw [hc]

theorem outer_channelOverride (k : Nat) (s : State) : outer (channelOverride k s) = outer s := by
  cases hc : s.chans.chan[k]? with
  | none => rw [channelOverride_none hc]
  | some c => rw [channelOverride_some hc]; split <;> simp

theorem GivesUp.channelOverride (w : GivesUp P k now ok) (hnow : s.tb.now = now) (h : P s) : P (channelOverride k s) := by
  cases hc : s.chans.chan[k]? with
  | none => rw [channelOverride_none hc]; exact h
  | some c =>
    rw [channelOverride_some hc]; split
    · exact w.giveUp hnow h
    · exact h

/-- OVERRIDE at the four channels: a property that each of them keeps. -/
theorem overrideChannels_keeps (w : ∀ k, GivesUp P k now ok) (hnow : s.tb.now = now) (h : P s) :
    P (overrideChannels s) :=
  (forEach_holds (P := fun u : State => u.tb.now = now ∧ P u) (fun k _ u hu =>
    ⟨by rw [tb_of_outer (outer_channelOverride k u)]; exact hu.1, (w k).channelOverride hu.1 hu.2⟩) ⟨hnow, h⟩).2

/-- OVERRIDE at the four channels: the others keep `P`, channel `k` makes `Q` of it, and all of them keep `Q`. -/
theorem overrideChannels_at {Q : State → Prop} (hk : k < 4) (hbefore : ∀ j < 4, j ≠ k → GivesUp P j now ok)
    {ok' : Nat → Prop} (hafter : ∀ j, GivesUp Q j now ok')
    (hat : ∀ {s}, s.tb.now = now → P s → Q (channelOverride k s)) (hnow : s.tb.now = now) (h : P s) :
    Q (overrideChannels s) := by
  have hstays : ∀ j u, u.tb.now = now → (channelOverride j u).tb.now = now := fun j u hu => by
    rw [tb_of_outer (outer_channelOverride j u)]; exact hu
  have hall : ∀ l : List Nat, (∀ j ∈ l, j < 4) → k ∈ l → ∀ u : State, u.tb.now = now → P u →
      Q (forEach channelOverride l u) := by
    intro l
    induction l with
    | nil => nofun
    | cons j l ih =>
      intro hfour hmem u hu hP
      by_cases hj : j = k
      · subst hj
        exact (forEach_holds (P := fun u : State => u.tb.now = now ∧ Q u) (fun i _ v hv =>
          ⟨hstays i v hv.1, (hafter i).channelOverride hv.1 hv.2⟩) ⟨hstays j u hu, hat hu hP⟩).2
      · exact ih (fun i hi => hfour i (List.mem_cons_of_mem j hi)) ((List.mem_cons.1 hmem).resolve_left (Ne.symm hj)) _
          (hstays j u hu) ((hbefore j (hfour j List.mem_cons_self) hj).channelOverride hu hP)
  exact hall channelNumbers (fun j hj => List.mem_range.1 hj) (List.mem_range.2 hk) s hnow h

/-! ### The zone line and the latches -/

/-- The zone line and site control. -/
def line (s : State) : ZoneLine × SiteControl := (s.zone, s.sc)

theorem line_moveState (id : Nat) (new : BreakState) (s : State) : line (moveState id new s) = line s := by
  cases hr : s.record? id with
  | none => rw [moveState_none hr]
  | some r => rw [moveState_some hr]; rfl

theorem line_parted (k : Nat) (s : State) : line (parted k s) = line s := by
  cases hc : s.chans.chan[k]? with
  | none => rw [parted_none hc]
  | some c => rw [parted_some hc]; rfl

theorem line_heldParted (r : BreakRecord) (s : State) : line (heldParted r s) = line s := by
  have hheld : line (heldRecord r s) = line s := line_moveState r.id .decidedHold s
  cases hk : r.channel with
  | none => rw [heldParted_none hk, hheld]
  | some k => rw [heldParted_some hk, line_parted, hheld]

/-- A property of the zone line and site control that an urgent cause and the SPLIT latch keep. -/
structure OfLine (P : State → Prop) : Prop where
  of_eq : ∀ {s t : State}, line t = line s → P s → P t
  urgent : ∀ {s : State}, P s → P (urgent s)
  latch : ∀ {s : State}, P s → P (setLatch .split s)

theorem OfLine.same (hl : OfLine P) (h : P s) (ht : line t = line s := by rfl) : P t := hl.of_eq ht h

theorem OfLine.handOff (hl : OfLine P) : HandOff P where
  store := fun {s t} ht h => hl.of_eq (s := s) (by have hsame := congrArg line ht; exact hsame) h
  raise := fun _ {_} h => hl.same h
  urgent := hl.urgent
  count := fun _ {_} h => hl.same h
  stance := fun _ _ _ h => hl.same h
  held := fun {s r} _ _ h => hl.of_eq (line_heldParted r s) h

theorem OfLine.setStance (hl : OfLine P) (id : Nat) (v : Stance) (h : P s) : P (setStance id v s) := by
  rcases setStance_cases id v s with hs | ⟨o, hs⟩
  · rw [hs]; exact h
  · rw [hs]; exact hl.handOff.report _ _ _ (hl.urgent (hl.same h))

theorem OfLine.compareAll (hl : OfLine P) (id : Nat) (h : P s) : P (compareAll id s) :=
  forEach_holds (fun p _ u hu => by
    rcases comparePeer_cases id p u with hs | ⟨e, hs⟩
    · rw [hs]; exact hu
    · rw [hs]; exact hl.handOff.count _ (hl.latch (hl.same hu))) h

theorem OfLine.channelMove (hl : OfLine P) (id : Nat) (new : BreakState) (cause : Option AbandonCause) (h : P s) :
    P (channelMove id new cause s) := by
  cases hr : s.record? id with
  | none => rw [channelMove_refused (fun r h => by rw [hr] at h; cases h)]; exact h
  | some r =>
    cases hallowed : moveAllowed r.state new with
    | false =>
      rw [channelMove_refused (fun x h => by rw [hr] at h; rw [← Option.some.inj h]; exact hallowed)]; exact h
    | true =>
      have hmoved := hl.of_eq (line_moveState id new s) h
      rw [channelMove_some hr hallowed]
      refine hl.compareAll _ (hl.setStance _ _ ?_)
      split
      · exact hmoved
      · exact hl.same hmoved

/-- Such a property is kept by every channel that gives its break up. -/
theorem OfLine.givesUp (hl : OfLine P) (k : Nat) (now : Time) : GivesUp P k now fun _ => True :=
  { hl.handOff with
    ofBreak := fun _ _ => trivial
    plan := fun h => hl.same h
    move := fun _ h => hl.channelMove _ _ _ h
    part := fun {s} h => hl.of_eq (line_parted k s) h
    latch := hl.latch
    tally := fun _ {_} h => hl.same h
    settle := fun {s n} _ _ h =>
      hl.handOff.settleRemoval (fun {_ j} _ _ => hl.of_eq (line_parted j s) h) (fun hu => hl.same hu) h }

theorem ofLine_urgentWaits : OfLine fun u => u.zone.slot = some .urgent where
  of_eq := fun {s t} ht h => by rw [show t.zone = s.zone from congrArg Prod.fst ht]; exact h
  urgent := fun {s} h => by
    unfold urgent; split
    · unfold joinSlot; rw [h]; rfl
    · exact h
  latch := fun {s} h => by unfold setLatch putLatch; split <;> exact h

theorem ofLine_latched : OfLine fun u => u.sc.latchSplit = true where
  of_eq := fun {s t} ht h => by rw [show t.sc = s.sc from congrArg Prod.snd ht]; exact h
  urgent := fun {s} h => by rw [sc_urgent]; exact h
  latch := fun {s} _ => latchSplit_setLatch s

/-! ### A move, for the other records -/

theorem record?_compareAll_other (hn : n ≠ id) (s : State) : (compareAll id s).record? n = s.record? n := by
  refine forEach_keeps (fun u : State => u.record? n) _ (fun p u => ?_) s.ros.peers s
  rcases comparePeer_cases id p u with hs | ⟨e, hs⟩
  · rw [hs]
  · rw [hs, record?_countAgree, record?_setLatch, record?_updateRecord_other
      (f := fun x => { x with splitReported := insertSite p.site x.splitReported }) (fun _ => rfl) hn, record?_raise]

theorem record?_channelMove_other (hn : n ≠ id) (new : BreakState) (cause : Option AbandonCause) (s : State) :
    (channelMove id new cause s).record? n = s.record? n := by
  cases hr : s.record? id with
  | none => rw [channelMove_refused (fun r h => by rw [hr] at h; cases h)]
  | some r =>
    cases hallowed : moveAllowed r.state new with
    | false => rw [channelMove_refused (fun x h => by rw [hr] at h; rw [← Option.some.inj h]; exact hallowed)]
    | true =>
      rw [channelMove_some hr hallowed, record?_compareAll_other hn, record?_setStance_other _ hn]
      split
      · exact record?_moveState_other hn _ _
      · exact (record?_updateRecord_other (f := fun x =>
          { x with removalAt := some (x.cIn + 20000000), abandonCause := cause }) (fun _ => rfl) hn _).trans
          (record?_moveState_other hn _ _)

/-! ### A channel that has not frozen its spots -/

theorem frozen_parted (k : Nat) (h : ∀ c, s.chans.chan[k]? = some c → c.state.frozen = false) (j : Nat) :
    ∀ c, (parted j s).chans.chan[k]? = some c → c.state.frozen = false := by
  intro c hc
  by_cases hj : k = j
  · subst hj
    cases hk : s.chans.chan[k]? with
    | none => rw [parted_none hk, hk] at hc; cases hc
    | some d =>
      rw [chan_parted_same hk] at hc
      rw [← Option.some.inj hc]; rfl
  · rw [chan_parted_other hj] at hc; exact h c hc

theorem frozen_updateChan {f : Channel → Channel} (j : Nat)
    (h : ∀ c, s.chans.chan[k]? = some c → c.state.frozen = false)
    (hf : ∀ c, (f c).state = c.state := by exact fun _ => rfl) :
    ∀ c, (updateChan j f s).chans.chan[k]? = some c → c.state.frozen = false := by
  intro c hc
  by_cases hj : k = j
  · subst hj
    cases hk : s.chans.chan[k]? with
    | none => simp [hk] at hc
    | some d =>
      rw [chan_updateChan_same f hk] at hc
      rw [← Option.some.inj hc, hf]; exact h d hk
  · rw [chan_updateChan_other f hj] at hc; exact h c hc

theorem givesUp_thawed (k j : Nat) (now : Time) :
    GivesUp (fun u => ∀ c, u.chans.chan[k]? = some c → c.state.frozen = false) j now fun _ => True := by
  have hd : OfDesk fun u => ∀ c, u.chans.chan[k]? = some c → c.state.frozen = false :=
    ⟨fun ht h => by rw [chan_of_desk ht]; exact h⟩
  have hchans : ∀ {s t : State}, t.chans = s.chans → (∀ c, s.chans.chan[k]? = some c → c.state.frozen = false) →
      ∀ c, t.chans.chan[k]? = some c → c.state.frozen = false := fun ht h => by rw [ht]; exact h
  have w := HandOff.ofDesk hd (fun _ _ _ h => h) fun {s r} _ _ h => by
    have hheld := hchans (chans_heldRecord r s) h
    cases hk : r.channel with
    | none => rw [heldParted_none hk]; exact hheld
    | some i => rw [heldParted_some hk]; exact frozen_parted k hheld i
  exact { w with
    ofBreak := fun _ _ => trivial
    plan := fun h => frozen_updateChan j h
    move := fun {s n} _ h => hchans (chans_of_stock (stock_channelMove n .abandoned (some .override) s)) h
    part := fun h => frozen_parted k h j
    latch := fun {s} h => hd.of_eq (desk_setLatch .split s) h
    tally := fun f {_} h => frozen_updateChan j h
    settle := fun _ _ h => w.settleRemoval (fun {_ i} _ _ => frozen_parted k h i) (fun hu => hu) h }

/-- Once a channel has met OVERRIDE it is not ARMED, PLAYING or PADDING (R173). -/
theorem channelOverride_thaws (k : Nat) (s : State) :
    ∀ c, (channelOverride k s).chans.chan[k]? = some c → c.state.frozen = false := by
  cases hc : s.chans.chan[k]? with
  | none => rw [channelOverride_none hc, hc]; exact fun _ h => nomatch h
  | some c =>
    rw [channelOverride_some hc]; split
    · refine (givesUp_thawed k k s.tb.now).afterPart hc trivial rfl fun d hd => ?_
      rw [chan_parted_same (c := { c with plan := none })] at hd
      · rw [← Option.some.inj hd]; rfl
      · rw [chans_of_stock (stock_channelMove _ _ _ _)]; exact chan_updateChan_same _ hc
    · next hthawed =>
      intro d hd
      rw [hc] at hd
      rw [← Option.some.inj hd]; simpa using hthawed

theorem overrideChannels_thaws (hk : k < 4) (s : State) :
    ∀ c, (overrideChannels s).chans.chan[k]? = some c → c.state.frozen = false :=
  overrideChannels_at (P := fun _ => True) (now := s.tb.now) (ok := fun _ => True) hk
    (fun j _ _ => (OfLine.mk (fun _ _ => trivial) (fun _ => trivial) fun _ => trivial).givesUp j _)
    (fun j => givesUp_thawed k j _) (fun {s} _ _ => channelOverride_thaws k s) rfl trivial

end Sys2Proof.Proofs
end

section
/-! SUPPORT. The break table and the channels while OVERRIDE is active (R148, R149, R173): every DECIDED_GO record is
held, and a break on an ARMED, PLAYING or PADDING channel stays as it is until its own channel gives it up. -/

namespace Sys2Proof.Proofs

open Sys2Proof Sys2Proof.Machine Sys2Proof.Laws

-- As in the tests: one theorem after another, within the memory that the check leaves for threads.
set_option Elab.async false

variable {s t : State} {id n k j : Nat} {r : BreakRecord} {c : Channel} {now : Time}

/-! ### Every DECIDED_GO record is held -/

/-- How many records are DECIDED_GO. -/
def goCount (s : State) : Nat := s.cues.table.countP fun x => x.state == .decidedGo

theorem countP_updateWhere_le {α : Type} {p q : α → Bool} {f : α → α} (hf : ∀ x, q (f x) = true → q x = true)
    (l : List α) : (updateWhere p f l).countP q ≤ l.countP q := by
  unfold updateWhere; rw [List.countP_map]
  refine List.countP_mono_left fun x _ hx => ?_
  simp only [Function.comp] at hx
  split at hx
  · exact hf x hx
  · exact hx

theorem countP_updateWhere_lt {α : Type} {p q : α → Bool} {f : α → α} (hf : ∀ x, q (f x) = false) {x : α} {l : List α}
    (hx : x ∈ l) (hp : p x = true) (hq : q x = true) : (updateWhere p f l).countP q < l.countP q := by
  have hle : ∀ l : List α, (updateWhere p f l).countP q ≤ l.countP q :=
    countP_updateWhere_le fun y hy => by rw [hf] at hy; cases hy
  induction l with
  | nil => cases hx
  | cons y l ih =>
    have htail := hle l
    rw [show updateWhere p f (y :: l) = (if p y then f y else y) :: updateWhere p f l from rfl, List.countP_cons,
      List.countP_cons]
    rcases List.mem_cons.1 hx with rfl | hmem
    · rw [if_pos hp, hf, hq]; simp only [Bool.false_eq_true, if_false, if_true]; omega
    · have hless := ih hmem
      have hhead : (if q (if p y then f y else y) = true then 1 else 0) ≤ if q y = true then 1 else 0 := by
        by_cases hpy : p y = true
        · rw [if_pos hpy, hf]; simp
        · rw [if_neg hpy]
      omega

theorem goCount_updateRecord {f : BreakRecord → BreakRecord} (hf : ∀ x, (f x).state = x.state) (id : Nat) (s : State) :
    goCount (updateRecord id f s) ≤ goCount s :=
  countP_updateWhere_le (fun x hx => by rw [hf] at hx; exact hx) s.cues.table

theorem goCount_parted (k : Nat) (s : State) : goCount (parted k s) ≤ goCount s := by
  cases hc : s.chans.chan[k]? with
  | none => rw [parted_none hc]
  | some c =>
    rw [parted_some hc]
    exact goCount_updateRecord (f := fun x => { x with channel := none }) (fun _ => rfl) _ (updateChan k _ s)

theorem goCount_heldParted_le (r : BreakRecord) (s : State) :
    goCount (heldParted r s) ≤ goCount (moveState r.id .decidedHold s) := by
  have hheld : goCount (heldRecord r s) ≤ goCount (moveState r.id .decidedHold s) :=
    goCount_updateRecord (f := fun x => { x with stance := .hold .self }) (fun _ => rfl) _ _
  cases hk : r.channel with
  | none => rw [heldParted_none hk]; exact hheld
  | some k => rw [heldParted_some hk]; exact (goCount_parted k _).trans hheld

theorem goCount_moveState_le (id : Nat) (s : State) : goCount (moveState id .decidedHold s) ≤ goCount s := by
  cases hr : s.record? id with
  | none => rw [moveState_none hr]
  | some r => rw [moveState_some hr]; exact countP_updateWhere_le (fun _ hx => by cases hx) s.cues.table

theorem goCount_moveState_lt (hr : s.record? id = some r) (hgo : r.state = .decidedGo) :
    goCount (moveState id .decidedHold s) < goCount s := by
  rw [moveState_some hr]
  exact countP_updateWhere_lt (fun _ => rfl) (record?_mem hr) (by simp [record?_id hr]) (by simp [hgo])

theorem ofDesk_goCount (m : Nat) : OfDesk fun u => goCount u ≤ m :=
  ⟨fun ht h => by unfold goCount; rw [table_of_desk ht]; exact h⟩

theorem handOff_goCount (m : Nat) : HandOff fun u => goCount u ≤ m :=
  .ofDesk (ofDesk_goCount m)
    (fun v _ _ h => (goCount_updateRecord (f := fun x => { x with stance := v }) (fun _ => rfl) _ _).trans h)
    fun {s r} _ _ h => ((goCount_heldParted_le r s).trans (goCount_moveState_le r.id s)).trans h

theorem undecided_of_goCount (h : goCount s = 0) : Undecided s := fun r hr hgo => by
  have hnone := List.countP_eq_zero.1 h r hr
  simp [hgo] at hnone

theorem undecided_refreshOpen (h : Undecided s) : Undecided (refreshOpen s) :=
  undecided_iff.2 (by rw [reach_refreshOpen]; exact undecided_iff.1 h)

/-- While OVERRIDE is active no record's own conditions hold (R138, R148). -/
theorem reconcileFails_of_override (hline : s.sc.overrideLine = true) (hgo : r.state = .decidedGo) :
    reconcileFails s r = true := by
  have hsite : (siteReason s).isSome = true := by
    unfold siteReason; split
    · rfl
    · rfl
  unfold reconcileFails; rw [hgo, hsite]; rfl

/-- The rounds of a reconcile while OVERRIDE is active: as many as there are DECIDED_GO records leave none (R148). -/
theorem undecided_reconcileBut (hline : s.sc.overrideLine = true) (hids : s.breakIds.Nodup) (hzero : 0 ∉ s.breakIds)
    (hcount : goCount s ≤ n) : Undecided (reconcileBut 0 n s) := by
  induction n generalizing s with
  | zero => exact undecided_refreshOpen (undecided_of_goCount (Nat.le_zero.1 hcount))
  | succ n ih =>
    unfold reconcileBut
    cases hr : s.cues.table.find? fun r => r.id != 0 && reconcileFails s r with
    | none =>
      refine undecided_refreshOpen fun x hx hgo => ?_
      have hsteady := List.find?_eq_none.1 hr x hx
      have hid : x.id ≠ 0 := fun h => hzero (h ▸ List.mem_map_of_mem (f := BreakRecord.id) hx)
      simp [hid, reconcileFails_of_override hline hgo] at hsteady
    | some r =>
      have hfound := record?_of_mem hids (List.mem_of_find?_eq_some hr)
      have hgo := reconcileFails_go (Bool.and_eq_true _ _ ▸ List.find?_some hr).2
      have hids' : (holdRecord r.id .self s).breakIds = s.breakIds := breakIds_of_tabled (tabled_holdRecord _ _ s)
      refine ih (by rw [sc_holdRecord]; exact hline) (hids' ▸ hids) (hids' ▸ hzero) ?_
      refine (handOff_goCount n).afterHeld hfound ((goCount_heldParted_le r s).trans ?_)
      have hless := goCount_moveState_lt hfound hgo
      omega

theorem undecided_refresh (hline : s.sc.overrideLine = true) (hids : s.breakIds.Nodup) (hzero : 0 ∉ s.breakIds) :
    Undecided (refresh s) := undecided_reconcileBut hline hids hzero List.countP_le_length

/-! ### Records and the channels they name -/

/-- A record's bound channel is bound to it. -/
def Linked (s : State) : Prop := ∀ n x k, s.record? n = some x → x.channel = some k →
  ∃ c, s.chans.chan[k]? = some c ∧ c.breakId = n

theorem linked_of_law (h : ChannelLaw s) : Linked s := fun n x k hx hk => by
  obtain ⟨-, c, b, hc, hbound, hb⟩ := h.reserved x (record?_mem hx) k hk
  exact ⟨c, hc, (breakId_of_bound hbound).trans (hb.trans (record?_id hx))⟩

/-- No record takes a channel, and the channels stay. -/
theorem Linked.ofRecords (h : Linked s) (hchans : t.chans.chan = s.chans.chan)
    (hrecords : ∀ n x, t.record? n = some x → ∃ y, s.record? n = some y ∧ x.channel = y.channel) : Linked t :=
  fun n x k hx hk => by
    obtain ⟨y, hy, hsame⟩ := hrecords n x hx
    rw [hchans]; exact h n y k hy (hsame ▸ hk)

theorem Linked.updateRecord {f : BreakRecord → BreakRecord} (h : Linked s) (id : Nat)
    (hid : ∀ x, (f x).id = x.id := by exact fun _ => rfl)
    (hchannel : ∀ x, (f x).channel = x.channel := by exact fun _ => rfl) : Linked (updateRecord id f s) :=
  h.ofRecords rfl fun n x hx => by
    rw [record?_updateRecord hid] at hx
    obtain ⟨y, hy, rfl⟩ := Option.map_eq_some_iff.1 hx
    refine ⟨y, hy, ?_⟩
    split
    · exact hchannel y
    · rfl

theorem linked_ofDesk : OfDesk Linked :=
  ⟨fun ht h => h.ofRecords (chan_of_desk ht) fun n x hx => ⟨x, (record?_of_desk ht n).symm.trans hx, rfl⟩⟩

theorem Linked.moveState (h : Linked s) (id : Nat) (new : BreakState) : Linked (moveState id new s) := by
  cases hr : s.record? id with
  | none => rw [moveState_none hr]; exact h
  | some r =>
    rw [moveState_some hr]
    exact linked_ofDesk.same (h.updateRecord id (f := fun x => { x with state := new }))

theorem Linked.updateChan {f : Channel → Channel} (h : Linked s) (k : Nat)
    (hf : ∀ c, (f c).breakId = c.breakId := by exact fun _ => rfl) : Linked (updateChan k f s) := fun n x j hx hj => by
  obtain ⟨c, hc, hn⟩ := h n x j hx hj
  by_cases hk : j = k
  · subst hk; exact ⟨f c, chan_updateChan_same f hc, (hf c).trans hn⟩
  · exact ⟨c, (chan_updateChan_other f hk s).trans hc, hn⟩

theorem Linked.parted (h : Linked s) (k : Nat) : Linked (parted k s) := by
  cases hc : s.chans.chan[k]? with
  | none => rw [parted_none hc]; exact h
  | some c =>
    intro n x j hx hj
    by_cases hn : n = c.breakId
    · subst hn
      rw [parted_some hc, record?_updateRecord (f := fun x => { x with channel := none }) (fun _ => rfl)] at hx
      obtain ⟨y, -, rfl⟩ := Option.map_eq_some_iff.1 hx
      simp at hj
    · rw [record?_parted_other hc hn] at hx
      obtain ⟨d, hd, hdn⟩ := h n x j hx hj
      have hjk : j ≠ k := by
        rintro rfl
        rw [hc] at hd
        exact hn (hdn.symm.trans (congrArg Channel.breakId (Option.some.inj hd).symm))
      exact ⟨d, (chan_parted_other hjk s).trans hd, hdn⟩

theorem Linked.heldRecord (h : Linked s) (r : BreakRecord) : Linked (heldRecord r s) :=
  (h.moveState r.id .decidedHold).updateRecord r.id (f := fun x => { x with stance := .hold .self })

theorem Linked.heldParted (h : Linked s) (r : BreakRecord) : Linked (heldParted r s) := by
  cases hk : r.channel with
  | none => rw [heldParted_none hk]; exact h.heldRecord r
  | some k => rw [heldParted_some hk]; exact (h.heldRecord r).parted k

theorem Linked.dropRecord (h : Linked s) (id : Nat) : Linked (dropRecord id s) :=
  h.ofRecords rfl fun n x hx => by
    by_cases hn : n = id
    · subst hn; rw [record?_dropRecord_same] at hx; cases hx
    · rw [record?_dropRecord_other hn] at hx; exact ⟨x, hx, rfl⟩

theorem Linked.channelMove (h : Linked s) (id : Nat) (new : BreakState) (cause : Option AbandonCause) :
    Linked (channelMove id new cause s) := by
  refine h.ofRecords (congrArg Channels.chan (chans_of_stock (stock_channelMove id new cause s))) fun n x hx => ?_
  by_cases hn : n = id
  · subst hn
    cases hr : s.record? n with
    | none =>
      rw [channelMove_refused (fun r h => by rw [hr] at h; cases h), hr] at hx; cases hx
    | some r =>
      cases hallowed : moveAllowed r.state new with
      | false =>
        rw [channelMove_refused (fun y h => by rw [hr] at h; rw [← Option.some.inj h]; exact hallowed), hr] at hx
        exact ⟨r, rfl, by rw [Option.some.inj hx]⟩
      | true =>
        obtain ⟨l, hl⟩ := record?_channelMove cause hr hallowed
        rw [hl] at hx
        exact ⟨r, rfl, by rw [← Option.some.inj hx]; rfl⟩
  · rw [record?_channelMove_other hn] at hx; exact ⟨x, hx, rfl⟩

/-! ### A record that is DECIDED_GO or held already -/

/-- Held for the site's own reason, and with no channel (R149). -/
def ownHold (x : BreakRecord) : Prop := x.state = .decidedHold ∧ x.stance = .hold .self ∧ x.channel = none

/-- The record of a break is DECIDED_GO, or has been held. -/
structure Leaving (id : Nat) (u : State) : Prop where
  ids : u.breakIds.Nodup
  linked : Linked u
  record : ∃ x, u.record? id = some x ∧ (x.state = .decidedGo ∨ ownHold x)

theorem leaving_ofDesk (id : Nat) : OfDesk (Leaving id) := ⟨fun {s t} ht h => by
  have hids : t.breakIds = s.breakIds := congrArg (List.map BreakRecord.id) (table_of_desk ht)
  exact ⟨hids ▸ h.ids, linked_ofDesk.of_eq ht h.linked, by rw [record?_of_desk ht]; exact h.record⟩⟩

theorem record?_heldParted_same (hr : s.record? r.id = some r) (hlinked : Linked s) :
    ∃ x, (heldParted r s).record? r.id = some x ∧ ownHold x := by
  have hheld := record?_heldRecord_same hr
  cases hk : r.channel with
  | none => rw [heldParted_none hk]; exact ⟨_, hheld, rfl, rfl, hk⟩
  | some k =>
    obtain ⟨c, hc, hid⟩ := hlinked r.id r k hr hk
    rw [← chans_heldRecord r s] at hc
    rw [heldParted_some hk]
    rw [← hid] at hheld ⊢
    exact ⟨_, record?_parted_same hc hheld, rfl, rfl, rfl⟩

theorem handOff_leaving (id : Nat) : HandOff (Leaving id) := by
  refine .ofDesk (leaving_ofDesk id) (fun {s n x} v hx hopen h => ?_) fun {s x} hx hgo h => ?_
  · obtain ⟨y, hy, hstate⟩ := h.record
    have hn : id ≠ n := by
      rintro rfl
      rw [hx] at hy
      rw [← Option.some.inj hy, hopen] at hstate
      rcases hstate with hs | ⟨hs, -⟩
      · cases hs
      · rw [hopen] at hs; cases hs
    refine ⟨?_, h.linked.updateRecord n (f := fun x => { x with stance := v }), y, ?_, hstate⟩
    · rw [breakIds_of_tabled (tabled_updateRecord n (fun x => { x with stance := v }) s fun _ => rfl)]; exact h.ids
    · rw [record?_updateRecord_other (f := fun x => { x with stance := v }) (fun _ => rfl) hn]; exact hy
  · refine ⟨by rw [breakIds_heldParted]; exact h.ids, h.linked.heldParted x, ?_⟩
    by_cases hn : id = x.id
    · subst hn
      obtain ⟨y, hy, hown⟩ := record?_heldParted_same hx h.linked
      exact ⟨y, hy, .inr hown⟩
    · obtain ⟨y, hy, hstate⟩ := h.record
      have hheld := (record?_heldRecord_other hn s).trans hy
      cases hk : x.channel with
      | none => rw [heldParted_none hk]; exact ⟨y, hheld, hstate⟩
      | some k =>
        obtain ⟨o, ho, hparted⟩ := record?_parted k hheld
        rw [heldParted_some hk]
        refine ⟨_, hparted, hstate.imp (fun hs => hs) fun ⟨hs, hv, hnone⟩ => ⟨hs, hv, ?_⟩⟩
        exact ho.elim (fun e => e.trans hnone) fun e => e

/-! ### A break that stands on its channel -/

/-- A break and its channel as they were, the other channels on other breaks. -/
structure Standing (k : Nat) (r : BreakRecord) (c : Channel) (u : State) : Prop where
  ids : u.breakIds.Nodup
  linked : Linked u
  apart : ∀ j < 4, j ≠ k → ∀ d, u.chans.chan[j]? = some d → d.breakId ≠ r.id
  record : u.record? r.id = some r
  chan : u.chans.chan[k]? = some c

theorem standing_ofDesk (k : Nat) (r : BreakRecord) (c : Channel) : OfDesk (Standing k r c) := ⟨fun {s t} ht h => by
  have hids : t.breakIds = s.breakIds := congrArg (List.map BreakRecord.id) (table_of_desk ht)
  have hchan := chan_of_desk ht
  exact ⟨hids ▸ h.ids, linked_ofDesk.of_eq ht h.linked, by rw [hchan]; exact h.apart,
    by rw [record?_of_desk ht]; exact h.record, by rw [hchan]; exact h.chan⟩⟩

/-- Changes of other records. -/
theorem Standing.ofRecords (h : Standing k r c s) (hchans : t.chans = s.chans) (hids : t.breakIds.Nodup)
    (hlinked : Linked t) (hrecord : t.record? r.id = s.record? r.id) : Standing k r c t :=
  ⟨hids, hlinked, by rw [hchans]; exact h.apart, hrecord.trans h.record, by rw [hchans]; exact h.chan⟩

/-- A change of another channel that leaves its break. -/
theorem Standing.updateChan {f : Channel → Channel} (h : Standing k r c s) (hj : j ≠ k)
    (hf : ∀ d, (f d).breakId = d.breakId := by exact fun _ => rfl) : Standing k r c (updateChan j f s) := by
  refine ⟨h.ids, h.linked.updateChan j hf, fun i hfour hi d hd => ?_, h.record,
    (chan_updateChan_other f hj.symm s).trans h.chan⟩
  by_cases hij : i = j
  · subst hij
    cases hc : s.chans.chan[i]? with
    | none => simp [hc] at hd
    | some e =>
      rw [chan_updateChan_same f hc] at hd
      rw [← Option.some.inj hd, hf]; exact h.apart i hfour hi e hc
  · rw [chan_updateChan_other f hij] at hd; exact h.apart i hfour hi d hd

section OneBreak

variable (hid : c.breakId = r.id) (hzero : r.id ≠ 0)
include hid hzero

/-- The unbind of a channel that is on another break. -/
theorem Standing.parted (h : Standing k r c s) (hj : ∀ d, s.chans.chan[j]? = some d → d.breakId ≠ r.id) :
    Standing k r c (parted j s) := by
  have hjk : k ≠ j := by rintro rfl; exact hj c h.chan hid
  refine ⟨by rw [breakIds_parted]; exact h.ids, h.linked.parted j, fun i hfour hi d hd => ?_, ?_,
    (chan_parted_other hjk s).trans h.chan⟩
  · by_cases hij : i = j
    · subst hij
      cases hc : s.chans.chan[i]? with
      | none => rw [parted_none hc, hc] at hd; cases hd
      | some e =>
        rw [chan_parted_same hc] at hd
        rw [← Option.some.inj hd]; exact hzero.symm
    · rw [chan_parted_other hij] at hd; exact h.apart i hfour hi d hd
  · cases hc : s.chans.chan[j]? with
    | none => rw [parted_none hc]; exact h.record
    | some e => rw [record?_parted_other hc (hj e hc).symm]; exact h.record

theorem handOff_standing (hruns : r.state = .lockedGo ∨ r.state = .airing) : HandOff (Standing k r c) := by
  have hother : ∀ {s : State} {n x}, s.record? n = some x → x.state = .openState ∨ x.state = .decidedGo →
      Standing k r c s → r.id ≠ n := fun {s n x} hx hstate h => by
    rintro rfl
    rw [h.record] at hx
    obtain rfl := Option.some.inj hx
    rcases hruns with hs | hs <;> rw [hs] at hstate <;> rcases hstate with e | e <;> cases e
  refine .ofDesk (standing_ofDesk k r c) (fun {s n x} v hx hopen h => ?_) fun {s x} hx hgo h => ?_
  · refine h.ofRecords rfl ?_ (h.linked.updateRecord n (f := fun x => { x with stance := v }))
      (record?_updateRecord_other (f := fun x => { x with stance := v }) (fun _ => rfl) (hother hx (.inl hopen) h) s)
    rw [breakIds_of_tabled (tabled_updateRecord n (fun x => { x with stance := v }) s fun _ => rfl)]; exact h.ids
  · have hn := hother hx (.inr (hgo h.ids)) h
    have hheldIds : (heldRecord x s).breakIds = s.breakIds := breakIds_of_tabled (by simp [heldRecord])
    have hheld : Standing k r c (heldRecord x s) := h.ofRecords (chans_heldRecord x s) (hheldIds ▸ h.ids)
      (h.linked.heldRecord x) (record?_heldRecord_other hn s)
    cases hk : x.channel with
    | none => rw [heldParted_none hk]; exact hheld
    | some j =>
      rw [heldParted_some hk]
      obtain ⟨d, hd, hdn⟩ := h.linked x.id x j hx hk
      refine hheld.parted hid hzero fun e he => ?_
      rw [chans_heldRecord, hd] at he
      rw [← Option.some.inj he, hdn]; exact hn.symm

/-- Another channel gives its break up. -/
theorem givesUp_standing (hruns : r.state = .lockedGo ∨ r.state = .airing) (hfour : j < 4) (hj : j ≠ k) :
    GivesUp (Standing k r c) j now fun n => n ≠ r.id :=
  have w := handOff_standing (k := k) hid hzero hruns
  { w with
    ofBreak := fun hc h => h.apart j hfour hj _ hc
    plan := fun h => h.updateChan hj
    move := fun {s n} hn h => h.ofRecords (chans_of_stock (stock_channelMove n .abandoned (some .override) s))
      (by rw [breakIds_channelMove]; exact h.ids) (h.linked.channelMove n _ _) (record?_channelMove_other hn.symm _ _ s)
    part := fun h => h.parted hid hzero (h.apart j hfour hj)
    latch := fun {s} h => (standing_ofDesk k r c).of_eq (desk_setLatch .split s) h
    tally := fun f {_} h => h.updateChan hj
    settle := fun {s n} hn _ h => w.settleRemoval
      (fun {x i} hx hi => by
        obtain ⟨d, hd, hdn⟩ := h.linked n x i hx hi
        refine h.parted hid hzero fun e he => ?_
        rw [hd] at he
        rw [← Option.some.inj he, hdn]; exact hn)
      (fun {u} hu => hu.ofRecords rfl
        (by rw [breakIds_dropRecord]; exact hu.ids.filter _) (hu.linked.dropRecord n)
        (record?_dropRecord_other hn.symm u)) h }

end OneBreak

/-! ### A record at rest -/

theorem settleRemoval_of_running (hr : s.record? id = some r) (hover : r.state.over = false) :
    settleRemoval id s = s := by
  have hstate : (r.state == .ended || r.state == .abandoned) = r.state.over := by cases r.state <;> rfl
  unfold settleRemoval; rw [hr]; dsimp only
  rw [hstate, hover, Bool.false_and, if_neg Bool.false_ne_true]

/-- A record at rest that no channel can move stays until its removal instant. -/
theorem givesUp_rests (hrest : atRest r) (hstill : moveAllowed r.state .abandoned = false)
    (hahead : r.state.over = true → ∃ x, r.removalAt = some x ∧ now < x) (k : Nat) :
    GivesUp (fun u => u.breakIds.Nodup ∧ u.record? id = some r) k now fun _ => True :=
  have w := handOff_rests (id := id) hrest
  have hparted : ∀ {s : State} (j : Nat), s.breakIds.Nodup ∧ s.record? id = some r →
      (parted j s).breakIds.Nodup ∧ (parted j s).record? id = some r := fun {s} j h => by
    obtain ⟨o, ho, hrecord⟩ := record?_parted j h.2
    have hnone : o = r.channel := ho.elim (fun e => e) fun e => e.trans hrest.2.2.symm
    subst hnone
    exact ⟨by rw [breakIds_parted]; exact h.1, hrecord⟩
  { w with
    ofBreak := fun _ _ => trivial
    plan := fun h => h
    move := fun {s n} _ h => by
      by_cases hn : id = n
      · subst hn
        rw [channelMove_refused fun x hx => by rw [h.2] at hx; rw [← Option.some.inj hx]; exact hstill]; exact h
      · rw [breakIds_channelMove, record?_channelMove_other hn]; exact h
    part := hparted k
    latch := fun {s} h => by
      rw [show (setLatch .split s).breakIds = s.breakIds from
        congrArg (List.map BreakRecord.id) (table_of_desk (desk_setLatch .split s)), record?_setLatch]
      exact h
    tally := fun _ {_} h => h
    settle := fun {s n} _ hnow h => by
      by_cases hn : id = n
      · subst hn
        cases hover : r.state.over with
        | false => rw [settleRemoval_of_running h.2 hover]; exact h
        | true =>
          obtain ⟨x, hx, hlt⟩ := hahead hover
          rw [settleRemoval_of_ahead h.2 hx (hnow ▸ hlt)]; exact h
      · exact w.settleRemoval (fun {_ j} _ _ => hparted j h)
          (fun {u} hu =>
            ⟨by rw [breakIds_dropRecord]; exact hu.1.filter _, (record?_dropRecord_other hn u).trans hu.2⟩) h }

end Sys2Proof.Proofs
end

section
/-! OVERRIDE_CHANGE (R96, R98, R117, R123, R142, R148, R149, R173, R187, R188). -/

namespace Sys2Proof.Proofs

open Sys2Proof Sys2Proof.Machine Sys2Proof.Laws

-- As in the tests: one theorem after another, within the memory that the check leaves for threads.
set_option Elab.async false

variable {s t : State} {k : Nat} {r : BreakRecord} {c : Channel} {b : BoundBreak} {active : Bool}

/-- The new level taken, and the event raised (R187). -/
def levelTaken (active : Bool) (s : State) : State :=
  raise (.siteLine .override active)
    (updateControl (fun c => { c with overrideLine := active, overrideSince := s.osc }) s)

/-- The new level handed on to the agreement unit and the zone line (R123). -/
def overrideHandedOn (active : Bool) (s : State) : State := urgent (refresh (levelTaken active s))

theorem exec_overrideChange (hnew : s.sc.overrideLine ≠ active) (hsettled : s.sc.overrideSince + 100000 ≤ s.osc) :
    exec (.overrideChange active) s
      = .next (if active then overrideChannels (overrideHandedOn active s) else overrideHandedOn active s) := by
  have hline : lineSettled s.sc.overrideSince s = true := decide_eq_true hsettled
  simp only [exec, execOverrideChange, hline, hnew, Bool.true_eq_false, or_self, if_false]
  rfl

/-- What OVERRIDE leaves alone, and the levels of the lines. -/
theorem override_parts (active : Bool) (s : State) (ht : t = overrideChannels (overrideHandedOn active s)
    ∨ t = overrideHandedOn active s) : outer t = outer s ∧ inner t = inner (levelTaken active s) := by
  have hin : inner (overrideHandedOn active s) = inner (levelTaken active s) :=
    (inner_of_tabled (tabled_urgent _)).trans (inner_of_tabled (tabled_refresh _))
  have hout : outer (overrideHandedOn active s) = outer s := (outer_urgent _).trans (outer_refresh _)
  rcases ht with rfl | rfl
  · exact ⟨(outer_overrideChannels _).trans hout, (inner_overrideChannels _).trans hin⟩
  · exact ⟨hout, hin⟩

theorem urgent_waits (h : s.zone.schedule.isSome = true) : (urgent s).zone.slot = some .urgent := by
  unfold urgent joinSlot; rw [if_pos h]
  split
  · rfl
  · next w _ => cases w <;> rfl

/-- With the schedule started an urgent announcement waits (R117, R123). -/
theorem overrideHandedOn_waits (active : Bool) (h : s.zone.schedule.isSome = true) :
    (overrideHandedOn active s).zone.slot = some .urgent := by
  refine urgent_waits ?_
  have hzone : slotless (refresh (levelTaken active s)).zone = slotless (levelTaken active s).zone :=
    congrArg Inner.zone (inner_of_tabled (tabled_refresh _))
  rw [schedule_of_zone hzone]; exact h

theorem zero_not_mem (h : BreakTableLaw s) : 0 ∉ s.breakIds := fun hmem => by
  obtain ⟨r, hr, hzero⟩ := List.mem_map.1 hmem
  exact h.nonzero r hr hzero

section Active

variable (hbreaks : BreakTableLaw s) (hchannels : ChannelLaw s)
include hbreaks hchannels

/-- A DECIDED_GO record has been held when the level has been handed on (R148, R149). -/
theorem overrideHandedOn_holds (hr : s.record? r.id = some r) (hgo : r.state = .decidedGo) :
    (overrideHandedOn true s).breakIds.Nodup ∧ ∃ x, (overrideHandedOn true s).record? r.id = some x ∧ ownHold x := by
  have hstart : Leaving r.id (levelTaken true s) :=
    ⟨hbreaks.ids, linked_ofDesk.of_eq (s := s) (t := levelTaken true s) rfl (linked_of_law hchannels), r, hr, .inl hgo⟩
  have hended := (handOff_leaving r.id).urgent ((handOff_leaving r.id).refresh hstart)
  have hzero : 0 ∉ (levelTaken true s).breakIds := zero_not_mem (s := s) hbreaks
  have hundecided : Undecided (overrideHandedOn true s) := undecided_iff.2 (by
    unfold overrideHandedOn
    rw [reach_urgent]
    exact undecided_iff.1 (undecided_refresh (s := levelTaken true s) rfl hbreaks.ids hzero))
  obtain ⟨x, hx, hstate⟩ := hended.record
  exact ⟨hended.ids, x, hx, hstate.resolve_left (hundecided x (record?_mem hx))⟩

/-- It stays held while the channels give their breaks up. -/
theorem override_holds (hr : s.record? r.id = some r) (hgo : r.state = .decidedGo) :
    ∃ x, (overrideChannels (overrideHandedOn true s)).record? r.id = some x ∧ ownHold x := by
  obtain ⟨hids, x, hx, hown⟩ := overrideHandedOn_holds hbreaks hchannels hr hgo
  obtain ⟨hstate, hstance, hnone⟩ := hown
  have hrest : atRest x := ⟨by rw [hstate]; nofun, by rw [hstate]; nofun, hnone⟩
  have hkept := overrideChannels_keeps (givesUp_rests (id := r.id) hrest (by rw [hstate]; rfl)
    (fun hover => by rw [hstate] at hover; cases hover)) rfl ⟨hids, hx⟩
  exact ⟨x, hkept.2, hstate, hstance, hnone⟩

/-- A break on an ARMED, PLAYING or PADDING channel stands when the level has been handed on. -/
theorem overrideHandedOn_stands (hk : k < 4) (hc : s.chans.chan[k]? = some c) (hbound : c.bound = some b)
    (hr : s.record? b.id = some r) (hruns : r.state = .lockedGo ∨ r.state = .airing) :
    c.breakId = r.id ∧ r.id ≠ 0 ∧ Standing k r c (overrideHandedOn true s) := by
  have hrid := record?_id hr
  have hid : c.breakId = r.id := (breakId_of_bound hbound).trans hrid.symm
  have hzero : r.id ≠ 0 := hbreaks.nonzero r (record?_mem hr)
  have hown : r.channel = some k := by
    obtain ⟨x, hx, hxid, hxk, -⟩ := hchannels.bound k hk c b hc hbound
    have hsame := record?_of_mem hbreaks.ids hx
    rw [hxid, hr] at hsame
    rw [Option.some.inj hsame]; exact hxk
  have hapart : ∀ j < 4, j ≠ k → ∀ d, s.chans.chan[j]? = some d → d.breakId ≠ r.id := fun j hfour hj d hd hdid => by
    cases hdb : d.bound with
    | none => exact hzero (by rw [← hdid, Channel.breakId, hdb])
    | some e =>
      obtain ⟨x, hx, hxid, hxj, -⟩ := hchannels.bound j hfour d e hd hdb
      have hsame := record?_of_mem hbreaks.ids hx
      rw [hxid, ← breakId_of_bound hdb, hdid, hrid, hr] at hsame
      rw [← Option.some.inj hsame, hown] at hxj
      exact hj (Option.some.inj hxj).symm
  have hstart : Standing k r c (levelTaken true s) :=
    ⟨hbreaks.ids, linked_ofDesk.of_eq (s := s) (t := levelTaken true s) rfl (linked_of_law hchannels), hapart,
      by rw [hrid]; exact hr, hc⟩
  have w := handOff_standing (k := k) hid hzero hruns
  exact ⟨hid, hzero, w.urgent (w.refresh hstart)⟩

/-- The SPLIT latch is set by a channel that gives its break up (R173). -/
theorem override_latches (hk : k < 4) (hc : s.chans.chan[k]? = some c) (hfrozen : c.state.frozen = true)
    (hbound : c.bound = some b) (hr : s.record? b.id = some r) (hruns : r.state = .lockedGo ∨ r.state = .airing) :
    (overrideChannels (overrideHandedOn true s)).sc.latchSplit = true := by
  obtain ⟨hid, hzero, hstands⟩ := overrideHandedOn_stands hbreaks hchannels hk hc hbound hr hruns
  refine overrideChannels_at hk (fun j hfour hj => givesUp_standing hid hzero hruns hfour hj)
    (fun j => ofLine_latched.givesUp j _) (fun {u} hu h => ?_) rfl hstands
  rw [channelOverride_some h.chan, if_pos hfrozen, giveUp_some .override h.chan]
  exact (ofLine_latched.givesUp k u.tb.now).settle trivial (by
    rw [countChan_tb, tb_of_outer (outer_setLatch _ _), raise_tb, tb_of_outer (outer_unbind _ _),
      tb_of_outer (outer_channelMove _ _ _ _)]; rfl) (latchSplit_setLatch _)

/-- The break is ABANDONED, and stays in the table while its removal instant has not come (R96, R98, R173). -/
theorem override_abandons (hk : k < 4) (hc : s.chans.chan[k]? = some c) (hfrozen : c.state.frozen = true)
    (hbound : c.bound = some b) (hr : s.record? b.id = some r) (hruns : r.state = .lockedGo ∨ r.state = .airing)
    (hahead : s.tb.now < r.cIn + 20000000) :
    ∃ l, (overrideChannels (overrideHandedOn true s)).record? b.id
      = some (endedRecord .abandoned (some .override) l r) := by
  obtain ⟨hid, hzero, hstands⟩ := overrideHandedOn_stands hbreaks hchannels hk hc hbound hr hruns
  have hnow : (overrideHandedOn true s).tb.now = s.tb.now :=
    congrArg TimeBase.now (tb_of_outer ((outer_urgent _).trans (outer_refresh (levelTaken true s))))
  have hrests : ∀ l j, GivesUp (fun u => u.breakIds.Nodup
      ∧ u.record? r.id = some (endedRecord .abandoned (some .override) l r)) j s.tb.now fun _ => True := fun l j =>
    givesUp_rests ⟨(by decide : BreakState.abandoned ≠ .openState), (by decide : BreakState.abandoned ≠ .decidedGo), rfl⟩
      rfl (fun _ => ⟨_, removalAt_of_over rfl _ _ _, hahead⟩) j
  have hended := overrideChannels_at (s := overrideHandedOn true s) (now := s.tb.now) hk
    (fun j hfour hj => givesUp_standing hid hzero hruns hfour hj) (fun j => GivesUp.exists fun l => hrests l j)
    (fun {u} hu h => ?_) hnow hstands
  · obtain ⟨l, -, hl⟩ := hended
    rw [← record?_id hr]; exact ⟨l, hl⟩
  · have hrecord := h.record
    rw [← hid] at hrecord
    obtain ⟨-, -, hids, l, hl⟩ := giveUp_spec (cause := .override) h.chan h.ids hrecord
      (by rcases hruns with hs | hs <;> rw [hs] <;> rfl) (hu ▸ hahead)
    rw [channelOverride_some h.chan, if_pos hfrozen]
    exact ⟨l, hids ▸ h.ids, hid ▸ hl⟩

end Active

/-- Settles O53: the level is handed on, and then each channel that has frozen its spots gives its break up. -/
theorem overrideGivesUpEveryBreak : Obligations.OverrideGivesUpEveryBreak := by
  unfold Obligations.OverrideGivesUpEveryBreak
  intro active s hnew hsettled
  refine ⟨_, exec_overrideChange hnew hsettled, ?_⟩
  have hparts := override_parts (t := if active then overrideChannels (overrideHandedOn active s)
    else overrideHandedOn active s) active s (by cases active <;> simp)
  generalize ht : (if active then overrideChannels (overrideHandedOn active s) else overrideHandedOn active s) = t
    at hparts ⊢
  obtain ⟨hout, hin⟩ := hparts
  have hcontrol := control_of_inner hin
  have hmemory := memory_of_inner hin
  have hinhibit := congrArg SiteControl.inhibitLine hcontrol
  have hinUse := congrArg SiteControl.inUse hcontrol
  refine ⟨congrArg SiteControl.overrideLine hcontrol, congrArg SiteControl.overrideSince hcontrol, fun hstarted => ?_,
    fun hactive k hk => ?_, fun hactive hbreaks hchannels => ⟨fun r hr hgo => ?_,
      fun k hk c b r hc hfrozen hbound hr hruns => ⟨?_, fun hahead => ?_⟩⟩,
    tb_of_outer hout, em_of_outer hout, congrArg Outer.intake hout, congrArg Outer.ros hout, hmemory,
    hinhibit, hinUse⟩
  · have hwaits := overrideHandedOn_waits active hstarted
    rw [← ht]; split
    · exact overrideChannels_keeps (fun j => ofLine_urgentWaits.givesUp j _) rfl hwaits
    · exact hwaits
  · rw [← ht, if_pos hactive]; exact overrideChannels_thaws hk _
  all_goals subst hactive; rw [if_pos rfl] at ht; rw [← ht]
  · obtain ⟨x, hx, hown⟩ := override_holds hbreaks hchannels (record?_of_mem hbreaks.ids hr) hgo
    exact ⟨x, hx, hown⟩
  · exact override_latches hbreaks hchannels hk hc hfrozen hbound hr hruns
  · obtain ⟨l, hl⟩ := override_abandons hbreaks hchannels hk hc hfrozen hbound hr hruns hahead
    exact ⟨_, hl, rfl, rfl, abandonCause_of_over rfl _ _ _, removalAt_of_over rfl _ _ _, rfl⟩

end Sys2Proof.Proofs
end

section
/-! SUPPORT. A cue cell within a frame (R28, R85, R86), and what each of the cue decoder's answers makes of the break
table. -/

namespace Sys2Proof.Proofs

open Sys2Proof Sys2Proof.Machine Sys2Proof.Laws

-- As in the tests: one theorem after another, within the memory that the check leaves for threads.
set_option Elab.async false

variable {s t u : State} {c : SiteConfig} {cell : Cell} {action : CueAction} {b : BreakCue} {id k : Nat} {r : BreakRecord}
  {cOut cIn arrival : Time}

/-! ### The cell (R28) -/

theorem sortCell_cue (htag : cellTag cell = c.controlTag) (hkind : cellKind cell = .cue) : sortCell c cell = .cue := by
  unfold sortCell; rw [hkind]; exact if_pos htag

/-- The state in which a cue is acted on: its cell received, and the cue counted (R85). -/
def cueReceived (c : SiteConfig) (cell : Cell) (s : State) : State :=
  countCues (fun k => { k with taken := bump k.taken }) (received c cell s)

/-- Two states that differ in feed intake, the event queue and the emission controller's queue alone. -/
structure SameBeside (t v : State) : Prop where
  cues : t.cues = v.cues
  store : t.store = v.store
  chans : t.chans = v.chans
  agree : t.agree = v.agree
  tb : t.tb = v.tb
  ros : t.ros = v.ros
  sc : t.sc = v.sc
  emission : t.em.state = v.em.state

theorem sameBeside_of_aside (h : aside t = aside u) (hem : t.em.state = u.em.state) : SameBeside t u := by
  have hcues := congrArg State.cues h
  have hstore := congrArg State.store h
  have hchans := congrArg State.chans h
  have hagree := congrArg State.agree h
  have htb := congrArg State.tb h
  have hros := congrArg State.ros h
  have hsc := congrArg State.sc h
  exact ⟨hcues, hstore, hchans, hagree, htb, hros, hsc, hem⟩

/-- A matching cue within a frame: its action is carried out, and its cell then takes its place in the frame. -/
theorem exec_cue (h : CueTaken c cell action s) : ∃ t, exec (.cellTaken cell) s = .next t
    ∧ SameBeside t (takeAction c action s.tb.now (cueReceived c cell s)) := by
  obtain ⟨⟨a, hcell⟩, zone, mask, hcue, hzone⟩ := h
  have hsort := sortCell_cue hcell.onTag hcell.ofKind
  have hhead : isFrameHead cell = false := not_frameHead_of_kind (by rw [hcell.ofKind]; exact CellKind.noConfusion)
  have htaken : handCell c .cue cell (isContinuous cell s) (received c cell s)
      = takeAction c action s.tb.now (cueReceived c cell s) := by
    unfold handCell cueTaken; rw [hcue]; exact if_pos hzone
  refine ⟨_, exec_frameCell hcell.good hhead hcell.assembly, ?_⟩
  rw [hsort, placeCell_more hcell.more, htaken]
  refine sameBeside_of_aside (u := takeAction c action s.tb.now (cueReceived c cell s))
    ((aside_setAssembly _ _).trans (aside_placed _ _ _ _)) ?_
  have hsignals : ∀ u : State, signals (setAssembly (some { a with remaining := a.remaining - 1 })
      (placed .cue cell a.record u)) = signals u := fun u => by
    unfold placed
    cases a.record with
    | none => rfl
    | some n => simp
  exact congrArg Signals.state (hsignals _)

/-! ### The answers -/

theorem takeAction_break (hid : b.id ≠ 0) (u : State) :
    takeAction c (.breakCue b) arrival u = takeBreak c b arrival u := if_neg hid

theorem takeAction_cancel (hid : id ≠ 0) (u : State) : takeAction c (.cancel id) arrival u = takeCancel id u := if_neg hid

theorem takeBreak_new (hr : u.record? b.id = none) : takeBreak c b arrival u = judgeCandidate c b arrival u := by
  unfold takeBreak; rw [hr]

theorem takeBreak_repeat (hr : u.record? b.id = some r) (hsame : r.version = b.version ∧ r.check = b.check) :
    takeBreak c b arrival u = countCues (fun k => { k with repeats := bump k.repeats }) u := by
  unfold takeBreak; rw [hr]; exact if_pos hsame

theorem takeBreak_change (hr : u.record? b.id = some r) (hnew : r.version ≠ b.version ∨ r.check ≠ b.check)
    (hopen : r.state = .openState) : takeBreak c b arrival u = judgeCandidate c b arrival u := by
  unfold takeBreak; rw [hr]; dsimp only
  rw [if_neg (fun h => hnew.elim (absurd h.1) (absurd h.2)), if_pos hopen]

theorem takeBreak_late (hr : u.record? b.id = some r) (hnew : r.version ≠ b.version ∨ r.check ≠ b.check)
    (hopen : r.state ≠ .openState) : takeBreak c b arrival u = refuseCue b.id b.version .changedLate u := by
  unfold takeBreak; rw [hr]; dsimp only
  rw [if_neg (fun h => hnew.elim (absurd h.1) (absurd h.2)), if_neg hopen]

theorem takeCancel_unknown (hr : u.record? id = none) :
    takeCancel id u = countCues (fun k => { k with unknownCancels := bump k.unknownCancels }) u := by
  unfold takeCancel; rw [hr]

theorem takeCancel_taken (hr : u.record? id = some r) (h : r.state.cancellable = true) : takeCancel id u
    = countCues (fun k => { k with cancels := bump k.cancels })
      (raise (.breakCancelled id r.state) (removeRecord id u)) := by
  unfold takeCancel; rw [hr]; exact if_pos h

theorem takeCancel_late (hr : u.record? id = some r) (h : r.state.cancellable = false) :
    takeCancel id u = refuseCue id 0 .cancelLate u := by
  unfold takeCancel; rw [hr]; exact if_neg (by rw [h]; exact Bool.false_ne_true)

theorem judgeCandidate_noTime (h : u.tb.disc = .unset) :
    judgeCandidate c b arrival u = refuseCue b.id b.version .noTime u := if_pos h

section Candidate

variable (hset : u.tb.disc ≠ .unset)
  (hpoints : splicePoints b arrival = (cOut, cIn))
include hset hpoints

theorem judgeCandidate_refused {cause : RefusalCause} (h : refusalOf c b cOut cIn arrival u = some cause) :
    judgeCandidate c b arrival u = refuseCue b.id b.version cause u := by
  unfold judgeCandidate; rw [if_neg hset, hpoints]; dsimp only; rw [h]

theorem judgeCandidate_new (h : Admissible c b cOut cIn arrival u) (hr : u.record? b.id = none) :
    judgeCandidate c b arrival u = acceptBreak c b cOut cIn u := by
  unfold judgeCandidate; rw [if_neg hset, hpoints]; dsimp only
  rw [refusalOf_eq_none_iff.2 h]; dsimp only; rw [hr]

theorem judgeCandidate_change (h : Admissible c b cOut cIn arrival u) (hr : u.record? b.id = some r) :
    judgeCandidate c b arrival u = updateBreak c b cOut cIn r u := by
  unfold judgeCandidate; rw [if_neg hset, hpoints]; dsimp only
  rw [refusalOf_eq_none_iff.2 h]; dsimp only; rw [hr]

end Candidate

/-! ### An OPEN record that changes (R91) -/

/-- The content of an accepted cue in an OPEN record (R91). -/
def changedBy (n r : BreakRecord) : BreakRecord :=
  { r with
    check := n.check
    version := n.version
    tag := n.tag
    cOut := n.cOut
    cIn := n.cIn
    spots := n.spots
    pad := n.pad
    decisionAt := n.decisionAt
    lockAt := n.lockAt }

/-- An OPEN record stays OPEN with its content through every hand-off; its stance and its channel alone may change. -/
def Stays (id : Nat) (r : BreakRecord) (u : State) : Prop :=
  u.breakIds.Nodup ∧ ∃ v o, u.record? id = some { r with stance := v, channel := o }

theorem stays_ofDesk (id : Nat) (r : BreakRecord) : OfDesk (Stays id r) := ⟨fun {s t} ht h => by
  unfold Stays
  rw [show t.breakIds = s.breakIds from congrArg (List.map BreakRecord.id) (table_of_desk ht), record?_of_desk ht]
  exact h⟩

theorem handOff_stays (hopen : r.state = .openState) : HandOff (Stays id r) := by
  refine .ofDesk (stays_ofDesk id r) (fun {s n x} v hx _ h => ⟨?_, ?_⟩) fun {s x} hx hgo h => ⟨?_, ?_⟩
  · rw [breakIds_of_tabled (tabled_updateRecord n (fun x => { x with stance := v }) s fun _ => rfl)]; exact h.1
  · obtain ⟨w, o, hw⟩ := h.2
    rw [record?_updateRecord (f := fun x => { x with stance := v }) (fun _ => rfl), hw]
    by_cases hn : id = n
    · exact ⟨v, o, by rw [Option.map_some, if_pos hn]⟩
    · exact ⟨w, o, by rw [Option.map_some, if_neg hn]⟩
  · rw [breakIds_heldParted]; exact h.1
  · obtain ⟨w, o, hw⟩ := h.2
    have hn : id ≠ x.id := fun hn => by
      rw [← hn, hw] at hx
      have hgo' := hgo h.1
      rw [← Option.some.inj hx] at hgo'
      exact absurd (hopen.symm.trans hgo') (by decide)
    have hheld := (record?_heldRecord_other hn s).trans hw
    cases hk : x.channel with
    | none => rw [heldParted_none hk]; exact ⟨w, o, hheld⟩
    | some k =>
      obtain ⟨o', -, hparted⟩ := record?_parted k hheld
      rw [heldParted_some hk]; exact ⟨w, o', hparted⟩

/-- The other reservations do not depend on the record itself (R140). -/
theorem reservedOthers_setStance (id : Nat) (v : Stance) (s : State) :
    reservedOthers (setStance id v s) id = reservedOthers s id := by
  have hfilter : ∀ l : List BreakRecord,
      (updateWhere (fun x => x.id == id) (fun x => { x with stance := v }) l).filter
          (fun x => x.id != id && x.channel.isSome)
        = l.filter fun x => x.id != id && x.channel.isSome := fun l => by
    induction l with
    | nil => rfl
    | cons x l ih =>
      unfold updateWhere at ih ⊢
      by_cases hx : x.id = id
      · simp only [List.map_cons, List.filter_cons, ih]; simp [hx]
      · simp only [List.map_cons, List.filter_cons, ih]; simp [hx]
  rcases setStance_cases id v s with h | ⟨o, h⟩
  · rw [h]
  · rw [h]
    unfold reservedOthers
    rw [table_of_desk (t := reportStance id (some o) v (urgent _)) ((desk_reportStance _ _ _ _).trans (desk_urgent _))]
    exact hfilter s.cues.table

theorem stanceOf_of_parts (hsite : siteReason t = siteReason s) (hstore : t.store = s.store)
    (hothers : reservedOthers t r.id = reservedOthers s r.id) : stanceOf t r = stanceOf s r := by
  unfold stanceOf channelFree; rw [hsite, hstore, hothers]

theorem sc_setStance (id : Nat) (v : Stance) (s : State) : (setStance id v s).sc = s.sc := by
  rcases setStance_cases id v s with h | ⟨o, h⟩
  · rw [h]
  · rw [h]; exact sc_urgent _

/-- The stance that a record is given is the one the conditions give after it too (R137). -/
theorem stanceOf_setStance (hr : r.id = id) (v : Stance) (s : State) :
    stanceOf (setStance id v s) r = stanceOf s r :=
  stanceOf_of_parts (siteReason_of_parts (outer_setStance id v s) (sc_setStance id v s))
    (store_of_stock (stock_setStance id v s)) (by rw [hr]; exact reservedOthers_setStance id v s)

/-- The state of a change before the stance is recomputed. -/
def changedBreak (c : SiteConfig) (b : BreakCue) (cOut cIn : Time) (old : BreakRecord) (s : State) : State :=
  forEach (releaseSpot refresh) old.spotsNamed (forEach protectSpot (newRecord c b cOut cIn).spotsNamed
    (updateRecord b.id (changedBy (newRecord c b cOut cIn)) s))

theorem updateBreak_eq (c : SiteConfig) (b : BreakCue) (cOut cIn : Time) (old : BreakRecord) (s : State) :
    updateBreak c b cOut cIn old s = countCues (fun k => { k with updates := bump k.updates })
      (raise (.breakUpdated b.id old.version b.version) (refreshRecord b.id (changedBreak c b cOut cIn old s))) := rfl

theorem changedBreak_stays (hids : s.breakIds.Nodup) (hr : s.record? b.id = some r) (hopen : r.state = .openState) :
    Stays b.id (changedBy (newRecord c b cOut cIn) r) (changedBreak c b cOut cIn r s) := by
  have w := handOff_stays (id := b.id) (r := changedBy (newRecord c b cOut cIn) r) hopen
  refine w.releaseSpots w.refresh _ ((stays_ofDesk _ _).forEachDesk desk_protectSpot _ ⟨?_, r.stance, r.channel, ?_⟩)
  · rw [breakIds_of_tabled (tabled_updateRecord b.id (changedBy (newRecord c b cOut cIn)) s fun _ => rfl)]; exact hids
  · exact record?_updateRecord_same (r := r) (f := changedBy (newRecord c b cOut cIn)) (fun _ => rfl) hr

/-- An OPEN record after its change: the cue's content, and the stance that the conditions give (R91, R137). -/
theorem updateBreak_record (hids : s.breakIds.Nodup) (hr : s.record? b.id = some r) (hopen : r.state = .openState) :
    ∃ v o, (updateBreak c b cOut cIn r s).record? b.id
        = some { changedBy (newRecord c b cOut cIn) r with stance := v, channel := o }
      ∧ v = stanceOf (updateBreak c b cOut cIn r s)
        { changedBy (newRecord c b cOut cIn) r with stance := v, channel := o } := by
  obtain ⟨-, w, o, hw⟩ := changedBreak_stays (c := c) (cOut := cOut) (cIn := cIn) hids hr hopen
  have hrid := record?_id hr
  rw [updateBreak_eq]
  generalize changedBreak c b cOut cIn r s = u at hw ⊢
  have hstays : ({ changedBy (newRecord c b cOut cIn) r with stance := w, channel := o } : BreakRecord).state
      = .openState := hopen
  have hrefresh : refreshRecord b.id u = setStance b.id
      (stanceOf u { changedBy (newRecord c b cOut cIn) r with stance := w, channel := o }) u := by
    unfold refreshRecord; rw [hw]; exact if_pos hstays
  refine ⟨stanceOf u { changedBy (newRecord c b cOut cIn) r with stance := w, channel := o }, o, ?_, ?_⟩
  · rw [record?_countCues, record?_raise, hrefresh]
    exact record?_setStance_same _ hw
  · rw [hrefresh]
    generalize hv : stanceOf u { changedBy (newRecord c b cOut cIn) r with stance := w, channel := o } = v
    have hkept := stanceOf_setStance (id := b.id)
      (r := { changedBy (newRecord c b cOut cIn) r with stance := v, channel := o }) hrid v u
    exact hv.symm.trans hkept.symm

end Sys2Proof.Proofs
end

section
/-! The obligations about cues (R85 to R92, R100, R150, R176). -/

namespace Sys2Proof.Proofs

open Sys2Proof Sys2Proof.Machine Sys2Proof.Laws

-- As in the tests: one theorem after another, within the memory that the check leaves for threads.
set_option Elab.async false

variable {s t u : State} {c : SiteConfig} {cell : Cell} {action : CueAction} {b : BreakCue} {id k : Nat} {r : BreakRecord}
  {cOut cIn : Time}

/-! ### Repeats, changes and cancels -/

/-- A cue that is counted alone, with a report or without one, leaves the break table and the other blocks. -/
theorem counted_alone {f : CueCounters → CueCounters} {v : State} (h : SameBeside t (countCues f v))
    (hv : v = cueReceived c cell s ∨ ∃ e, v = raise e (cueReceived c cell s)) :
    (t.cues.table = s.cues.table ∧ t.store = s.store ∧ t.chans = s.chans ∧ t.agree = s.agree ∧ t.tb = s.tb ∧ t.ros = s.ros)
    ∧ t.cues.counters = f { s.cues.counters with taken := min (s.cues.counters.taken + 1) 4294967295 } := by
  have htable := congrArg CueDecoder.table h.cues
  have hcounters := congrArg CueDecoder.counters h.cues
  rcases hv with rfl | ⟨e, rfl⟩
  · exact ⟨⟨htable, h.store, h.chans, h.agree, h.tb, h.ros⟩, hcounters⟩
  · exact ⟨⟨htable, h.store, h.chans, h.agree, h.tb, h.ros⟩, hcounters⟩

/-- The checks of R89 passed by a cue whose points are resolved. -/
theorem admissible_received (hspan : cOut < cIn) (hlength : cIn - cOut ≤ 6000000000)
    (hearly : c.decisionMs * 10000 + c.marginMs * 10000 ≤ cOut - s.tb.now) (hrouted : b.tag ∈ c.routing)
    (hapart : ∀ x ∈ s.cues.table, x.id ≠ b.id → x.tag = b.tag → ¬(x.cOut < cIn ∧ cOut < x.cIn))
    (hroom : s.record? b.id = none → s.cues.table.length < 8) :
    Admissible c b cOut cIn s.tb.now (cueReceived c cell s) where
  interval := ⟨hspan, hlength⟩
  early := hearly
  routed := hrouted
  apart := fun x hx hid htag => by
    rw [← Bool.not_eq_true, intersects_iff]; exact hapart x hx hid htag
  room := hroom

theorem record?_of_sameBeside (h : SameBeside t u) (id : Nat) : t.record? id = u.record? id :=
  record?_of_table (congrArg CueDecoder.table h.cues) id

theorem breakIds_of_sameBeside (h : SameBeside t u) : t.breakIds = u.breakIds :=
  congrArg (fun x : CueDecoder => x.table.map BreakRecord.id) h.cues

theorem stanceOf_of_sameBeside (h : SameBeside t u) (r : BreakRecord) : stanceOf t r = stanceOf u r := by
  refine stanceOf_of_parts ?_ h.store ?_
  · unfold siteReason; rw [h.ros, h.sc, h.emission, h.tb]
  · unfold reservedOthers; rw [h.cues]

theorem updateBreak_quiet (c : SiteConfig) (b : BreakCue) (r : BreakRecord) (cOut cIn : Time) (s : State) :
    Quiet s (refreshRecord b.id (changedBreak c b cOut cIn r s)) :=
  .refreshRecord _ (.forEach (fun x _ _ h => Quiet.releaseSpot Quiet.refresh x h) _
    (.forEach (fun x _ _ h => Quiet.protectSpot x h) _ (.updateRecord _ _ .refl)))

theorem updateBreak_tally (c : SiteConfig) (b : BreakCue) (r : BreakRecord) (cOut cIn : Time) (s : State) :
    (updateBreak c b cOut cIn r s).cues.counters = { s.cues.counters with updates := bump s.cues.counters.updates } := by
  have hcounters : (refreshRecord b.id (changedBreak c b cOut cIn r s)).cues.counters = s.cues.counters :=
    congrArg Prod.fst (updateBreak_quiet c b r cOut cIn s).tally
  rw [updateBreak_eq, countCues_cues, raise_cues, hcounters]

theorem updateBreak_breakIds (c : SiteConfig) (b : BreakCue) (r : BreakRecord) (cOut cIn : Time) (s : State) :
    (updateBreak c b cOut cIn r s).breakIds = s.breakIds := by
  refine breakIds_of_tabled ?_
  rw [updateBreak_eq, tabled_countCues, tabled_raise, tabled_refreshRecord, changedBreak,
    forEach_keeps tabled _ (tabled_releaseSpot tabled_refresh), forEach_keeps tabled _ tabled_protectSpot]
  exact tabled_updateRecord b.id (changedBy (newRecord c b cOut cIn)) s fun _ => rfl

theorem removeRecord_tally (id : Nat) (s : State) : (removeRecord id s).cues.counters = s.cues.counters :=
  congrArg Prod.fst (Quiet.refl.removeRecord (s := s) id).tally

/-- The channel of a record that leaves is IDLE (R100, R176). -/
theorem removeRecord_chan {d : Channel} (hr : s.record? id = some r) (hk : r.channel = some k)
    (hd : s.chans.chan[k]? = some d) : (removeRecord id s).chans.chan[k]? = some d.unbound := by
  refine (handOff_idles k (c := d.unbound) rfl).removeRecord hr (fun j hj => ?_) (fun hu => hu) (fun hnone => ?_)
  · obtain rfl : k = j := Option.some.inj (hk.symm.trans hj)
    exact chan_parted_same hd
  · rw [hk] at hnone; cases hnone

/-- An OPEN record after its change, seen past the cell's place in the frame (R91). -/
theorem change_spec (h : SameBeside t (updateBreak c b cOut cIn r s)) (hids : s.breakIds.Nodup)
    (hr : s.record? b.id = some r) (hopen : r.state = .openState) :
    t.breakIds = s.breakIds ∧ (∃ v o, t.record? b.id
        = some { changedBy (newRecord c b cOut cIn) r with stance := v, channel := o }
      ∧ v = stanceOf t { changedBy (newRecord c b cOut cIn) r with stance := v, channel := o })
    ∧ t.cues.counters = { s.cues.counters with updates := bump s.cues.counters.updates }
    ∧ t.store.memory = s.store.memory ∧ t.tb = s.tb ∧ t.ros = s.ros ∧ t.em.state = s.em.state := by
  obtain ⟨v, o, hrecord, hstance⟩ := updateBreak_record (c := c) (cOut := cOut) (cIn := cIn) hids hr hopen
  have hquiet := updateBreak_quiet c b r cOut cIn s
  have htb := tb_of_outer hquiet.outer
  have hros := congrArg Outer.ros hquiet.outer
  have hem := congrArg Emission.state (em_of_outer hquiet.outer)
  have hmemory := hquiet.memory
  refine ⟨?_, ⟨v, o, (record?_of_sameBeside h _).trans hrecord, hstance.trans (stanceOf_of_sameBeside h _).symm⟩, ?_, ?_,
    h.tb.trans htb, h.ros.trans hros, h.emission.trans hem⟩
  · rw [breakIds_of_sameBeside h, updateBreak_breakIds]
  · rw [h.cues, updateBreak_tally]
  · rw [h.store]; exact hmemory

/-- A record that a CANCEL takes has left the table (R92, R100, R150). -/
theorem cancel_spec {e : Event} (h : SameBeside t (countCues (fun k => { k with cancels := bump k.cancels })
      (raise e (removeRecord id s)))) (hr : s.record? id = some r) (hlinked : Linked s) :
    t.record? id = none ∧ t.breakIds = s.breakIds.filter (fun n => n != id)
    ∧ (∀ k, r.channel = some k → ∃ x, t.chans.chan[k]? = some x ∧ x.state = .idle ∧ x.bound = none)
    ∧ t.cues.counters = { s.cues.counters with cancels := bump s.cues.counters.cancels }
    ∧ t.store.memory = s.store.memory ∧ t.tb = s.tb ∧ t.ros = s.ros ∧ t.em.state = s.em.state := by
  have hquiet := Quiet.refl.removeRecord (s := s) id
  have htb := tb_of_outer hquiet.outer
  have hros := congrArg Outer.ros hquiet.outer
  have hem := congrArg Emission.state (em_of_outer hquiet.outer)
  have hmemory := hquiet.memory
  refine ⟨(record?_of_sameBeside h id).trans (record?_removeRecord hr),
    (breakIds_of_sameBeside h).trans (breakIds_removeRecord hr), fun k hk => ?_, ?_, ?_, h.tb.trans htb, h.ros.trans hros,
    h.emission.trans hem⟩
  · obtain ⟨d, hd, -⟩ := hlinked id r k hr hk
    exact ⟨d.unbound, by rw [h.chans]; exact removeRecord_chan hr hk hd, rfl, rfl⟩
  · rw [h.cues, countCues_cues, raise_cues, removeRecord_tally]
  · rw [h.store]; exact hmemory

/-- Settles O28: each answer of the cue decoder, carried past the cell's place in the frame. -/
theorem cuesRepeatUpdateAndCancelBreaks : Obligations.CuesRepeatUpdateAndCancelBreaks := by
  unfold Obligations.CuesRepeatUpdateAndCancelBreaks
  refine ⟨fun c cell b r s h hid hr hversion hcheck => ?_,
    fun c cell b r s h hid hr hnew hopen hset hids => ?_,
    fun c cell id r s h hid hr hbreaks hchannels => ⟨fun hstate => ?_, fun hopen hgo hhold => ?_⟩, fun c cell id s h => ⟨fun hid hr => ?_, fun hid => ?_⟩⟩
  · obtain ⟨t, hexec, ht⟩ := exec_cue h
    have hr' : (cueReceived c cell s).record? b.id = some r := hr
    rw [takeAction_break hid, takeBreak_repeat hr' ⟨hversion, hcheck⟩] at ht
    exact ⟨t, hexec, counted_alone ht (.inl rfl)⟩
  · dsimp only
    intro hspan hlength hearly hrouted hapart
    obtain ⟨t, hexec, ht⟩ := exec_cue h
    have hr' : (cueReceived c cell s).record? b.id = some r := hr
    have hset' : (cueReceived c cell s).tb.disc ≠ .unset := hset
    rw [takeAction_break hid, takeBreak_change hr' hnew hopen, judgeCandidate_change hset' rfl
      (admissible_received hspan hlength hearly hrouted hapart fun hnone => by rw [hr] at hnone; cases hnone) hr'] at ht
    obtain ⟨hbreakIds, ⟨v, o, hrecord, hstance⟩, hkept⟩ := change_spec ht hids hr' hopen
    exact ⟨t, _, hexec, hbreakIds, hrecord, rfl, rfl, rfl, rfl, rfl, rfl, rfl, hopen, hstance, rfl, rfl, hkept⟩
  · obtain ⟨t, hexec, ht⟩ := exec_cue h
    have hr' : (cueReceived c cell s).record? id = some r := hr
    have hcancellable : r.state.cancellable = true := by rcases hstate with hs | hs | hs <;> rw [hs] <;> rfl
    rw [takeAction_cancel hid, takeCancel_taken hr' hcancellable] at ht
    exact ⟨t, hexec, cancel_spec ht hr' (linked_ofDesk.of_eq (s := s) rfl (linked_of_law hchannels))⟩
  · obtain ⟨t, hexec, ht⟩ := exec_cue h
    have hr' : (cueReceived c cell s).record? id = some r := hr
    have hcancellable : r.state.cancellable = false := by
      cases hs : r.state with
      | openState => exact absurd hs hopen
      | decidedGo => exact absurd hs hgo
      | decidedHold => exact absurd hs hhold
      | lockedGo | lockedHold | airing | ended | abandoned => rfl
    rw [takeAction_cancel hid, takeCancel_late hr' hcancellable] at ht
    exact ⟨t, hexec, counted_alone ht (.inr ⟨_, rfl⟩)⟩
  · obtain ⟨t, hexec, ht⟩ := exec_cue h
    have hr' : (cueReceived c cell s).record? id = none := hr
    rw [takeAction_cancel hid, takeCancel_unknown hr'] at ht
    exact ⟨t, hexec, counted_alone ht (.inl rfl)⟩
  · obtain ⟨t, hexec, ht⟩ := exec_cue h
    rw [show takeAction c (.cancel id) s.tb.now (cueReceived c cell s)
      = countCues (fun k => { k with zeroId := bump k.zeroId }) (cueReceived c cell s) from if_pos hid] at ht
    exact ⟨t, hexec, counted_alone ht (.inl rfl)⟩

/-! ### New breaks, and refusals -/

theorem cues_urgent (s : State) : (urgent s).cues = s.cues := by
  unfold urgent joinSlot; (repeat' split) <;> rfl

theorem freePages_protectSpots (l : List Spot) (s : State) :
    (forEach protectSpot l s).store.freePages = s.store.freePages :=
  forEach_keeps (fun s : State => s.store.freePages) _ (fun x s => by unfold protectSpot; split <;> rfl) l s

/-- A new break with the stance that the conditions give it (R90, R137). -/
def acceptedRecord (c : SiteConfig) (b : BreakCue) (cOut cIn : Time) (s : State) : BreakRecord :=
  { newRecord c b cOut cIn with stance := stanceOf s (newRecord c b cOut cIn) }

/-- A new break in the table, its spots protected, before its reports. -/
def joinedBreak (c : SiteConfig) (b : BreakCue) (cOut cIn : Time) (s : State) : State :=
  forEach protectSpot (acceptedRecord c b cOut cIn s).spotsNamed (joinRecord (acceptedRecord c b cOut cIn s) s)

theorem acceptBreak_eq (c : SiteConfig) (b : BreakCue) (cOut cIn : Time) (s : State) :
    acceptBreak c b cOut cIn s = countCues (fun k => { k with accepted := bump k.accepted })
      (raise (.breakAccepted b.id b.version b.tag cOut cIn) (reportStance b.id none (acceptedRecord c b cOut cIn s).stance
        (urgent (joinedBreak c b cOut cIn s)))) := rfl

/-- An accepted break, seen past the cell's place in the frame (R90). -/
theorem accept_spec (h : SameBeside t (acceptBreak c b cOut cIn s)) :
    t.cues.table = s.cues.table ++ [acceptedRecord c b cOut cIn s]
    ∧ t.cues.counters = { s.cues.counters with accepted := bump s.cues.counters.accepted }
    ∧ t.store.memory = s.store.memory ∧ t.store.freePages = s.store.freePages ∧ t.chans = s.chans ∧ t.tb = s.tb
    ∧ t.ros = s.ros ∧ t.em.state = s.em.state := by
  have hquiet : Quiet s (joinedBreak c b cOut cIn s) := .forEach (fun x _ _ h => Quiet.protectSpot x h) _ (.table _ .refl)
  have hcues : (joinedBreak c b cOut cIn s).cues = (joinRecord (acceptedRecord c b cOut cIn s) s).cues :=
    cues_protectSpots _ _
  have hchans : (joinedBreak c b cOut cIn s).chans = s.chans := chans_protectSpots _ _
  have hpages : (joinedBreak c b cOut cIn s).store.freePages = s.store.freePages := freePages_protectSpots _ _
  have hout : outer (acceptBreak c b cOut cIn s) = outer s := by
    rw [acceptBreak_eq, outer_countCues, outer_raise, outer_reportStance, outer_urgent]; exact hquiet.outer
  have hstock : stock (acceptBreak c b cOut cIn s) = stock (joinedBreak c b cOut cIn s) := by
    rw [acceptBreak_eq, stock_countCues, stock_raise, stock_reportStance, stock_urgent]
  have hjoined : (acceptBreak c b cOut cIn s).cues = { (joinRecord (acceptedRecord c b cOut cIn s) s).cues with
      counters := { s.cues.counters with accepted := bump s.cues.counters.accepted } } := by
    rw [acceptBreak_eq, countCues_cues, raise_cues, reportStance, countAgree_cues, raise_cues, cues_urgent, hcues]; rfl
  refine ⟨?_, ?_, ?_, ?_, ?_, h.tb.trans (tb_of_outer hout), h.ros.trans (congrArg Outer.ros hout),
    h.emission.trans (congrArg Emission.state (em_of_outer hout))⟩
  · rw [h.cues, hjoined]; rfl
  · rw [h.cues, hjoined]
  · rw [h.store, store_of_stock hstock]; exact hquiet.memory
  · rw [h.store, store_of_stock hstock]; exact hpages
  · rw [h.chans, chans_of_stock hstock]; exact hchans

/-- The refusal causes in the order of their codes. -/
def refusalCauses : List RefusalCause :=
  [.noTime, .badInterval, .lateCue, .notRouted, .overlap, .tableFull, .changedLate, .cancelLate]

theorem refusalCauses_code (x : RefusalCause) : refusalCauses[x.code]? = some x := by cases x <;> rfl

theorem code_lt (x : RefusalCause) : x.code < 8 := by cases x <;> decide

theorem code_inj {x y : RefusalCause} (h : x.code = y.code) : x = y :=
  Option.some.inj ((refusalCauses_code x).symm.trans (h ▸ refusalCauses_code y))

/-- A refusal counts under its cause and under no other (R89). -/
theorem refusals_modify {l : List Nat} (hl : l.length = 8) (cause x : RefusalCause) :
    (l.modify cause.code bump)[x.code]?
      = if x = cause then some (min (l.getD x.code 0 + 1) 4294967295) else l[x.code]? := by
  split
  · next hx =>
    subst hx
    have hlt : x.code < l.length := hl ▸ code_lt x
    rw [List.getElem?_modify_eq, List.getElem?_eq_getElem hlt, List.getD_eq_getElem _ _ hlt]; rfl
  · next hx => rw [List.getElem?_modify_ne]; exact fun hcode => hx (code_inj hcode).symm

/-- The checks of R89 in order, with the cause of the first that fails. -/
def RefusedFor (c : SiteConfig) (b : BreakCue) (cOut cIn : Time) (cause : RefusalCause) (s : State) : Prop :=
  let badInterval := cIn ≤ cOut ∨ 6000000000 < cIn - cOut
  let late := cOut - s.tb.now < c.decisionMs * 10000 + c.marginMs * 10000
  let overlap := ∃ r ∈ s.cues.table, r.id ≠ b.id ∧ r.tag = b.tag ∧ r.cOut < cIn ∧ cOut < r.cIn
  let full := s.record? b.id = none ∧ 8 ≤ s.cues.table.length
  badInterval ∧ cause = .badInterval
    ∨ ¬badInterval ∧ late ∧ cause = .lateCue
    ∨ ¬badInterval ∧ ¬late ∧ b.tag ∉ c.routing ∧ cause = .notRouted
    ∨ ¬badInterval ∧ ¬late ∧ b.tag ∈ c.routing ∧ overlap ∧ cause = .overlap
    ∨ ¬badInterval ∧ ¬late ∧ b.tag ∈ c.routing ∧ ¬overlap ∧ full ∧ cause = .tableFull

theorem refusalOf_of_refusedFor {cause : RefusalCause} (h : RefusedFor c b cOut cIn cause s) :
    refusalOf c b cOut cIn s.tb.now s = some cause := by
  have hoverlap : (s.cues.table.any fun r => r.id != b.id && r.tag == b.tag && intersects r.cOut r.cIn cOut cIn) = true
      ↔ ∃ r ∈ s.cues.table, r.id ≠ b.id ∧ r.tag = b.tag ∧ r.cOut < cIn ∧ cOut < r.cIn := by
    simp [and_assoc, intersects_iff]
  have hrouted : (!c.routing.contains b.tag) = true ↔ b.tag ∉ c.routing := by simp
  have hfull : ((s.record? b.id).isNone && decide (Config.breakTableMax ≤ s.cues.table.length)) = true
      ↔ s.record? b.id = none ∧ 8 ≤ s.cues.table.length := by
    simp [Config.breakTableMax]
  have hlate : cOut - s.tb.now < msTime c.decisionMs + msTime c.marginMs
      ↔ cOut - s.tb.now < c.decisionMs * 10000 + c.marginMs * 10000 := Iff.rfl
  unfold RefusedFor at h
  unfold refusalOf
  simp only [hoverlap, hrouted, hfull, hlate]
  rcases h with ⟨hbad, rfl⟩ | ⟨hgood, hlate, rfl⟩ | ⟨hgood, hearly, hroute, rfl⟩ | ⟨hgood, hearly, hroute, hmeets, rfl⟩
    | ⟨hgood, hearly, hroute, hapart, hfull, rfl⟩
  · rw [if_pos hbad]
  · rw [if_neg hgood, if_pos hlate]
  · rw [if_neg hgood, if_neg hearly, if_pos hroute]
  · rw [if_neg hgood, if_neg hearly, if_neg (not_not.2 hroute), if_pos hmeets]
  · rw [if_neg hgood, if_neg hearly, if_neg (not_not.2 hroute), if_neg hapart, if_pos hfull]

/-- A refused cue, seen past the cell's place in the frame (R89). -/
theorem refuse_spec {cause : RefusalCause} {n v : Nat} (h : SameBeside t (refuseCue n v cause (cueReceived c cell s)))
    (hl : s.cues.counters.refusals.length = 8) :
    t.cues.table = s.cues.table
    ∧ (∀ x, t.cues.counters.refusals[RefusalCause.code x]? =
        if x = cause then some (min (s.cues.counters.refusals.getD (RefusalCause.code x) 0 + 1) 4294967295)
        else s.cues.counters.refusals[RefusalCause.code x]?)
    ∧ t.store = s.store ∧ t.chans = s.chans ∧ t.agree = s.agree ∧ t.tb = s.tb ∧ t.ros = s.ros := by
  obtain ⟨⟨htable, hbeside⟩, hcounters⟩ := counted_alone (s := s) (c := c) (cell := cell) h (.inr ⟨_, rfl⟩)
  refine ⟨htable, fun x => ?_, hbeside⟩
  rw [hcounters]; exact refusals_modify hl cause x

/-- Settles O27: the cue's cell, its answer, and the answer past the cell's place in the frame. -/
theorem cuesAreAcceptedOrRefused : Obligations.CuesAreAcceptedOrRefused := by
  unfold Obligations.CuesAreAcceptedOrRefused
  intro refused
  constructor
  · intro c cell a b zone mask s hsize hsync hvalid hinUse hrunning hassembly hmore htag hkind hcue hzone hid hnew hset
    dsimp only
    intro hspan hlength hearly hrouted hapart hroom
    have htaken : CueTaken c cell (.breakCue b) s :=
      ⟨⟨a, ⟨⟨hsize, hsync, hvalid, hinUse, hrunning⟩, hassembly, hmore, htag, hkind⟩⟩, zone, mask, hcue, hzone⟩
    obtain ⟨t, hexec, ht⟩ := exec_cue htaken
    have hnew' : (cueReceived c cell s).record? b.id = none := hnew
    have hset' : (cueReceived c cell s).tb.disc ≠ .unset := hset
    rw [takeAction_break hid, takeBreak_new hnew', judgeCandidate_new hset' rfl
      (admissible_received hspan hlength hearly hrouted hapart fun _ => hroom) hnew'] at ht
    obtain ⟨htable, hcounters, hkept⟩ := accept_spec ht
    exact ⟨t, _, hexec, htable, rfl, rfl, rfl, rfl, rfl, rfl, rfl, rfl, rfl, rfl, rfl, rfl, rfl, rfl, rfl, rfl, rfl,
      by rw [hcounters]; rfl, by rw [hcounters]; rfl, hkept⟩
  · intro c cell a b zone mask cause s hsize hsync hvalid hinUse hrunning hassembly hmore htag hkind hcue hzone
      hid hl hrefused
    have htaken : CueTaken c cell (.breakCue b) s :=
      ⟨⟨a, ⟨⟨hsize, hsync, hvalid, hinUse, hrunning⟩, hassembly, hmore, htag, hkind⟩⟩, zone, mask, hcue, hzone⟩
    obtain ⟨t, hexec, ht⟩ := exec_cue htaken
    rw [takeAction_break hid] at ht
    have hjudged : refused c b cause s → judgeCandidate c b s.tb.now (cueReceived c cell s)
        = refuseCue b.id b.version cause (cueReceived c cell s) := fun h => by
      rcases h with ⟨hunset, rfl⟩ | ⟨hset, hfor⟩
      · exact judgeCandidate_noTime hunset
      · have hset' : (cueReceived c cell s).tb.disc ≠ .unset := hset
        have hcause : refusalOf c b (resolveStamp s.tb.now b.outS b.outF) (resolveStamp s.tb.now b.inS b.inF) s.tb.now
            (cueReceived c cell s) = some cause := refusalOf_of_refusedFor (s := s) hfor
        exact judgeCandidate_refused hset' rfl hcause
    have hanswer : takeBreak c b s.tb.now (cueReceived c cell s)
        = refuseCue b.id b.version cause (cueReceived c cell s) := by
      rcases hrefused with ⟨hnew, h⟩ | ⟨⟨r, hr, hopen, hchanged⟩, h⟩ | ⟨⟨r, hr, hopen, hchanged⟩, rfl⟩
      · have hnew' : (cueReceived c cell s).record? b.id = none := hnew
        rw [takeBreak_new hnew']; exact hjudged h
      · have hr' : (cueReceived c cell s).record? b.id = some r := hr
        rw [takeBreak_change hr' hchanged hopen]; exact hjudged h
      · have hr' : (cueReceived c cell s).record? b.id = some r := hr
        exact takeBreak_late hr' hchanged hopen
    rw [hanswer] at ht
    exact ⟨t, hexec, refuse_spec ht hl⟩

end Sys2Proof.Proofs
end
